-- ==== Sys2Proof/Word.lean ====
section
/-! DEFINITION. The words of the ML412 and the fixed-size tables its blocks are made of: bytes,
saturating counts, sequence numbers, superframe numbers, slots, and the numbers of flows,
tributaries and lamps (00_scope.md, Units and Conventions). -/

namespace Sys2Proof

/-- One byte of a cell or of a management record. -/
abbrev Byte := BitVec 8

/-- A counter of 0..4,294,967,295 that holds at the top (00_scope.md, Units and Conventions). -/
abbrev Count := BitVec 32

/-- A flow's sequence number, 0..65535, wrapping. -/
abbrev Seq := BitVec 16

/-- A superframe number, 0..4095, wrapping (R1). -/
abbrev Superframe := BitVec 12

/-- A radio grade, 0..15. -/
abbrev Grade := BitVec 4

/-- A slot number within a superframe, 0..1535 (R1). -/
abbrev Slot := Fin 1536

/-- A flow number, 0..63; flow 0 is management. -/
abbrev Flow := Fin 64

/-- A tributary number, 0..7. -/
abbrev Trib := Fin 8

/-- A tally lamp number, 0..7. -/
abbrev Lamp := Fin 8

/-- The number of a buffer of the Buffer Pool, 0..16383 (R128). -/
abbrev BufferNo := Fin 16384

/-- A fixed number of like things, one for each index below `n`. -/
abbrev Tab (n : Nat) (α : Type) := Vector α n

variable {n : Nat} {α : Type}

/-- The thing that `t` holds at `i`. -/
def Tab.read (t : Tab n α) (i : Fin n) : α := t[i.val]

/-- `t` with `v` at `i`. -/
def Tab.write (t : Tab n α) (i : Fin n) (v : α) : Tab n α := t.set i.val v i.isLt

/-- `t` with the thing at `i` put through `f`. -/
def Tab.modify (t : Tab n α) (i : Fin n) (f : α → α) : Tab n α := t.write i (f (t.read i))

/-- The table that holds `v` everywhere. -/
def Tab.fill (n : Nat) (v : α) : Tab n α := Vector.replicate n v

/-- The table that holds `f i` at each `i`. -/
def Tab.build (f : Fin n → α) : Tab n α := Vector.mk (Array.mk (List.ofFn f)) (by simp)

/-- `c` after one more, holding at the top of its range. -/
def satInc {w : Nat} (c : BitVec w) : BitVec w :=
  if c = BitVec.allOnes w then c else c + 1

/-- `c` after `k` more, one at a time, holding at the top of its range. -/
def satAdd {w : Nat} (c : BitVec w) (k : Nat) : BitVec w :=
  BitVec.ofNat w (min (c.toNat + k) (2 ^ w - 1))

/-- The sixty-four flow numbers, lowest first. -/
def allFlows : List Flow := List.finRange 64

/-- The flow numbers 1..63, lowest first: every flow but management. -/
def userFlows : List Flow := allFlows.filter (fun f => f.val != 0)

/-- The eight lamp (and tributary) numbers, lowest first. -/
def allEights : List (Fin 8) := List.finRange 8

end Sys2Proof
end

