-- ==== Sys2Proof/Syntax.lean ====
section
/-! DEFINITION. The commands of the ML412: one constructor of `Instr` for each row of
spec/opcode_table.json, with the operands the row's rule gives it. The levels that the part samples
when link time moves (R65, R135) are operands of the commands that can move it, since the table has
no row for a change of a level. A management command carries its origin (R161), the tag its
response echoes (R162) and its operands as the record's bytes hold them (R185), so that every
undefined operand value can be given. -/

namespace Sys2Proof

/-- One of the two paths between the ends. -/
inductive Bearer where
  | fibre
  | radio
  deriving DecidableEq, Repr

/-- The level on ROLE at the release of RESET (R4). -/
inductive Role where
  | mast
  | truck
  deriving DecidableEq, Repr

/-- Where a management command entered (R161). -/
inductive Origin where
  | near
  | far
  deriving DecidableEq, Repr

/-- The levels on the sampled input pins: STRIKE-A and STRIKE-B (`true` is HIGH) and GRADE. -/
structure Pins where
  strikeA : Bool
  strikeB : Bool
  grade : Grade
  deriving DecidableEq, Repr

/-- The entry record of a WRITE-ENTRY as its bytes hold it, before any test (R185). -/
structure RawEntry where
  state : Byte
  endpoint : Byte
  cls : Byte
  protection : Byte
  rate : BitVec 16
  rank : Byte
  margin : Byte
  depth : BitVec 16
  deriving DecidableEq, Repr

/-- The commands and events of spec/opcode_table.json, one constructor a row. -/
inductive Instr where
  /-- RESET is asserted (R3). -/
  | resetAssert
  /-- RESET is released, with the levels then on ROLE and on the sampled pins (R3, R4). -/
  | resetRelease (role : Role) (pins : Pins)
  /-- The Link Clock's own advance enters the next slot (R1). -/
  | slotEntry (pins : Pins)
  /-- A rising edge on REF (R5, R6). -/
  | refEdge (pins : Pins)
  /-- The superframe start at which the far marker absence of the Radio Planner reaches 3 (R70), the
  levels of the sampled pins as they last were. -/
  | farMarkerAbsence
  /-- A TIMED receiver's marker absence reaches 3 (R90). -/
  | markerAbsenceExpiry (bearer : Bearer)
  /-- The storm timer reaches 0 (R138). -/
  | stormEnd
  /-- The tally-loss timer reaches 0 (R150). -/
  | tallyLoss
  /-- A cell arrives at a tributary's ingress half (R42). -/
  | tributaryCellArrival (trib : Trib) (payload : List Byte) (len : Nat)
  /-- The downstream device takes the head of an egress FIFO (R146). -/
  | egressTake (trib : Trib)
  /-- The near host sends a cell to the management port (R156). -/
  | mgmtPortCell (payload : List Byte) (len : Nat)
  /-- The near host takes the head of the management-port egress queue, its ready asserted (R157). -/
  | mgmtPortTake
  /-- In HUNT, the twelve bytes at lane position `position` are examined (R81). -/
  | huntCandidateFound (bearer : Bearer) (position : Nat) (header : List Byte)
  /-- The 192nd byte of the cell at the cell boundary arrives (R79). -/
  | receivedCell (bearer : Bearer) (cell : List Byte) (pins : Pins)
  /-- The hold of a flow's lowest held cell expires (R123). -/
  | holdExpiry (flow : Flow)
  | identify (origin : Origin) (tag : Byte)
  | readEntry (origin : Origin) (tag : Byte) (bank flow : Byte)
  | writeEntry (origin : Origin) (tag : Byte) (bank flow : Byte) (fields : RawEntry)
  | clearEntry (origin : Origin) (tag : Byte) (bank flow : Byte)
  | copyEntries (origin : Origin) (tag : Byte) (source destination first count : Byte)
  | checkShadow (origin : Origin) (tag : Byte)
  | swapAt (origin : Origin) (tag : Byte) (target : BitVec 16)
  | cancelSwap (origin : Origin) (tag : Byte)
  | readFlowCounts (origin : Origin) (tag : Byte) (flow clear : Byte)
  | readBearer (origin : Origin) (tag : Byte) (bearer clear : Byte)
  | readLink (origin : Origin) (tag : Byte)
  | setSetting (origin : Origin) (tag : Byte) (name index : Byte) (value : BitVec 16)
  | readSettings (origin : Origin) (tag : Byte)
  | setWindow (origin : Origin) (tag : Byte) (low high : Byte)
  | freezeWindow (origin : Origin) (tag : Byte)
  | setBar (origin : Origin) (tag : Byte)
  | clearBar (origin : Origin) (tag : Byte)
  /-- SET-TALLY naming the Tally Source (R51). -/
  | setTallySource (origin : Origin) (tag : Byte) (mask : Byte) (lamps : Tab 8 Byte)
  /-- SET-TALLY naming the override (R152). -/
  | setTallyOverride (origin : Origin) (tag : Byte) (mask : Byte) (lamps : Tab 8 Byte)
  | clearTallyOverride (origin : Origin) (tag : Byte)
  | readEvents (origin : Origin) (tag : Byte)
  | ackEvents (origin : Origin) (tag : Byte) (events : BitVec 24)
  | flushTributary (origin : Origin) (tag : Byte) (trib : Byte)
  | resetDatapath (origin : Origin) (tag : Byte)
  /-- The downstream device asserts or releases the ready indication of an egress half (R146). -/
  | egressReadyChange (trib : Trib) (ready : Bool)
  deriving DecidableEq, Repr

end Sys2Proof
end

