-- ==== Sys2Proof/Decode.lean ====
section
/-! DEFINITION. The command that a word of spec/opcode_table.json spells. No row of the table gives
bits (every row's "fields" is empty and none has "fixed"), so no word spells a command. The
management commands' own byte encoding (R185) is read by Machine/Operands.lean. -/

namespace Sys2Proof

/-- The command that the `nbits` table bits `w` spell: none, for every word. -/
def decodeTableWord (_nbits _w : Nat) : Option Instr := none

end Sys2Proof
end

