-- ==== Sys2Proof/Config.lean ====
section
/-! DEFINITION. What the spec fixes for every part, and what it leaves open. The open points are
opaque constants: nothing can evaluate them, so no statement can rest on a value of theirs. -/

namespace Sys2Proof

/-- Cells an ingress or egress FIFO holds (R42, R143). -/
def Config.fifoCells : Nat := 64

/-- Cells a management queue holds (R155). -/
def Config.queueCells : Nat := 16

/-- Entries a Marker List holds (R96). -/
def Config.markerEntries : Nat := 8

/-- Usable fibre slots of one superframe (R28). -/
def Config.usableFibreSlots : Nat := 1527

/-- The orders that the spec leaves open where events fall together. Each is a question the part
answers yes or no. -/
inductive Config.Race where
  /-- A strike of the slot entry that starts a superframe is taken before the start (R139). -/
  | strikeBeforeStart
  /-- Strikes on both lines in one sample: line B's is taken first (R139). -/
  | lineBFirst
  /-- The storm's end is taken before the GRADE sample of the same start (R139). -/
  | stormEndFirst
  /-- The tally loss is taken within the superframe start, not after it (R151). -/
  | tallyLossFirst
  /-- The receiver's third absence is taken before the markers are built (R57, R90). -/
  | absenceFirst (bearer : Bearer)
  /-- A raising of event number `event` at the start reaches the Event Unit after the judging
  (R182). -/
  | raisedAfterJudging (event : Fin 20)
  /-- The far notice is placed before the flow-0 outbound queue is drained (R182). -/
  | noticeBeforeDrain
  /-- Of the flows that fall silent at one superframe start, the raising of flow `flow` is taken after
  those of the flows below it (R53, R177). -/
  | silentLater (flow : Fin 64)
  /-- The Link Clock takes a source marker before the Skew Unit does (R89, R98). -/
  | clockBeforeSkew
  /-- The Link Clock takes a source marker before the Radio Planner does (R69, R89). -/
  | clockBeforePlanner
  deriving DecidableEq, Repr

/-- FREE VALUE (log entry 4). Which way an open order falls on the given occasion. -/
opaque Config.race : Nat → Config.Race → Bool

/-- FREE VALUE (log entry 5). On the given occasion, the payload byte at the given place, beyond the
payload length of a cell that the part builds for itself. -/
opaque Config.padByte : Nat → Nat → Byte

/-- FREE VALUE (log entry 6). Where several record bytes could be called the place of the refused
value, which of them, by position in the list, the response names. -/
opaque Config.blamedIndex : List Nat → Nat

/-- FREE VALUE (log entry 14). On the given occasion, how many bytes of the bearer's lane have arrived
beyond those that the commands have told of. -/
opaque Config.bytesUntold : Nat → Bearer → Nat

end Sys2Proof
end

