-- ==== Sys2Proof/Machine/State.lean ====
section
/-! DEFINITION. The state of the ML412 as plain data, block by block (00_scope.md, Block Diagram),
with the value of every piece of it at power-on reset. Each block owns its state. -/

namespace Sys2Proof.Machine

/-- Why a command could stop the machine: no command of the ML412 does, so there is no reason. -/
inductive Fault where
  deriving DecidableEq, Repr

/-- Why a command has no meaning. -/
inductive Refusal where
  /-- Raised by `exec` alone, for a row of the table that has no meaning yet. Safe: nothing can be
  proved of the part from it. No arm raises it now. -/
  | notModelled (mnemonic : String)
  deriving DecidableEq, Repr

/-! ### Cells, link time and the names that fields take -/

/-- A payload of 180 bytes with its payload length (R42): a tributary cell or a management cell. -/
structure CellData where
  payload : List Byte
  len : Nat
  deriving DecidableEq, Repr

/-- Link time, the position (sf, slot) (R1). -/
structure LinkTime where
  sf : Superframe
  slot : Slot
  deriving DecidableEq, Repr

/-- OFF, PROGRAM or PREVIEW (R50, R148). -/
inductive LampState where
  | off
  | program
  | preview
  deriving DecidableEq, Repr

/-! ### Link Clock (R1, R2, R3, R10, R11) -/

structure LinkClock where
  time : LinkTime
  lastStarted : Superframe
  /-- The source bearer; `none` is NONE. -/
  source : Option Bearer
  /-- The disagreement count, 0..2. -/
  disagreements : Nat
  /-- The Radio Offset in slots; `none` is invalid. -/
  radioOffset : Option Int
  deriving DecidableEq, Repr

/-! ### Table Control (R17, R18, R31) -/

/-- The direction of an entry in use. BOTH-WAYS is entry 0's (R20). -/
inductive Direction where
  | outbound
  | inbound
  | bothWays
  deriving DecidableEq, Repr

inductive Endpoint where
  | trib (n : Trib)
  | tally
  | mgmt
  deriving DecidableEq, Repr

inductive FlowClass where
  | picture
  | sound
  | talk
  | control
  | tally
  | data
  deriving DecidableEq, Repr

inductive Protection where
  | both
  | bothShed
  | fibre
  | radio
  | fibreSwitch
  deriving DecidableEq, Repr

/-- The fields an entry in use carries besides its state (R18). -/
structure EntryFields where
  endpoint : Endpoint
  cls : FlowClass
  protection : Protection
  rate : Nat
  rank : Nat
  margin : Nat
  depth : Nat
  deriving DecidableEq, Repr

/-- A Flow Table entry. An UNUSED entry holds its state and nothing else (R19). -/
inductive Entry where
  | unused
  | used (dir : Direction) (fields : EntryFields)
  deriving DecidableEq, Repr

/-- Bank 0 or Bank 1. -/
inductive BankNo where
  | bank0
  | bank1
  deriving DecidableEq, Repr

structure TableControl where
  bank0 : Tab 64 Entry
  bank1 : Tab 64 Entry
  /-- The active-bank indicator. -/
  active : BankNo
  /-- The pending swap: NONE, or its target superframe. -/
  pendingSwap : Option Superframe
  deriving DecidableEq, Repr

/-! ### Ingress Ports (R42, R43, R44) -/

structure IngressPorts where
  fifo : Tab 8 (List CellData)
  /-- The hold indications; `true` is asserted. -/
  hold : Tab 8 Bool
  dropCount : Tab 64 Count
  unrouted : Count
  deriving DecidableEq, Repr

/-! ### Batch Unit (R46, R50) -/

structure FlowBatchState where
  sequence : Seq
  silentRun : Nat
  silentMark : Bool
  batched : Count
  deriving DecidableEq, Repr

structure BatchUnit where
  flow : Tab 64 FlowBatchState
  /-- The Tally Source state. -/
  tallySource : Tab 8 LampState
  deriving DecidableEq, Repr

/-! ### Transmitters (R55, R57) -/

/-- A batch cell on a send list (R49, R55). -/
structure BatchCell where
  flow : Flow
  sequence : Seq
  data : CellData
  sent : Bool
  deriving DecidableEq, Repr

/-- What a marker carries (R57). -/
structure Marker where
  sf : Superframe
  fibreTimed : Bool
  radioTimed : Bool
  grade : Grade
  deriving DecidableEq, Repr

structure Transmitter where
  sendList : List BatchCell
  /-- The flow last served in the round; 0 is the start (R58). -/
  turn : Flow
  sentCount : Tab 64 Count
  skippedCount : Tab 64 Count
  /-- The marker built at the superframe start and not yet sent. -/
  marker : Option Marker
  /-- The used-slot count, which the Radio Transmitter has (R55). -/
  usedSlots : Nat
  /-- The 192 bytes on the lane in the slot in progress; `none` when the lane carries nothing. -/
  lane : Option (List Byte)
  deriving DecidableEq, Repr

/-! ### Radio Planner (R64) -/

inductive FarFibre where
  | present
  | lost
  deriving DecidableEq, Repr

structure RadioPlanner where
  grade : Grade
  awaiting : Option Grade
  downRun : Nat
  upRun : Nat
  upLeast : Option Grade
  farFibre : FarFibre
  opposingRun : Nat
  markerAbsence : Nat
  /-- The Radio Plan, in ascending flow number. -/
  plan : List Flow
  fixedDemand : Nat
  plannedDemand : Nat
  usable : Nat
  overcommit : Bool
  deriving DecidableEq, Repr

/-! ### Receivers (R78) -/

inductive RxState where
  | hunt
  | confirm
  | aligned
  | timed
  deriving DecidableEq, Repr

/-- The last-marker record with the far-status flags and the grade as seen, which are set and
emptied with it (R78). -/
structure MarkerRecord where
  sf : Superframe
  stamp : LinkTime
  farFibreTimed : Bool
  farRadioTimed : Bool
  grade : Grade
  deriving DecidableEq, Repr

structure Receiver where
  state : RxState
  /-- The cell boundary, as the number of a byte of the lane. -/
  boundary : Option Nat
  /-- The MODEL's own: the cell at the boundary is the one found in HUNT, which is not taken (R81). -/
  atFoundCell : Bool
  /-- The MODEL's own: the first byte of the lane that the search may still examine (R82, R91). -/
  searchFrom : Nat
  /-- The MODEL's own: the bytes of the lane that the commands have told to have arrived (R79, R81). -/
  arrived : Nat
  confirmCount : Nat
  badRun : Nat
  badCount : Count
  markerAbsence : Nat
  record : Option MarkerRecord
  deriving DecidableEq, Repr

/-! ### Skew Unit (R96) -/

structure MarkerEntry where
  sf : Superframe
  stamp : LinkTime
  paired : Bool
  deriving DecidableEq, Repr

/-- The pending adjustment of R98. -/
structure Adjustment where
  bearer : Bearer
  stamp : LinkTime
  slots : Int
  deriving DecidableEq, Repr

structure SkewUnit where
  /-- The Marker Lists, oldest first. -/
  fibreList : List MarkerEntry
  radioList : List MarkerEntry
  adjustment : Option Adjustment
  valid : Bool
  /-- E, in sixteenths of a slot. -/
  e : Int
  /-- J, in slots. -/
  j : Nat
  deriving DecidableEq, Repr

/-! ### Merge Unit (R111, R112, R128, R132) -/

structure HeldRecord where
  sequence : Seq
  buffer : BufferNo
  stamp : LinkTime
  bearer : Bearer
  deriving DecidableEq, Repr

structure MergeWindow where
  /-- The status; `true` is RUNNING. -/
  running : Bool
  next : Seq
  held : List HeldRecord
  staleRun : Nat
  deriving DecidableEq, Repr

structure MergeCounts where
  firstFibre : Count
  firstRadio : Count
  redundant : Count
  stale : Count
  lost : Count
  fill : Count
  forced : Count
  jump : Count
  staleFlush : Count
  flushed : Count
  starved : Count
  deriving DecidableEq, Repr

structure MergeUnit where
  window : Tab 64 MergeWindow
  counts : Tab 64 MergeCounts
  unrouted : Count
  /-- The Buffer Pool's contents: buffer numbers strictly rising, none holding what an unlisted
  buffer reads as. -/
  pool : List (Nat × CellData)
  /-- The free stack, top first. -/
  free : List BufferNo
  deriving DecidableEq, Repr

/-! ### Strike Monitor (R134) -/

structure LineFilter where
  /-- The accepted level; `true` is HIGH. -/
  level : Bool
  changePending : Bool
  strikes : BitVec 16
  deriving DecidableEq, Repr

/-- The storm timer. STORM is ACTIVE exactly while it runs (R134). -/
inductive StormTimer where
  | stopped
  | running (remaining : Nat)
  deriving DecidableEq, Repr

structure StrikeMonitor where
  lineA : LineFilter
  lineB : LineFilter
  timer : StormTimer
  stormStrikes : BitVec 16
  deriving DecidableEq, Repr

/-! ### Egress Ports and Tally Unit (R143, R148) -/

/-- An entry of an egress FIFO: a released cell, or a loss fill (180 zero bytes, length 0, the fill
flag set). -/
inductive EgressEntry where
  | cell (data : CellData)
  | fill
  deriving DecidableEq, Repr

structure EgressPorts where
  fifo : Tab 8 (List EgressEntry)
  /-- The ready indications as each egress half last saw them; `true` is asserted. -/
  ready : Tab 8 Bool
  dropCount : Tab 64 Count
  deriving DecidableEq, Repr

inductive TallyTimer where
  | stopped
  | running (remaining : Nat)
  | expired
  deriving DecidableEq, Repr

structure TallyUnit where
  received : Tab 8 LampState
  overrideMask : Tab 8 Bool
  overrideStates : Tab 8 LampState
  timer : TallyTimer
  receivedCount : Count
  deriving DecidableEq, Repr

/-! ### Management Unit (R155, R168) -/

inductive TallyPolicy where
  | hold
  | dark
  deriving DecidableEq, Repr

inductive EventLevel where
  | urgent
  | routine
  deriving DecidableEq, Repr

/-- The link settings (R168); of an ON or OFF setting, `true` is ON. -/
structure Settings where
  watermark : Tab 8 Nat
  gradeDown : Nat
  gradeUp : Nat
  stormGuard : Nat
  stormHold : Nat
  tallyLoss : Nat
  tallyPolicy : TallyPolicy
  routineInterval : Nat
  reportEnable : Bool
  reportNear : Bool
  reportFar : Bool
  eventEnable : Tab 20 Bool
  eventLevel : Tab 20 EventLevel
  deriving DecidableEq, Repr

structure ManagementUnit where
  portQueue : List CellData
  flow0Queue : List CellData
  settings : Settings
  /-- The far write bar; `true` is SET. -/
  bar : Bool
  windowLow : Nat
  windowHigh : Nat
  /-- The window freeze; `true` is FROZEN. -/
  frozen : Bool
  portDrops : Count
  flow0Drops : Count
  malformed : Count
  deriving DecidableEq, Repr

/-! ### Event Unit (R176) -/

/-- The way out of TIMED (R92). -/
inductive WayOut where
  | absence
  | headers
  | reset
  deriving DecidableEq, Repr

inductive StrikeLine where
  | a
  | b
  deriving DecidableEq, Repr

inductive JumpReason where
  | jump
  | stale
  deriving DecidableEq, Repr

inductive MgmtQueue where
  | port
  | flow0
  deriving DecidableEq, Repr

inductive RecordKind where
  | command
  | response
  | notice
  deriving DecidableEq, Repr

/-- The statuses of R162 in the order R185 numbers them. CLAMPED stands with OK and is a flag. -/
inductive Status where
  | ok
  | none
  | field
  | range
  | fixed
  | active
  | busy
  | check
  | late
  | barred
  | window
  | frozen
  | nearOnly
  | noPath
  | full
  | unknown
  deriving DecidableEq, Repr

/-- The twenty events, in the order 11_events_and_notices.md numbers them. -/
inductive EventId where
  | fibreDown
  | radioDown
  | strike
  | poolEmpty
  | ingressOverflow
  | egressOverflow
  | shed
  | windowJump
  | fibreUp
  | radioUp
  | gradeChange
  | restore
  | stormEnd
  | skewRange
  | sourceSilent
  | tallyLoss
  | swapDone
  | timeStep
  | farRefused
  | mgmtDrop
  deriving DecidableEq, Repr

/-- The detail of a raising, in the forms the table of events gives. -/
inductive EventDetail where
  | wayOut (way : WayOut)
  | line (line : StrikeLine)
  | flow (flow : Flow)
  | tributary (trib : Trib)
  | tributaryFlow (trib : Trib) (flow : Flow)
  | flows (lowest : Flow) (number : Nat)
  | jump (flow : Flow) (reason : JumpReason)
  | superframe (sf : Superframe)
  | grades (old new : Grade)
  | strikes (number : BitVec 16)
  | skew (sample : Int)
  | tally (policy : TallyPolicy) (sf : Superframe)
  | step (old new : Superframe)
  | refused (command : Byte) (status : Status)
  | dropped (queue : MgmtQueue) (kind : RecordKind)
  deriving DecidableEq, Repr

structure EventState where
  /-- The flag; `true` is SET. -/
  flag : Bool
  detail : Option EventDetail
  /-- The report mark; `true` is UNREPORTED. -/
  unreported : Bool
  deriving DecidableEq, Repr

structure EventUnit where
  event : Tab 20 EventState
  routineCount : Nat
  deriving DecidableEq, Repr

/-- The MODEL's own: a block's share of a superframe start that has not been taken yet, because it
brings a timer or an absence to its end (log entry 2). -/
inductive OwedStart where
  | storm
  | tally (sf : Superframe)
  | receiver (bearer : Bearer)
  deriving DecidableEq, Repr

/-- The whole state of the part, with the queue of commands that wait. -/
@[ext]
structure State where
  /-- RESET is asserted. -/
  inReset : Bool
  /-- The role ROLE fixed (R4). -/
  role : Role
  /-- The levels last sampled on STRIKE-A, STRIKE-B and GRADE. -/
  pins : Pins
  clock : LinkClock
  table : TableControl
  ingress : IngressPorts
  batch : BatchUnit
  fibreTx : Transmitter
  radioTx : Transmitter
  planner : RadioPlanner
  fibreRx : Receiver
  radioRx : Receiver
  skew : SkewUnit
  merge : MergeUnit
  strike : StrikeMonitor
  egress : EgressPorts
  tally : TallyUnit
  mgmt : ManagementUnit
  events : EventUnit
  /-- The MODEL's own: shares of the last superframe start still to be taken. -/
  owed : List OwedStart
  /-- The MODEL's own: of each flow, whether the hold of its lowest held cell has expired and the
  expiry is still to be taken (R123, R124; log entry 2). -/
  expired : Tab 64 Bool
  /-- The MODEL's own: the occasion the next free value is drawn for. -/
  occasion : Nat
  /-- The commands that wait, first in, first out. -/
  pending : List Instr
  deriving DecidableEq, Repr

/-! ### Power-on values -/

/-- Link time (0, 0). -/
def LinkTime.zero : LinkTime := ⟨0, 0⟩

/-- The Link Clock while RESET is asserted (R3). -/
def LinkClock.powerOn : LinkClock :=
  { time := LinkTime.zero, lastStarted := 0, source := none, disagreements := 0,
    radioOffset := none }

/-- The fields of entry 0, the management entry (R20). -/
def EntryFields.management : EntryFields :=
  { endpoint := .mgmt, cls := .control, protection := .both, rate := 8, rank := 0, margin := 16,
    depth := 32 }

/-- A bank with the fixed entry 0 and entries 1..63 UNUSED (R17, R20). -/
def powerOnBank : Tab 64 Entry :=
  (Tab.fill 64 Entry.unused).write 0 (.used .bothWays EntryFields.management)

def TableControl.powerOn : TableControl :=
  { bank0 := powerOnBank, bank1 := powerOnBank, active := .bank0, pendingSwap := none }

def IngressPorts.powerOn : IngressPorts :=
  { fifo := Tab.fill 8 [], hold := Tab.fill 8 false, dropCount := Tab.fill 64 0, unrouted := 0 }

def FlowBatchState.powerOn : FlowBatchState :=
  { sequence := 0, silentRun := 0, silentMark := false, batched := 0 }

def BatchUnit.powerOn : BatchUnit :=
  { flow := Tab.fill 64 FlowBatchState.powerOn, tallySource := Tab.fill 8 .off }

def Transmitter.powerOn : Transmitter :=
  { sendList := [], turn := 0, sentCount := Tab.fill 64 0, skippedCount := Tab.fill 64 0,
    marker := none, usedSlots := 0, lane := none }

def RadioPlanner.powerOn : RadioPlanner :=
  { grade := 0, awaiting := none, downRun := 0, upRun := 0, upLeast := none, farFibre := .present,
    opposingRun := 0, markerAbsence := 0, plan := [], fixedDemand := 0, plannedDemand := 0,
    usable := 0, overcommit := false }

def Receiver.powerOn : Receiver :=
  { state := .hunt, boundary := none, atFoundCell := false, searchFrom := 0, arrived := 0,
    confirmCount := 0, badRun := 0, badCount := 0, markerAbsence := 0, record := none }

def SkewUnit.powerOn : SkewUnit :=
  { fibreList := [], radioList := [], adjustment := none, valid := false, e := 0, j := 0 }

def MergeWindow.powerOn : MergeWindow :=
  { running := false, next := 0, held := [], staleRun := 0 }

def MergeCounts.zero : MergeCounts :=
  { firstFibre := 0, firstRadio := 0, redundant := 0, stale := 0, lost := 0, fill := 0,
    forced := 0, jump := 0, staleFlush := 0, flushed := 0, starved := 0 }

/-- The power-on order of the free stack: buffer 0 on top, the others beneath it in ascending order
(R128). -/
def powerOnFree : List BufferNo :=
  (List.range' 0 16384).map (fun b => Fin.ofNat 16384 b)

def MergeUnit.powerOn : MergeUnit :=
  { window := Tab.fill 64 MergeWindow.powerOn, counts := Tab.fill 64 MergeCounts.zero,
    unrouted := 0, pool := [], free := powerOnFree }

/-- A line whose sample at the release of RESET shows `level` (R134, R135). -/
def LineFilter.powerOn (level : Bool) : LineFilter :=
  { level := level, changePending := false, strikes := 0 }

def StrikeMonitor.powerOn (pins : Pins) : StrikeMonitor :=
  { lineA := LineFilter.powerOn pins.strikeA, lineB := LineFilter.powerOn pins.strikeB,
    timer := .stopped, stormStrikes := 0 }

/-- Every egress FIFO empty and every count 0, with the ready indications given (R143, R145). -/
def EgressPorts.powerOn (ready : Tab 8 Bool) : EgressPorts :=
  { fifo := Tab.fill 8 [], ready := ready, dropCount := Tab.fill 64 0 }

def TallyUnit.powerOn : TallyUnit :=
  { received := Tab.fill 8 .off, overrideMask := Tab.fill 8 false,
    overrideStates := Tab.fill 8 .off, timer := .stopped, receivedCount := 0 }

/-- The default level of each event: 0..7 URGENT, 8..19 ROUTINE (11_events_and_notices.md). -/
def defaultLevels : Tab 20 EventLevel :=
  Tab.build fun e => if e.val < 8 then .urgent else .routine

/-- The power-on values of R168, report-far taken from the role. -/
def Settings.powerOn (role : Role) : Settings :=
  { watermark := Tab.fill 8 48, gradeDown := 2, gradeUp := 16, stormGuard := 192,
    stormHold := 120, tallyLoss := 250, tallyPolicy := .hold, routineInterval := 64,
    reportEnable := true, reportNear := true, reportFar := role == .mast,
    eventEnable := Tab.fill 20 true, eventLevel := defaultLevels }

def ManagementUnit.powerOn (role : Role) : ManagementUnit :=
  { portQueue := [], flow0Queue := [], settings := Settings.powerOn role, bar := false,
    windowLow := 1, windowHigh := 63, frozen := false, portDrops := 0, flow0Drops := 0,
    malformed := 0 }

def EventState.powerOn : EventState :=
  { flag := false, detail := none, unreported := false }

def EventUnit.powerOn : EventUnit :=
  { event := Tab.fill 20 EventState.powerOn, routineCount := 0 }

/-- Every block at its power-on value, for the role and the levels given. The ready indications, the
model's occasion and the commands that wait come from outside the part and are given too. -/
def State.powerOn (inReset : Bool) (role : Role) (pins : Pins) (ready : Tab 8 Bool)
    (occasion : Nat) (pending : List Instr) : State :=
  { inReset, role, pins
    clock := LinkClock.powerOn
    table := TableControl.powerOn
    ingress := IngressPorts.powerOn
    batch := BatchUnit.powerOn
    fibreTx := Transmitter.powerOn
    radioTx := Transmitter.powerOn
    planner := RadioPlanner.powerOn
    fibreRx := Receiver.powerOn
    radioRx := Receiver.powerOn
    skew := SkewUnit.powerOn
    merge := MergeUnit.powerOn
    strike := StrikeMonitor.powerOn pins
    egress := EgressPorts.powerOn ready
    tally := TallyUnit.powerOn
    mgmt := ManagementUnit.powerOn role
    events := EventUnit.powerOn
    owed := []
    expired := Tab.fill 64 false
    occasion, pending }

/-- The part under power-on reset, RESET asserted: every piece of state at its power-on value, and
no command waiting. The role and the pin levels, which the release of RESET fixes, stand at MAST and
LOW, LOW, 0 (log entry 1). -/
def State.reset : State :=
  State.powerOn true .mast ⟨false, false, 0⟩ (Tab.fill 8 false) 0 []

/-! ### Replacing one block

Each block's state is replaced by one of these, so that what an operation leaves alone can be read
off by name. -/

def State.withReset (s : State) (v : Bool) : State := { s with inReset := v }
def State.withPins (s : State) (v : Pins) : State := { s with pins := v }
def State.withClock (s : State) (v : LinkClock) : State := { s with clock := v }
def State.withTable (s : State) (v : TableControl) : State := { s with table := v }
def State.withIngress (s : State) (v : IngressPorts) : State := { s with ingress := v }
def State.withBatch (s : State) (v : BatchUnit) : State := { s with batch := v }
def State.withFibreTx (s : State) (v : Transmitter) : State := { s with fibreTx := v }
def State.withRadioTx (s : State) (v : Transmitter) : State := { s with radioTx := v }
def State.withPlanner (s : State) (v : RadioPlanner) : State := { s with planner := v }
def State.withFibreRx (s : State) (v : Receiver) : State := { s with fibreRx := v }
def State.withRadioRx (s : State) (v : Receiver) : State := { s with radioRx := v }
def State.withSkew (s : State) (v : SkewUnit) : State := { s with skew := v }
def State.withMerge (s : State) (v : MergeUnit) : State := { s with merge := v }
def State.withStrike (s : State) (v : StrikeMonitor) : State := { s with strike := v }
def State.withEgress (s : State) (v : EgressPorts) : State := { s with egress := v }
def State.withTally (s : State) (v : TallyUnit) : State := { s with tally := v }
def State.withMgmt (s : State) (v : ManagementUnit) : State := { s with mgmt := v }
def State.withEvents (s : State) (v : EventUnit) : State := { s with events := v }
def State.withOwed (s : State) (v : List OwedStart) : State := { s with owed := v }
def State.withExpired (s : State) (v : Tab 64 Bool) : State := { s with expired := v }
def State.withOccasion (s : State) (v : Nat) : State := { s with occasion := v }
def State.withPending (s : State) (v : List Instr) : State := { s with pending := v }

end Sys2Proof.Machine
end

