-- ==== Sys2Proof/Machine/Ops.lean ====
section
/-! DEFINITION. The operations every block shares: link-time arithmetic (R7, R8, R9), the Flow Table
as the other blocks read it (R17, R20), the two bearers' receivers and transmitters by name, the
contents of the Buffer Pool (R128), byte order (R183), and the free values of Config. -/

namespace Sys2Proof.Machine

/-! ### Link-time arithmetic -/

/-- A link time advanced by `n` slots, forward or back (R7). -/
def LinkTime.advance (t : LinkTime) (n : Int) : LinkTime :=
  let p : Int := t.slot.val + n
  let q : Int := p / 1536
  { sf := BitVec.ofInt 12 (t.sf.toNat + q), slot := Fin.ofNat 1536 (p - 1536 * q).toNat }

/-- The signed number of slots from `b` to `a` (R8). -/
def difference (a b : LinkTime) : Int :=
  let raw : Int := (a.slot.val : Int) - b.slot.val
  let borrow : Nat := if raw < 0 then 1 else 0
  let slotDiff : Int := raw + 1536 * borrow
  let sfDiff : Nat := (a.sf - b.sf - BitVec.ofNat 12 borrow).toNat
  let value : Int := sfDiff * 1536 + slotDiff
  if 2048 ≤ sfDiff then value - 6291456 else value

/-- The age of an arrival stamp at `now`, never negative (R9). -/
def age (now stamp : LinkTime) : Nat := (difference now stamp).toNat

/-! ### The Flow Table as the other blocks read it -/

/-- The bank that is not `b`. -/
def BankNo.other : BankNo → BankNo
  | .bank0 => .bank1
  | .bank1 => .bank0

/-- The entries of bank `b`. -/
def TableControl.bank (t : TableControl) : BankNo → Tab 64 Entry
  | .bank0 => t.bank0
  | .bank1 => t.bank1

/-- The shadow bank's number: the bank that is not active (R17). -/
def TableControl.shadow (t : TableControl) : BankNo := t.active.other

/-- The entries of the active bank. -/
def TableControl.activeBank (t : TableControl) : Tab 64 Entry := t.bank t.active

/-- The entries of the shadow bank. -/
def TableControl.shadowBank (t : TableControl) : Tab 64 Entry := t.bank t.shadow

/-- The table with new entries in its shadow bank. -/
def TableControl.withShadow (t : TableControl) (entries : Tab 64 Entry) : TableControl :=
  match t.active with
  | .bank0 => { t with bank1 := entries }
  | .bank1 => { t with bank0 := entries }

/-- The fields of an entry that is OUTBOUND. -/
def Entry.outbound : Entry → Option EntryFields
  | .used .outbound x => some x
  | _ => none

/-- The fields of an entry that is INBOUND. -/
def Entry.inbound : Entry → Option EntryFields
  | .used .inbound x => some x
  | _ => none

/-- The entry of flow `f` in the active bank. -/
def State.activeEntry (s : State) (f : Flow) : Entry := s.table.activeBank.read f

/-- The fields by which this end receives flow `f`: those of entry 0 for flow 0, those of its active
entry for an INBOUND flow, and none for any other (R106, R113). -/
def State.receiving (s : State) (f : Flow) : Option EntryFields :=
  if f = 0 then some EntryFields.management else (s.activeEntry f).inbound

/-- Whether a bank holds an INBOUND TALLY entry (R148, R150). -/
def hasInboundTally (entries : Tab 64 Entry) : Bool :=
  userFlows.any fun f =>
    match (entries.read f).inbound with
    | some x => x.endpoint == .tally
    | none => false

/-! ### The two bearers by name -/

/-- The bearer that is not `b`. -/
def otherBearer : Bearer → Bearer
  | .fibre => .radio
  | .radio => .fibre

def State.rx (s : State) : Bearer → Receiver
  | .fibre => s.fibreRx
  | .radio => s.radioRx

def State.withRx (s : State) (b : Bearer) (v : Receiver) : State :=
  match b with
  | .fibre => s.withFibreRx v
  | .radio => s.withRadioRx v

def State.tx (s : State) : Bearer → Transmitter
  | .fibre => s.fibreTx
  | .radio => s.radioTx

def State.withTx (s : State) (b : Bearer) (v : Transmitter) : State :=
  match b with
  | .fibre => s.withFibreTx v
  | .radio => s.withRadioTx v

/-- The receiver of bearer `b` is TIMED. -/
def State.timed (s : State) (b : Bearer) : Bool := (s.rx b).state == .timed

/-- STORM is ACTIVE: the storm timer is running (R134). -/
def StrikeMonitor.storm (m : StrikeMonitor) : Bool :=
  match m.timer with
  | .running _ => true
  | .stopped => false

/-! ### The contents of the Buffer Pool (R128) -/

/-- The highest number of payload bytes in a cell (00_scope.md). -/
def payloadBytes : Nat := 180

/-- `count` zero bytes. -/
def zeroBytes (count : Nat) : List Byte := List.replicate count 0

/-- What a buffer that nothing has stored into reads as (log entry 7). -/
def blankBuffer : CellData := ⟨zeroBytes payloadBytes, 0⟩

/-- The contents of buffer `k`. -/
def poolRead : List (Nat × CellData) → Nat → CellData
  | [], _ => blankBuffer
  | (a, x) :: rest, k => if a = k then x else poolRead rest k

/-- The pool with `v` stored in buffer `k`, in canonical form when it was. -/
def poolWrite : List (Nat × CellData) → Nat → CellData → List (Nat × CellData)
  | [], k, v => if v = blankBuffer then [] else [(k, v)]
  | (a, x) :: rest, k, v =>
    if a < k then (a, x) :: poolWrite rest k v
    else if a = k then if v = blankBuffer then rest else (k, v) :: rest
    else if v = blankBuffer then (a, x) :: rest else (k, v) :: (a, x) :: rest

/-- Every buffer number of the pool exceeds `low` and each the one before it, and no listed buffer
holds what an unlisted one reads as. -/
def poolRising (low : Option Nat) : List (Nat × CellData) → Bool
  | [] => true
  | (a, x) :: rest =>
    (match low with
      | some l => decide (l < a)
      | none => true) && decide (x ≠ blankBuffer) && poolRising (some a) rest

/-- The canonical form of the Buffer Pool's contents. -/
def poolWf (pool : List (Nat × CellData)) : Bool := poolRising none pool

/-! ### Byte order (R183) -/

/-- The low `count` bytes of `v`, most significant first. -/
def bytesOf : Nat → Nat → List Byte
  | 0, _ => []
  | count + 1, v => BitVec.ofNat 8 (v / 256 ^ count) :: bytesOf count v

/-- A signed value in `count` bytes, two's complement, most significant first. -/
def signedBytesOf (count : Nat) (v : Int) : List Byte :=
  bytesOf count (BitVec.ofInt (8 * count) v).toNat

/-- The value of some bytes, most significant first. -/
def valueOf (bytes : List Byte) : Nat := bytes.foldl (fun acc b => 256 * acc + b.toNat) 0

/-- Byte `i`, or zero beyond the end. -/
def byteAt (bytes : List Byte) (i : Nat) : Byte := bytes.getD i 0

/-- `bytes` from `i` on, `count` of them. -/
def slice (bytes : List Byte) (i count : Nat) : List Byte := (bytes.drop i).take count

/-- One byte that is `value` when `b` holds and zero otherwise. -/
def flagByte (b : Bool) (value : Byte) : Byte := if b then value else 0

/-- The sum of 2 to the power i over the indexes i of a table that hold `true`. -/
def maskOf {n : Nat} (t : Tab n Bool) : Nat :=
  (List.finRange n).foldl (fun acc i => if t.read i then acc + 2 ^ i.val else acc) 0

/-- The table that holds at each index whether that bit of `v` is set. -/
def bitsOf {n w : Nat} (v : BitVec w) : Tab n Bool := Tab.build fun i => v.getLsbD i.val

/-! ### Free values -/

/-- Which way an open order falls on the occasion that stands. -/
def State.race (s : State) (r : Config.Race) : Bool := Config.race s.occasion r

/-- How many bytes of bearer `b`'s lane have arrived unknown to the model. -/
def State.bytesUntold (s : State) (b : Bearer) : Nat := Config.bytesUntold s.occasion b

/-- The next occasion for a free value. -/
def State.nextOccasion (s : State) : State := s.withOccasion (s.occasion + 1)

/-- The record byte a refusal names: the one candidate, or, of several, one that the spec leaves
open (log entry 6). -/
def blame (candidates : List Nat) : Nat :=
  match candidates with
  | [] => 0
  | [b] => b
  | b :: bs => (b :: bs).getD (Config.blamedIndex (b :: bs) % (bs.length + 1)) b

/-- A cell that the part builds around some payload bytes. The bytes beyond the payload length are
free values, drawn for `occasion` (log entry 5). -/
def paddedCell (occasion : Nat) (bytes : List Byte) : CellData :=
  { payload := bytes ++ (List.range' bytes.length (payloadBytes - bytes.length)).map
      (Config.padByte occasion)
    len := bytes.length }

end Sys2Proof.Machine
end

