-- ==== Sys2Proof/Machine/Flags.lean ====
section
/-! DEFINITION. The Event Unit's flags, details and report marks: raising an event (R177),
acknowledging events (R178), and the raisings of one superframe start, each of which reaches the
Event Unit before its judging or after it (R182). -/

namespace Sys2Proof.Machine

/-- The event's number (11_events_and_notices.md). -/
def EventId.num : EventId → Fin 20
  | .fibreDown => 0
  | .radioDown => 1
  | .strike => 2
  | .poolEmpty => 3
  | .ingressOverflow => 4
  | .egressOverflow => 5
  | .shed => 6
  | .windowJump => 7
  | .fibreUp => 8
  | .radioUp => 9
  | .gradeChange => 10
  | .restore => 11
  | .stormEnd => 12
  | .skewRange => 13
  | .sourceSilent => 14
  | .tallyLoss => 15
  | .swapDone => 16
  | .timeStep => 17
  | .farRefused => 18
  | .mgmtDrop => 19

/-- An event just raised: flag SET, its detail, UNREPORTED (R177). -/
def EventState.raised (d : EventDetail) : EventState :=
  { flag := true, detail := some d, unreported := true }

/-- An event acknowledged: flag CLEAR, REPORTED, its detail kept (R178). -/
def EventState.acknowledged (e : EventState) : EventState :=
  { e with flag := false, unreported := false }

def EventUnit.raise (u : EventUnit) (e : EventId) (d : EventDetail) : EventUnit :=
  { u with event := u.event.write e.num (EventState.raised d) }

/-- A block raises an event, whatever its enable (R177). -/
def State.raise (s : State) (e : EventId) (d : EventDetail) : State :=
  s.withEvents (s.events.raise e d)

/-- The events named acknowledged, the others unchanged (R178). -/
def EventUnit.acknowledge (u : EventUnit) (named : Tab 20 Bool) : EventUnit :=
  { u with event := Tab.build fun e =>
      if named.read e then (u.event.read e).acknowledged else u.event.read e }

/-- The Event Unit with nothing raised, to collect the raisings of one superframe start in. -/
def EventUnit.collecting (u : EventUnit) : EventUnit :=
  { u with event := Tab.fill 20 EventState.powerOn }

/-- The raisings collected in `raisings` for which `taken` holds, taken by the Event Unit. -/
def EventUnit.takeRaisings (u raisings : EventUnit) (taken : Fin 20 → Bool) : EventUnit :=
  { u with event := Tab.build fun e =>
      if (raisings.event.read e).flag && taken e then raisings.event.read e
      else u.event.read e }

end Sys2Proof.Machine
end

