-- ==== Sys2Proof/Machine/Ingress.lean ====
section
/-! DEFINITION. The Ingress Ports (R42 to R45): the ingress FIFOs, the drops and their counts, and
the hold indications. -/

namespace Sys2Proof.Machine

/-- The hold indication after a cell is placed and the FIFO holds `count` cells (R44, Assertion). -/
def holdAfterPlacing (watermark count : Nat) (hold : Bool) : Bool :=
  hold || decide (watermark ≤ count)

/-- The hold indication after cells leave and the FIFO holds `count` cells (R44, Release). -/
def holdAfterTaking (watermark count : Nat) (hold : Bool) : Bool :=
  hold && !decide (count + 8 ≤ watermark)

/-- The hold indication judged again against a changed watermark (R44). -/
def holdRejudged (watermark count : Nat) (hold : Bool) : Bool :=
  if watermark ≤ count then true else if count + 8 ≤ watermark then false else hold

/-- The flow whose OUTBOUND entry in a bank names tributary `n` (R43). -/
def outboundFlowOf (entries : Tab 64 Entry) (n : Trib) : Option Flow :=
  userFlows.find? fun f =>
    match (entries.read f).outbound with
    | some x => x.endpoint == .trib n
    | none => false

/-- A cell arriving at tributary `n` is dropped and counted, and INGRESS-OVERFLOW is raised
(R43). -/
def State.dropIngress (s : State) (n : Trib) : State :=
  let counted : IngressPorts :=
    match outboundFlowOf s.table.activeBank n with
    | some f => { s.ingress with dropCount := s.ingress.dropCount.modify f satInc }
    | none => { s.ingress with unrouted := satInc s.ingress.unrouted }
  (s.withIngress counted).raise .ingressOverflow (.tributary n)

/-- A cell is placed at the tail of tributary `n`'s ingress FIFO (R42, R44). -/
def IngressPorts.place (p : IngressPorts) (watermark : Nat) (n : Trib) (cell : CellData) :
    IngressPorts :=
  let fifo := p.fifo.read n ++ [cell]
  { p with fifo := p.fifo.write n fifo,
           hold := p.hold.write n (holdAfterPlacing watermark fifo.length (p.hold.read n)) }

/-- A cell arrives at the ingress half of tributary `n` (R42, R43). -/
def State.ingressArrival (s : State) (n : Trib) (cell : CellData) : State :=
  if 1 ≤ cell.len ∧ cell.len ≤ 180 ∧ (s.ingress.fifo.read n).length < Config.fifoCells then
    s.withIngress (s.ingress.place (s.mgmt.settings.watermark.read n) n cell)
  else s.dropIngress n

/-- The oldest `k` cells leave tributary `n`'s ingress FIFO (R44, R48). -/
def IngressPorts.remove (p : IngressPorts) (watermark : Nat) (n : Trib) (k : Nat) : IngressPorts :=
  let rest := (p.fifo.read n).drop k
  { p with fifo := p.fifo.write n rest,
           hold := p.hold.write n (holdAfterTaking watermark rest.length (p.hold.read n)) }

/-- The hold of tributary `n` judged again at its changed watermark (R44). -/
def IngressPorts.rejudge (p : IngressPorts) (watermark : Nat) (n : Trib) : IngressPorts :=
  let hold := holdRejudged watermark (p.fifo.read n).length (p.hold.read n)
  { p with hold := p.hold.write n hold }

/-- Tributary `n`'s ingress FIFO emptied and its hold released, the cells uncounted (R45). -/
def IngressPorts.flush (p : IngressPorts) (n : Trib) : IngressPorts :=
  { p with fifo := p.fifo.write n [], hold := p.hold.write n false }

/-- Every hold indication released, as it is while RESET is asserted (R45). -/
def IngressPorts.releaseHolds (p : IngressPorts) : IngressPorts :=
  { p with hold := Tab.fill 8 false }

/-- The Ingress Ports' part of a datapath reset: every FIFO emptied, every hold released (R45). -/
def IngressPorts.datapathReset (p : IngressPorts) : IngressPorts :=
  { p with fifo := Tab.fill 8 [], hold := Tab.fill 8 false }

end Sys2Proof.Machine
end

