-- ==== Sys2Proof/Machine/Operands.lean ====
section
/-! DEFINITION. Management commands and the operand forms of their records: the command numbers, the
operands each record carries and where the first one missing would begin (R185, R186), and the
values that enumerated operand bytes name (R18, R183, R185). -/

namespace Sys2Proof.Machine

/-- A management command with its operands as the record's bytes give them. -/
inductive Command where
  | identify
  | readEntry (bank flow : Byte)
  | writeEntry (bank flow : Byte) (fields : RawEntry)
  | clearEntry (bank flow : Byte)
  | copyEntries (source destination first count : Byte)
  | checkShadow
  | swapAt (target : BitVec 16)
  | cancelSwap
  | readFlowCounts (flow clear : Byte)
  | readBearer (bearer clear : Byte)
  | readLink
  | setSetting (name index : Byte) (value : BitVec 16)
  | readSettings
  | setWindow (low high : Byte)
  | freezeWindow
  | setBar
  | clearBar
  | setTally (object mask : Byte) (lamps : Tab 8 Byte)
  | clearTallyOverride
  | readEvents
  | ackEvents (events : BitVec 24)
  | flushTributary (trib : Byte)
  | resetDatapath
  deriving DecidableEq, Repr

/-- The command number (R185, in the order of the table of commands). -/
def Command.number : Command → Byte
  | .identify => 1
  | .readEntry .. => 2
  | .writeEntry .. => 3
  | .clearEntry .. => 4
  | .copyEntries .. => 5
  | .checkShadow => 6
  | .swapAt _ => 7
  | .cancelSwap => 8
  | .readFlowCounts .. => 9
  | .readBearer .. => 10
  | .readLink => 11
  | .setSetting .. => 12
  | .readSettings => 13
  | .setWindow .. => 14
  | .freezeWindow => 15
  | .setBar => 16
  | .clearBar => 17
  | .setTally .. => 18
  | .clearTallyOverride => 19
  | .readEvents => 20
  | .ackEvents _ => 21
  | .flushTributary _ => 22
  | .resetDatapath => 23

/-- The widths in bytes of a command's operands, each with the widths of its own fields; `none` for
a number that names no command (R185). -/
def operandWidths (number : Byte) : Option (List (List Nat)) :=
  match number.toNat with
  | 1 => some []
  | 2 => some [[1], [1]]
  | 3 => some [[1], [1], [1, 1, 1, 1, 2, 1, 1, 2]]
  | 4 => some [[1], [1]]
  | 5 => some [[1], [1], [1], [1]]
  | 6 => some []
  | 7 => some [[2]]
  | 8 => some []
  | 9 => some [[1], [1]]
  | 10 => some [[1], [1]]
  | 11 => some []
  | 12 => some [[1], [1], [2]]
  | 13 => some []
  | 14 => some [[1], [1]]
  | 15 => some []
  | 16 => some []
  | 17 => some []
  | 18 => some [[1], [1], [1, 1, 1, 1, 1, 1, 1, 1]]
  | 19 => some []
  | 20 => some []
  | 21 => some [[3]]
  | 22 => some [[1]]
  | 23 => some []
  | _ => none

/-- Where the first field that does not end by `len` begins, the fields standing from `start`. -/
def firstPast (start len : Nat) : List Nat → Nat
  | [] => start
  | w :: ws => if start + w ≤ len then firstPast (start + w) len ws else start

/-- The record bytes at which the first missing operand could be said to begin: the operand's own
first byte and, for an operand of several fields, the first byte of the field that is missing (log
entry 6); `none` when the record of `len` bytes holds every operand (R186). -/
def missingOperand (start len : Nat) : List (List Nat) → Option (List Nat)
  | [] => none
  | ws :: rest =>
    if start + ws.sum ≤ len then missingOperand (start + ws.sum) len rest
    else if firstPast start len ws = start then some [start]
    else some [start, firstPast start len ws]

/-- The eight lamp bytes of a SET-TALLY record. -/
def lampOperands (record : List Byte) : Tab 8 Byte := Tab.build fun i => byteAt record (6 + i.val)

/-- The entry record of a WRITE-ENTRY record. -/
def rawEntryOperand (record : List Byte) : RawEntry :=
  { state := byteAt record 6
    endpoint := byteAt record 7
    cls := byteAt record 8
    protection := byteAt record 9
    rate := BitVec.ofNat 16 (valueOf (slice record 10 2))
    rank := byteAt record 12
    margin := byteAt record 13
    depth := BitVec.ofNat 16 (valueOf (slice record 14 2)) }

/-- The command of a record that holds every operand of command `number`. -/
def commandOf (number : Byte) (record : List Byte) : Option Command :=
  let b (i : Nat) : Byte := byteAt record i
  match number.toNat with
  | 1 => some .identify
  | 2 => some (.readEntry (b 4) (b 5))
  | 3 => some (.writeEntry (b 4) (b 5) (rawEntryOperand record))
  | 4 => some (.clearEntry (b 4) (b 5))
  | 5 => some (.copyEntries (b 4) (b 5) (b 6) (b 7))
  | 6 => some .checkShadow
  | 7 => some (.swapAt (BitVec.ofNat 16 (valueOf (slice record 4 2))))
  | 8 => some .cancelSwap
  | 9 => some (.readFlowCounts (b 4) (b 5))
  | 10 => some (.readBearer (b 4) (b 5))
  | 11 => some .readLink
  | 12 => some (.setSetting (b 4) (b 5) (BitVec.ofNat 16 (valueOf (slice record 6 2))))
  | 13 => some .readSettings
  | 14 => some (.setWindow (b 4) (b 5))
  | 15 => some .freezeWindow
  | 16 => some .setBar
  | 17 => some .clearBar
  | 18 => some (.setTally (b 4) (b 5) (lampOperands record))
  | 19 => some .clearTallyOverride
  | 20 => some .readEvents
  | 21 => some (.ackEvents (BitVec.ofNat 24 (valueOf (slice record 4 3))))
  | 22 => some (.flushTributary (b 4))
  | 23 => some .resetDatapath
  | _ => none

/-- What step 1 of R161 finds in a command record. -/
inductive CommandRecord where
  /-- The command is not one the part defines. -/
  | unknown
  /-- An operand is missing; the record bytes it could be said to begin at. -/
  | missing (candidates : List Nat)
  | command (c : Command)
  deriving DecidableEq, Repr

/-- Read a command record, the leading payload-length bytes of a payload (R185, R186). -/
def readCommandRecord (record : List Byte) : CommandRecord :=
  match operandWidths (byteAt record 3) with
  | none => .unknown
  | some widths =>
    match missingOperand 4 record.length widths with
    | some candidates => .missing candidates
    | none =>
      match commandOf (byteAt record 3) record with
      | some c => .command c
      | none => .unknown

/-! ### Enumerated operand values (R183, R185) -/

/-- The bank an operand names. -/
def bankOperand (b : Byte) : Option BankNo :=
  match b.toNat with
  | 0 => some .bank0
  | 1 => some .bank1
  | _ => none

/-- The flow or entry number an operand names (R21). -/
def flowOperand (b : Byte) : Option Flow :=
  if h : b.toNat < 64 then some ⟨b.toNat, h⟩ else none

/-- The tributary an operand names (R147). -/
def tribOperand (b : Byte) : Option Trib :=
  if h : b.toNat < 8 then some ⟨b.toNat, h⟩ else none

/-- The event an index names (R168). -/
def eventOperand (b : Byte) : Option (Fin 20) :=
  if h : b.toNat < 20 then some ⟨b.toNat, h⟩ else none

/-- The bearer an operand names: 0 FIBRE, 1 RADIO. -/
def bearerOperand (b : Byte) : Option Bearer :=
  match b.toNat with
  | 0 => some .fibre
  | 1 => some .radio
  | _ => none

/-- The value of a YES or NO operand: 0 NO, 1 YES. -/
def yesNoOperand (b : Byte) : Option Bool :=
  match b.toNat with
  | 0 => some false
  | 1 => some true
  | _ => none

/-- The lamp state a lamp code names: 0 OFF, 1 PROGRAM, 2 PREVIEW (R183). -/
def lampOperand (b : Byte) : Option LampState :=
  match b.toNat with
  | 0 => some .off
  | 1 => some .program
  | 2 => some .preview
  | _ => none

/-- The endpoint a write may name: MGMT fails with the undefined values (R22). -/
def endpointOperand (b : Byte) : Option Endpoint :=
  if h : b.toNat < 8 then some (.trib ⟨b.toNat, h⟩)
  else if b.toNat = 8 then some .tally
  else none

def classOperand (b : Byte) : Option FlowClass :=
  match b.toNat with
  | 0 => some .picture
  | 1 => some .sound
  | 2 => some .talk
  | 3 => some .control
  | 4 => some .tally
  | 5 => some .data
  | _ => none

def protectionOperand (b : Byte) : Option Protection :=
  match b.toNat with
  | 0 => some .both
  | 1 => some .bothShed
  | 2 => some .fibre
  | 3 => some .radio
  | 4 => some .fibreSwitch
  | _ => none

/-- The setting value of an ON or OFF setting: 0 ON, 1 OFF (log entry 8). -/
def onOffValue (v : BitVec 16) : Option Bool :=
  match v.toNat with
  | 0 => some true
  | 1 => some false
  | _ => none

/-- The setting value of the tally policy: 0 HOLD, 1 DARK. -/
def policyValue (v : BitVec 16) : Option TallyPolicy :=
  match v.toNat with
  | 0 => some .hold
  | 1 => some .dark
  | _ => none

/-- The setting value of an event level: 0 URGENT, 1 ROUTINE. -/
def levelValue (v : BitVec 16) : Option EventLevel :=
  match v.toNat with
  | 0 => some .urgent
  | 1 => some .routine
  | _ => none

/-- A number brought into `low..high`, and whether that changed it. -/
def clampNumber (low high v : Nat) : Nat × Bool :=
  if v < low then (low, true) else if high < v then (high, true) else (v, false)

end Sys2Proof.Machine
end

