-- ==== Sys2Proof/Machine/Formats.lean ====
section
/-! DEFINITION. The byte layouts of 12_formats.md: the cell header and its check (R183, R184), the
cells the transmitters complete (R57, R61, R63), what a receiver reads of a header (R80), and the
parts of management records (R185, R186, R187). -/

namespace Sys2Proof.Machine

/-! ### The header check (R184) -/

/-- One shift of the check register toward its top bit. -/
def checkShift (r : Byte) : Byte := if r.msb then (r <<< 1) ^^^ 0x9B else r <<< 1

/-- The check register after a byte: the exclusive-or, then eight shifts. -/
def checkByte (r b : Byte) : Byte :=
  checkShift (checkShift (checkShift (checkShift
    (checkShift (checkShift (checkShift (checkShift (r ^^^ b))))))))

/-- The check over some header bytes, from a register of 0. -/
def headerCheck (bytes : List Byte) : Byte := bytes.foldl checkByte 0

/-! ### The cells a transmitter completes (R63, R183, R184) -/

/-- A header from its kind, flow, sequence, four info bytes and payload length. -/
def headerBytes (kind : Nat) (flow : Flow) (sequence : Seq) (info : List Byte) (len : Nat) :
    List Byte :=
  let body : List Byte :=
    [0xE2, 0x1D, BitVec.ofNat 8 (64 * kind + flow.val)] ++ bytesOf 2 sequence.toNat ++ info ++
      [BitVec.ofNat 8 len, 0]
  body ++ [headerCheck body]

/-- The 192 bytes of a batch cell. -/
def dataCellBytes (flow : Flow) (sequence : Seq) (data : CellData) : List Byte :=
  headerBytes 1 flow sequence (zeroBytes 4) data.len ++ data.payload

/-- The marker info field (R183). -/
def markerInfo (m : Marker) : List Byte :=
  bytesOf 2 m.sf.toNat ++
    [flagByte m.fibreTimed 1 + flagByte m.radioTimed 2, BitVec.ofNat 8 m.grade.toNat]

/-- The 192 bytes of a marker (R57, R184). -/
def markerCellBytes (m : Marker) : List Byte :=
  headerBytes 2 0 0 (markerInfo m) 0 ++ zeroBytes payloadBytes

/-- The 192 bytes of an idle cell (R61). -/
def idleCellBytes : List Byte := headerBytes 3 0 0 (zeroBytes 4) 0 ++ zeroBytes payloadBytes

/-! ### What a receiver reads of a header (R80, R184) -/

/-- The framing test: the sync word, and the check over bytes 0..10 equal to byte 11. -/
def framingTest (bytes : List Byte) : Bool :=
  byteAt bytes 0 == 0xE2 && byteAt bytes 1 == 0x1D &&
    headerCheck (slice bytes 0 11) == byteAt bytes 11

/-- What an accepted header says, by its kind. -/
inductive HeaderContent where
  | idle
  | data (flow : Flow) (sequence : Seq) (len : Nat)
  | marker (sf : Superframe) (fibreTimed radioTimed : Bool) (grade : Grade)
  deriving DecidableEq, Repr

/-- The content test: what the header says, or `none` when it fails. -/
def contentTest (bytes : List Byte) : Option HeaderContent :=
  let kind : Nat := (byteAt bytes 2).toNat / 64
  let len : Nat := (byteAt bytes 9).toNat
  let sf : Nat := valueOf (slice bytes 5 2)
  let flags : Byte := byteAt bytes 7
  let grade : Nat := (byteAt bytes 8).toNat
  if kind = 1 then
    if 1 ≤ len ∧ len ≤ 180 then
      some (.data (Fin.ofNat 64 (byteAt bytes 2).toNat)
        (BitVec.ofNat 16 (valueOf (slice bytes 3 2))) len)
    else none
  else if kind = 2 then
    if sf ≤ 4095 ∧ grade ≤ 15 then
      some (.marker (BitVec.ofNat 12 sf) (flags.getLsbD 0) (flags.getLsbD 1)
        (BitVec.ofNat 4 grade))
    else none
  else if kind = 3 then some .idle
  else none

/-- The payload of a 192-byte cell. -/
def cellPayload (bytes : List Byte) : List Byte := slice bytes 12 payloadBytes

/-! ### Enumerated values as numbers (R183, R185, R186, R187) -/

def RecordKind.number : RecordKind → Byte
  | .command => 1
  | .response => 2
  | .notice => 3

def Status.number : Status → Byte
  | .ok => 0
  | .none => 1
  | .field => 2
  | .range => 3
  | .fixed => 4
  | .active => 5
  | .busy => 6
  | .check => 7
  | .late => 8
  | .barred => 9
  | .window => 10
  | .frozen => 11
  | .nearOnly => 12
  | .noPath => 13
  | .full => 14
  | .unknown => 15

def LampState.number : LampState → Byte
  | .off => 0
  | .program => 1
  | .preview => 2

def Endpoint.number : Endpoint → Byte
  | .trib n => BitVec.ofNat 8 n.val
  | .tally => 8
  | .mgmt => 9

def FlowClass.number : FlowClass → Byte
  | .picture => 0
  | .sound => 1
  | .talk => 2
  | .control => 3
  | .tally => 4
  | .data => 5

def Protection.number : Protection → Byte
  | .both => 0
  | .bothShed => 1
  | .fibre => 2
  | .radio => 3
  | .fibreSwitch => 4

def Direction.number : Direction → Byte
  | .outbound => 1
  | .inbound => 2
  | .bothWays => 3

def BankNo.number : BankNo → Byte
  | .bank0 => 0
  | .bank1 => 1

def bearerNumber : Bearer → Byte
  | .fibre => 0
  | .radio => 1

def roleNumber : Role → Byte
  | .mast => 0
  | .truck => 1

def RxState.number : RxState → Byte
  | .hunt => 0
  | .confirm => 1
  | .aligned => 2
  | .timed => 3

def WayOut.number : WayOut → Nat
  | .absence => 0
  | .headers => 1
  | .reset => 2

def StrikeLine.number : StrikeLine → Nat
  | .a => 0
  | .b => 1

def JumpReason.number : JumpReason → Nat
  | .jump => 0
  | .stale => 1

def TallyPolicy.number : TallyPolicy → Nat
  | .hold => 0
  | .dark => 1

def EventLevel.number : EventLevel → Nat
  | .urgent => 0
  | .routine => 1

def MgmtQueue.number : MgmtQueue → Nat
  | .port => 0
  | .flow0 => 1

/-- ON is 0 and OFF is 1, in the order R168 lists them (log entry 8). -/
def onOffNumber (on : Bool) : Nat := if on then 0 else 1

/-- The entry record (R185). An UNUSED entry reads back with bytes 1..9 zero. -/
def Entry.record : Entry → List Byte
  | .unused => zeroBytes 10
  | .used dir x =>
    [dir.number, x.endpoint.number, x.cls.number, x.protection.number] ++ bytesOf 2 x.rate ++
      [BitVec.ofNat 8 x.rank, BitVec.ofNat 8 x.margin] ++ bytesOf 2 x.depth

/-- The two parts of a detail as two-byte values (R186). -/
def EventDetail.parts : EventDetail → Nat × Nat
  | .wayOut w => (w.number, 0)
  | .line l => (l.number, 0)
  | .flow f => (f.val, 0)
  | .tributary t => (t.val, 0)
  | .tributaryFlow t f => (t.val, f.val)
  | .flows f k => (f.val, k)
  | .jump f r => (f.val, r.number)
  | .superframe sf => (sf.toNat, 0)
  | .grades old new => (old.toNat, new.toNat)
  | .strikes k => (k.toNat, 0)
  | .skew x => ((BitVec.ofInt 16 x).toNat, 0)
  | .tally p sf => (p.number, sf.toNat)
  | .step old new => (old.toNat, new.toNat)
  | .refused c st => (c.toNat, st.number.toNat)
  | .dropped q k => (q.number, k.number.toNat)

/-- The four detail bytes of a notice listing, zero when the detail is absent. -/
def detailBytes : Option EventDetail → List Byte
  | none => zeroBytes 4
  | some d => bytesOf 2 d.parts.1 ++ bytesOf 2 d.parts.2

/-- A lamp table as eight bytes, coded as in the tally payload (R183). -/
def lampBytes (lamps : Tab 8 LampState) : List Byte := allEights.map fun i => (lamps.read i).number

/-- The leading bytes of a management cell: its record (R185). -/
def CellData.record (c : CellData) : List Byte := c.payload.take c.len

/-- The kind of a management record, by its byte 0. -/
def recordKind (record : List Byte) : Option RecordKind :=
  match (byteAt record 0).toNat with
  | 1 => some .command
  | 2 => some .response
  | 3 => some .notice
  | _ => none

/-! ### Responses (R162, R185, R186) -/

/-- What carrying out a command answers: the status, whether CLAMPED stands with OK, the detail and
the result bytes. -/
structure Reply where
  status : Status
  clamped : Bool
  detail : List Byte
  results : List Byte
  deriving DecidableEq, Repr

/-- OK with some results. -/
def Reply.ok (results : List Byte) : Reply :=
  { status := .ok, clamped := false, detail := [], results := results }

/-- OK with some results, CLAMPED with it when `clamped` holds. -/
def Reply.okClamped (clamped : Bool) (results : List Byte) : Reply :=
  { status := .ok, clamped := clamped, detail := [], results := results }

/-- A status with no detail and no results. -/
def Reply.bare (status : Status) : Reply :=
  { status := status, clamped := false, detail := [], results := [] }

/-- A FIELD or RANGE refusal, naming one of the record bytes given (R186). -/
def Reply.refusedAt (status : Status) (candidates : List Nat) : Reply :=
  { status := status, clamped := false, detail := [BitVec.ofNat 8 (blame candidates)], results := [] }

/-- The response record (R185): kind, tag, command number, status, flags, the five detail bytes, and
the results from byte 10. -/
def responseRecord (tag number : Byte) (r : Reply) : List Byte :=
  [RecordKind.response.number, tag, number, r.status.number, flagByte r.clamped 1] ++
    (r.detail ++ zeroBytes 5).take 5 ++ r.results

end Sys2Proof.Machine
end

