-- ==== Sys2Proof/Machine/TableControl.lean ====
section
/-! DEFINITION. Table Control (02_the_flow_table.md): the tests and effects of the table commands
(R21 to R25), the consistency check (R26 to R30), the acceptance and cancelling of a swap (R32, R33)
and the classification of each flow at an execution (R37). -/

namespace Sys2Proof.Machine

/-! ### The entry a write stores (R18, R22) -/

/-- The numeric fields of a write brought into range, and whether any was other than by taking a
written default (R18, R22). -/
def numericFields (raw : RawEntry) : (Nat × Nat × Nat × Nat) × Bool :=
  let rate := clampNumber 1 1527 raw.rate.toNat
  let rank := clampNumber 0 15 raw.rank.toNat
  let margin := if raw.margin = 0 then 16 else raw.margin.toNat
  let depth := if raw.depth = 0 then (256, false) else clampNumber 4 1024 raw.depth.toNat
  ((rate.1, rank.1, margin, depth.1), rate.2 || rank.2 || depth.2)

/-- The entry that the record of a WRITE-ENTRY stores and whether it reports CLAMPED; or the record
byte of its first failing field (R22, R186). -/
def entryOfRecord (raw : RawEntry) : Except Nat (Entry × Bool) :=
  if raw.state = 0 then .ok (.unused, false)
  else
    let dir : Option Direction :=
      if raw.state = 1 then some .outbound else if raw.state = 2 then some .inbound else none
    match dir, endpointOperand raw.endpoint, classOperand raw.cls, protectionOperand raw.protection with
    | none, _, _, _ => .error 6
    | some _, none, _, _ => .error 7
    | some _, some _, none, _ => .error 8
    | some _, some _, some _, none => .error 9
    | some d, some ep, some c, some p =>
      let m := numericFields raw
      .ok (.used d { endpoint := ep, cls := c, protection := p, rate := m.1.1, rank := m.1.2.1,
                     margin := m.1.2.2.1, depth := m.1.2.2.2 }, m.2)

/-! ### The tests of a table write (R21) -/

/-- The first failing test of R21. `badBanks` are the record bytes of the bank operands that name no
bank, `badRange` those of a flow number or range that is not well formed, `zero` says that the write
names entry 0. -/
def editRefusal (t : TableControl) (badBanks badRange : List Nat) (destination : Option BankNo)
    (zero : Bool) : Option Reply :=
  if badBanks ≠ [] then some (Reply.refusedAt .field badBanks)
  else if badRange ≠ [] then some (Reply.refusedAt .range badRange)
  else if destination ≠ some t.shadow then some (Reply.bare .active)
  else if zero then some (Reply.bare .fixed)
  else if t.pendingSwap.isSome then some (Reply.bare .busy)
  else none

/-- The record byte `at_` when the bank operand there names no bank. -/
def badBank (b : Byte) (at_ : Nat) : List Nat := if (bankOperand b).isNone then [at_] else []

/-- WRITE-ENTRY (R22). -/
def TableControl.writeEntry (t : TableControl) (bank flow : Byte) (raw : RawEntry) :
    Reply × TableControl :=
  let badFlow := if (flowOperand flow).isNone then [5] else []
  match editRefusal t (badBank bank 4) badFlow (bankOperand bank) (flow = 0), flowOperand flow with
  | some refusal, _ => (refusal, t)
  | none, none => (Reply.refusedAt .range [5], t)
  | none, some f =>
    match entryOfRecord raw with
    | .error at_ => (Reply.refusedAt .field [at_], t)
    | .ok (entry, clamped) =>
      (Reply.okClamped clamped (flow :: entry.record), t.withShadow (t.shadowBank.write f entry))

/-- CLEAR-ENTRY (R23). -/
def TableControl.clearEntry (t : TableControl) (bank flow : Byte) : Reply × TableControl :=
  let badFlow := if (flowOperand flow).isNone then [5] else []
  match editRefusal t (badBank bank 4) badFlow (bankOperand bank) (flow = 0), flowOperand flow with
  | some refusal, _ => (refusal, t)
  | none, none => (Reply.refusedAt .range [5], t)
  | none, some f => (Reply.ok [], t.withShadow (t.shadowBank.write f .unused))

/-- The record bytes that could be called the place of an ill-formed range (R24): first, count, or
either of them when each is in range and their sum is not. -/
def badCopyRange (first count : Byte) : List Nat :=
  let badFirst := 63 < first.toNat
  let badCount := count.toNat = 0 ∨ 64 < count.toNat
  if badFirst ∧ ¬ badCount then [6]
  else if badCount ∧ ¬ badFirst then [7]
  else if badFirst ∨ badCount ∨ 64 < first.toNat + count.toNat then [6, 7]
  else []

/-- COPY-ENTRIES (R24): entry 0 is passed over. -/
def TableControl.copyEntries (t : TableControl) (source destination first count : Byte) :
    Reply × TableControl :=
  match editRefusal t (badBank source 4 ++ badBank destination 5) (badCopyRange first count)
      (bankOperand destination) false, bankOperand source with
  | some refusal, _ => (refusal, t)
  | none, none => (Reply.refusedAt .field [4], t)
  | none, some b =>
    let copied (f : Flow) : Bool :=
      f.val ≠ 0 && first.toNat ≤ f.val && f.val < first.toNat + count.toNat
    let number : Nat := if first = 0 then count.toNat - 1 else count.toNat
    (Reply.ok [BitVec.ofNat 8 number],
      t.withShadow (Tab.build fun f =>
        if copied f then (t.bank b).read f else t.shadowBank.read f))

/-- READ-ENTRY (R25, R186). DEDUCED: the bank is tested before the flow number, the order in which R25
names the two tests without calling them ordered, so that a command with both bad is refused with FIELD
naming the bank (log entry 16). -/
def TableControl.readEntry (t : TableControl) (bank flow : Byte) : Reply :=
  match bankOperand bank, flowOperand flow with
  | none, _ => Reply.refusedAt .field [4]
  | some _, none => Reply.refusedAt .range [5]
  | some b, some f => Reply.ok ([bank, flow, t.active.number] ++ ((t.bank b).read f).record)

/-! ### The consistency check (R26 to R30) -/

/-- Two entries conflict: the same state, OUTBOUND or INBOUND, and the same endpoint (R27). -/
def Entry.conflicts : Entry → Entry → Bool
  | .used d x, .used d' y => d == d' && x.endpoint == y.endpoint
  | _, _ => false

/-- The other entries with which entry `f` conflicts, lowest first. -/
def conflictsOf (entries : Tab 64 Entry) (f : Flow) : List Flow :=
  userFlows.filter fun g => g ≠ f && (entries.read f).conflicts (entries.read g)

/-- The lowest entry in conflict, with the lowest other entry it conflicts with (R27). -/
def tribConflict (entries : Tab 64 Entry) : Option (Flow × Flow) :=
  userFlows.findSome? fun f => (conflictsOf entries f).head?.map fun g => (f, g)

/-- The fibre slots an entry may take in a superframe (R28). -/
def Entry.fibreRate (e : Entry) : Nat :=
  match e.outbound with
  | some x => if x.protection = .radio then 0 else x.rate
  | none => 0

/-- The fibre demand of a bank (R28). -/
def fibreDemand (entries : Tab 64 Entry) : Nat :=
  (userFlows.map fun f => (entries.read f).fibreRate).sum

/-- The CLASS test fails at an entry: class TALLY without endpoint TALLY, or the reverse (R29). -/
def Entry.classFails : Entry → Bool
  | .used _ x => (x.cls == .tally) != (x.endpoint == .tally)
  | .unused => false

/-- The result of the consistency check, with the detail of the first test that fails. -/
inductive CheckResult where
  | pass
  | tribConflict (first other : Flow)
  | overcommit (excess : Nat)
  | classMismatch (entry : Flow)
  deriving DecidableEq, Repr

/-- The consistency check of a bank: the three tests in order (R26). -/
def consistencyCheck (entries : Tab 64 Entry) : CheckResult :=
  match tribConflict entries with
  | some (f, g) => .tribConflict f g
  | none =>
    if Config.usableFibreSlots < fibreDemand entries then
      .overcommit (fibreDemand entries - Config.usableFibreSlots)
    else
      match userFlows.find? fun f => (entries.read f).classFails with
      | some f => .classMismatch f
      | none => .pass

/-- The CHECK refusal of a result that is not a pass (R30, R186). -/
def CheckResult.refusal : CheckResult → Option Reply
  | .pass => none
  | .tribConflict f g =>
    some { (Reply.bare .check) with detail := [0] ++ bytesOf 2 f.val ++ bytesOf 2 g.val }
  | .overcommit excess => some { (Reply.bare .check) with detail := [1] ++ bytesOf 2 excess }
  | .classMismatch f => some { (Reply.bare .check) with detail := [2] ++ bytesOf 2 f.val }

/-- How many of entries 1..63 satisfy `p`. -/
def countEntries (entries : Tab 64 Entry) (p : Entry → Bool) : Nat :=
  (userFlows.filter fun f => p (entries.read f)).length

/-- CHECK-SHADOW (R30). -/
def TableControl.checkShadow (t : TableControl) : Reply :=
  match (consistencyCheck t.shadowBank).refusal with
  | some refusal => refusal
  | none =>
    Reply.ok (bytesOf 2 (fibreDemand t.shadowBank) ++
      [BitVec.ofNat 8 (countEntries t.shadowBank fun e => e.outbound.isSome),
       BitVec.ofNat 8 (countEntries t.shadowBank fun e => e.inbound.isSome)])

/-! ### The pending swap (R31 to R33) -/

/-- SWAP-AT, `c` being the last started superframe; the upper four bits of X are not read (R32,
R185). -/
def TableControl.swapAt (t : TableControl) (c : Superframe) (x : BitVec 16) : Reply × TableControl :=
  let target : Superframe := x.truncate 12
  if t.pendingSwap.isSome then (Reply.bare .busy, t)
  else
    match (consistencyCheck t.shadowBank).refusal with
    | some refusal => (refusal, t)
    | none =>
      if 1 ≤ (target - c).toNat ∧ (target - c).toNat ≤ 2047 then
        (Reply.ok (bytesOf 2 target.toNat ++ bytesOf 2 c.toNat), { t with pendingSwap := some target })
      else (Reply.bare .late, t)

/-- CANCEL-SWAP (R33). -/
def TableControl.cancelSwap (t : TableControl) : Reply × TableControl :=
  match t.pendingSwap with
  | some x => (Reply.ok (bytesOf 2 x.toNat), { t with pendingSwap := none })
  | none => (Reply.bare .none, t)

/-- The table once a pending swap has executed: the other bank active, no swap pending (R34, R35). -/
def TableControl.swapped (t : TableControl) : TableControl :=
  { t with active := t.active.other, pendingSwap := none }

/-! ### What a swap does to each flow (R37) -/

/-- The classification of a flow at an execution. -/
inductive Classification where
  | idle
  | continuing (dir : Direction)
  | ended (old : Direction)
  | started (new : Direction)
  | endedThenStarted (old new : Direction)
  deriving DecidableEq, Repr

/-- Classify a flow by its entry in the old active bank and in the new (R37). -/
def classify : Entry → Entry → Classification
  | .unused, .unused => .idle
  | .unused, .used d _ => .started d
  | .used d _, .unused => .ended d
  | .used d x, .used d' y =>
    if d = d' ∧ x.endpoint = y.endpoint ∧ x.depth = y.depth then .continuing d
    else .endedThenStarted d d'

/-- The flow starts as an outbound flow (R38). -/
def Classification.startsOutbound : Classification → Bool
  | .started .outbound => true
  | .endedThenStarted _ .outbound => true
  | _ => false

/-- The flow ends as an inbound flow (R39). -/
def Classification.endsInbound : Classification → Bool
  | .ended .inbound => true
  | .endedThenStarted .inbound _ => true
  | _ => false

/-- The classification of flow `f` when bank `old` gives way to bank `new`. -/
def classifyFlow (old new : Tab 64 Entry) (f : Flow) : Classification :=
  classify (old.read f) (new.read f)

end Sys2Proof.Machine
end

