-- ==== Sys2Proof/Machine/Batch.lean ====
section
/-! DEFINITION. The Batch Unit (R46 to R54): forming, numbering and placing the batches of a
superframe, the silent runs, and the Tally Source. -/

namespace Sys2Proof.Machine

/-- Cells numbered in order from sequence `q`, unsent (R49). -/
def numberCells (f : Flow) : Seq → List CellData → List BatchCell
  | _, [] => []
  | q, d :: ds => { flow := f, sequence := q, data := d, sent := false } :: numberCells f (q + 1) ds

/-- Whether a flow's cells are placed on a bearer, by its protection and whether it is in the Radio
Plan (R54). -/
def placedOn (b : Bearer) (p : Protection) (inPlan : Bool) : Bool :=
  match b, p with
  | .fibre, .radio => false
  | .fibre, _ => true
  | .radio, .both => true
  | .radio, .radio => true
  | .radio, .fibre => false
  | .radio, .bothShed => inPlan
  | .radio, .fibreSwitch => inPlan

/-- Cells joined to a transmitter's send list when `here` holds (R47, R56). -/
def Transmitter.addCells (t : Transmitter) (here : Bool) (cells : List BatchCell) : Transmitter :=
  if here then { t with sendList := t.sendList ++ cells } else t

/-- The cells of flow `f`'s batch numbered, counted, and handed to the transmitters on whose bearers
they are placed (R49, R54). -/
def State.batchCells (s : State) (f : Flow) (p : Protection) (ds : List CellData) : State :=
  let st := s.batch.flow.read f
  let cells := numberCells f st.sequence ds
  let inPlan := s.planner.plan.contains f
  let counted : FlowBatchState :=
    { st with sequence := st.sequence + BitVec.ofNat 16 ds.length,
              batched := satAdd st.batched ds.length }
  ((s.withBatch { s.batch with flow := s.batch.flow.write f counted }).withFibreTx
    (s.fibreTx.addCells (placedOn .fibre p inPlan) cells)).withRadioTx
    (s.radioTx.addCells (placedOn .radio p inPlan) cells)

/-- The silent run and mark after a batch, and whether SOURCE-SILENT is raised (R53). -/
def FlowBatchState.judgeSilence (st : FlowBatchState) (empty : Bool) : FlowBatchState × Bool :=
  if empty then
    let run := min 64 (st.silentRun + 1)
    let raised := run == 64 && !st.silentMark
    ({ st with silentRun := run, silentMark := st.silentMark || raised }, raised)
  else ({ st with silentRun := 0, silentMark := false }, false)

/-- SOURCE-SILENT raised for flow `f` (R53). Of several raised at one superframe start, whose raisings
are collected apart, any may be the one taken last, which leaves its detail (R177). -/
def State.raiseSilent (s : State) (f : Flow) : State :=
  if (s.events.event.read EventId.sourceSilent.num).flag && !s.race (.silentLater f) then s
  else s.raise .sourceSilent (.flow f)

/-- The silent run of flow `f` judged at its batch (R53). -/
def State.judgeSilence (s : State) (f : Flow) (empty : Bool) : State :=
  let r := (s.batch.flow.read f).judgeSilence empty
  let s1 := s.withBatch { s.batch with flow := s.batch.flow.write f r.1 }
  if r.2 then s1.raiseSilent f else s1

/-- The batch of a flow whose source is tributary `n` (R48, R53). -/
def State.tributaryBatch (s : State) (f : Flow) (x : EntryFields) (n : Trib) : State :=
  let fifo := s.ingress.fifo.read n
  let k := min x.rate fifo.length
  let s1 := s.withIngress (s.ingress.remove (s.mgmt.settings.watermark.read n) n k)
  (s1.batchCells f x.protection (fifo.take k)).judgeSilence f (k == 0)

/-- The tally cell that carries the Tally Source state: payload length 8 (R50, R183). -/
def State.tallyCell (s : State) : CellData :=
  paddedCell s.occasion (lampBytes s.batch.tallySource)

/-- The batch of a flow whose source is the Tally Source (R50). -/
def State.tallyBatch (s : State) (f : Flow) (x : EntryFields) : State :=
  (s.batchCells f x.protection [s.tallyCell]).nextOccasion

/-- The batch that flow `f` forms under the active bank: none unless its entry is OUTBOUND (R47). -/
def State.formBatch (s : State) (f : Flow) : State :=
  match (s.activeEntry f).outbound with
  | none => s
  | some x =>
    match x.endpoint with
    | .trib n => s.tributaryBatch f x n
    | .tally => s.tallyBatch f x
    | .mgmt => s

/-- The batches of flows 1..63 at a superframe start (R47). -/
def State.formBatches (s : State) : State := userFlows.foldl State.formBatch s

/-- Flow 0's batch: the oldest cells of the flow-0 outbound queue, up to eight, placed on both
bearers (R52). -/
def State.flow0Batch (s : State) : State :=
  let queue := s.mgmt.flow0Queue
  (s.withMgmt { s.mgmt with flow0Queue := queue.drop 8 }).batchCells 0 .both (queue.take 8)

/-- The Batch Unit's part of a swap: a started outbound flow begins at sequence 0 (R38, R46). -/
def BatchUnit.atSwap (u : BatchUnit) (change : Flow → Classification) : BatchUnit :=
  { u with flow := Tab.build fun f =>
      if f ≠ 0 ∧ (change f).startsOutbound then
        { u.flow.read f with sequence := 0, silentRun := 0, silentMark := false }
      else u.flow.read f }

/-- The Batch Unit's part of a datapath reset (R46, R50). -/
def BatchUnit.datapathReset (u : BatchUnit) : BatchUnit :=
  { u with flow := Tab.build fun f =>
      { u.flow.read f with sequence := 0, silentRun := 0, silentMark := false } }

/-! ### SET-TALLY (R51, R152) -/

/-- The record bytes of the lamps that a mask names and whose state is undefined; lamp n's byte is
6 + n (R185). -/
def badLamps (mask : Byte) (lamps : Tab 8 Byte) : List Nat :=
  (allEights.filter fun n => mask.getLsbD n.val && (lampOperand (lamps.read n)).isNone).map
    fun n => 6 + n.val

/-- Lamp states with those that a mask names set (R51, R152). -/
def setLamps (states : Tab 8 LampState) (mask : Byte) (lamps : Tab 8 Byte) : Tab 8 LampState :=
  Tab.build fun n =>
    if mask.getLsbD n.val then (lampOperand (lamps.read n)).getD (states.read n)
    else states.read n

/-- SET-TALLY naming the Tally Source (R51). -/
def BatchUnit.setTally (u : BatchUnit) (mask : Byte) (lamps : Tab 8 Byte) : Reply × BatchUnit :=
  if badLamps mask lamps ≠ [] then (Reply.refusedAt .field (badLamps mask lamps), u)
  else (Reply.ok [], { u with tallySource := setLamps u.tallySource mask lamps })

end Sys2Proof.Machine
end

