-- ==== Sys2Proof/Machine/Egress.lean ====
section
/-! DEFINITION. The Egress Ports and the Tally Unit (09_egress_and_tally.md): hand-overs, drops and
takes; the received lamp states, the override, the tally-loss timer and the lamp lines. -/

namespace Sys2Proof.Machine

/-! ### Egress FIFOs (R143 to R147) -/

/-- An entry is placed at the tail of tributary `n`'s egress FIFO (R144). -/
def EgressPorts.place (p : EgressPorts) (n : Trib) (e : EgressEntry) : EgressPorts :=
  { p with fifo := p.fifo.write n (p.fifo.read n ++ [e]) }

/-- An entry of flow `f` that met a full FIFO is counted (R145). -/
def EgressPorts.countDrop (p : EgressPorts) (f : Flow) : EgressPorts :=
  { p with dropCount := p.dropCount.modify f satInc }

/-- One entry of flow `f` handed to the egress FIFO of tributary `n`: placed, or dropped when the
FIFO is full (R144, R145). -/
def State.handEntry (n : Trib) (f : Flow) (s : State) (e : EgressEntry) : State :=
  if (s.egress.fifo.read n).length < Config.fifoCells then s.withEgress (s.egress.place n e)
  else (s.withEgress (s.egress.countDrop f)).raise .egressOverflow (.tributaryFlow n f)

/-- A hand-over: the entries of one run, taken whole, in run order (R144). -/
def State.handOver (s : State) (n : Trib) (f : Flow) (run : List EgressEntry) : State :=
  run.foldl (State.handEntry n f) s

/-- An entry as an egress half presents it: its payload, its payload length and its fill flag, set
when `fill` holds (R143, R146). -/
structure PresentedEntry where
  payload : List Byte
  len : Nat
  fill : Bool
  deriving DecidableEq, Repr

/-- The payload, payload length and fill flag of an egress entry: a released cell as it came, and a
loss fill of 180 zero bytes and length 0 (R126, R143). -/
def EgressEntry.content : EgressEntry → PresentedEntry
  | .cell data => { payload := data.payload, len := data.len, fill := false }
  | .fill => { payload := zeroBytes payloadBytes, len := 0, fill := true }

/-- What egress half `n` presents, the head entry of its FIFO; nothing is presented while RESET is
asserted (R146). -/
def State.presented (s : State) (n : Trib) : Option PresentedEntry :=
  if s.inReset then none else (s.egress.fifo.read n).head?.map EgressEntry.content

/-- The downstream device takes the head of tributary `n`'s FIFO, which it does only while its ready
indication is asserted (R146). -/
def EgressPorts.take (p : EgressPorts) (n : Trib) : EgressPorts :=
  if p.ready.read n then { p with fifo := p.fifo.write n ((p.fifo.read n).drop 1) } else p

/-- The device changes its ready indication (R146). -/
def EgressPorts.setReady (p : EgressPorts) (n : Trib) (v : Bool) : EgressPorts :=
  { p with ready := p.ready.write n v }

/-- Tributary `n`'s egress FIFO emptied, uncounted (R147). -/
def EgressPorts.flush (p : EgressPorts) (n : Trib) : EgressPorts :=
  { p with fifo := p.fifo.write n [] }

/-- The Egress Ports' part of a datapath reset (R143). -/
def EgressPorts.datapathReset (p : EgressPorts) : EgressPorts := { p with fifo := Tab.fill 8 [] }

/-! ### The received lamp states and the tally-loss timer (R148 to R151) -/

/-- A released tally cell is taken (R149). -/
def TallyUnit.takeCell (u : TallyUnit) (payload : List Byte) (tallyLoss : Nat) : TallyUnit :=
  { u with
    received := Tab.build fun n =>
      (lampOperand (byteAt payload n.val)).getD (u.received.read n)
    receivedCount := satInc u.receivedCount
    timer := .running tallyLoss }

/-- The timer's start or stop at the execution of a swap, `governed` saying whether the bank then
active holds an INBOUND TALLY entry (R150). -/
def TallyUnit.atSwap (u : TallyUnit) (governed : Bool) (tallyLoss : Nat) : TallyUnit :=
  if governed then
    if u.timer = .stopped then { u with timer := .running tallyLoss } else u
  else { u with timer := .stopped }

/-- The timer expired under a policy (R150). -/
def TallyUnit.expire (u : TallyUnit) (policy : TallyPolicy) : TallyUnit :=
  { u with
    timer := .expired
    received := if policy = .dark then Tab.fill 8 .off else u.received }

/-- The superframe start of `sf` reaches the Tally Unit (R150). -/
def State.tallyStart (s : State) (sf : Superframe) : State :=
  match s.tally.timer with
  | .running n =>
    if n ≤ 1 then
      (s.withTally (s.tally.expire s.mgmt.settings.tallyPolicy)).raise .tallyLoss
        (.tally s.mgmt.settings.tallyPolicy sf)
    else s.withTally { s.tally with timer := .running (n - 1) }
  | .stopped => s
  | .expired => s

/-- The next superframe start brings the tally-loss timer to 0. -/
def TallyUnit.ending (u : TallyUnit) : Bool :=
  match u.timer with
  | .running n => decide (n ≤ 1)
  | .stopped => false
  | .expired => false

/-! ### The override and the lamp lines (R152, R153) -/

/-- SET-TALLY naming the override, its lamp states all defined (R152). -/
def TallyUnit.setOverride (u : TallyUnit) (mask : Byte) (states : Tab 8 LampState) : TallyUnit :=
  { u with overrideMask := bitsOf mask, overrideStates := states }

/-- CLEAR-TALLY-OVERRIDE (R152). -/
def TallyUnit.clearOverride (u : TallyUnit) : TallyUnit :=
  { u with overrideMask := Tab.fill 8 false }

/-- The shown state of a lamp (R153). -/
def TallyUnit.shown (u : TallyUnit) (n : Lamp) : LampState :=
  if u.overrideMask.read n then u.overrideStates.read n else u.received.read n

/-- A lamp's red and green lines from its shown state (R153). -/
def lampLines : LampState → Bool × Bool
  | .off => (false, false)
  | .program => (true, false)
  | .preview => (false, true)

/-- The red and green lines of lamp `n`; all are off while RESET is asserted (R153). -/
def State.lampLines (s : State) (n : Lamp) : Bool × Bool :=
  if s.inReset then (false, false) else Machine.lampLines (s.tally.shown n)

end Sys2Proof.Machine
end

