-- ==== Sys2Proof/Machine/Management.lean ====
section
/-! DEFINITION. The Management Unit's own state (10_in_band_management.md): its two queues and their
drops (R157, R159), the tests that a command meets before its block's own (R161, R170), the far
write protections (R169 to R171), the link settings (R168), and the placing of responses (R162,
R163). -/

namespace Sys2Proof.Machine

/-! ### The two queues (R157, R159) -/

/-- A queue with a cell joined at its tail, or `none` when it holds 16 (R157, R159). -/
def joinQueue (queue : List CellData) (cell : CellData) : Option (List CellData) :=
  if queue.length < Config.queueCells then some (queue ++ [cell]) else none

/-- A cell of the given kind joins the management-port egress queue or is dropped (R157). -/
def State.placePort (s : State) (kind : RecordKind) (cell : CellData) : State :=
  match joinQueue s.mgmt.portQueue cell with
  | some queue => s.withMgmt { s.mgmt with portQueue := queue }
  | none =>
    (s.withMgmt { s.mgmt with portDrops := satInc s.mgmt.portDrops }).raise .mgmtDrop
      (.dropped .port kind)

/-- A response or notice joins the flow-0 outbound queue or is dropped (R159). -/
def State.placeFlow0 (s : State) (kind : RecordKind) (cell : CellData) : State :=
  match joinQueue s.mgmt.flow0Queue cell with
  | some queue => s.withMgmt { s.mgmt with flow0Queue := queue }
  | none =>
    (s.withMgmt { s.mgmt with flow0Drops := satInc s.mgmt.flow0Drops }).raise .mgmtDrop
      (.dropped .flow0 kind)

/-- The cell that the management port presents to the near host (R157). -/
def State.portPresented (s : State) : Option CellData :=
  if s.inReset then none else s.mgmt.portQueue.head?

/-- The near host takes the head of the queue (R157). -/
def ManagementUnit.take (m : ManagementUnit) : ManagementUnit :=
  { m with portQueue := m.portQueue.drop 1 }

/-- A cell discarded as malformed (R156, R160). -/
def State.malformedCell (s : State) : State :=
  s.withMgmt { s.mgmt with malformed := satInc s.mgmt.malformed }

/-! ### Responses (R162, R163) -/

/-- A status is a refusal: any but OK and NONE (R162). -/
def Status.isRefusal : Status → Bool
  | .ok => false
  | .none => false
  | .field => true
  | .range => true
  | .fixed => true
  | .active => true
  | .busy => true
  | .check => true
  | .late => true
  | .barred => true
  | .window => true
  | .frozen => true
  | .nearOnly => true
  | .noPath => true
  | .full => true
  | .unknown => true

/-- The response goes to the queue its command's origin names (R162). -/
def State.placeResponse (s : State) (o : Origin) (cell : CellData) : State :=
  match o with
  | .near => s.placePort .response cell
  | .far => s.placeFlow0 .response cell

/-- FAR-REFUSED raised when a command of origin FAR is refused (R163). -/
def State.noteRefusal (s : State) (o : Origin) (number : Byte) (status : Status) : State :=
  match o with
  | .near => s
  | .far => if status.isRefusal then s.raise .farRefused (.refused number status) else s

/-- A command is answered: the refusal of a far one is raised, and the response, built from what the
command left, joins its queue or is dropped there (R162, R163). -/
def State.answer (s : State) (o : Origin) (tag number : Byte) (r : Reply) : State :=
  let cell := paddedCell s.occasion (responseRecord tag number r)
  ((s.noteRefusal o number r.status).placeResponse o cell).nextOccasion

/-! ### The tests of R161 before the block's own -/

/-- The commands that a far end may not give (R161, step 2). -/
def Command.nearOnly : Command → Bool
  | .setWindow .. => true
  | .freezeWindow => true
  | .clearBar => true
  | .resetDatapath => true
  | _ => false

/-- The commands that the far write bar refuses (R161, step 3). -/
def Command.barred : Command → Bool
  | .writeEntry .. => true
  | .clearEntry .. => true
  | .copyEntries .. => true
  | .swapAt _ => true
  | .cancelSwap => true
  | .setSetting .. => true
  | _ => false

/-- Every entry number in `first .. last` lies in the window; an empty range does (R170). -/
def insideWindow (low high first last : Nat) : Bool :=
  decide (last < first) || (decide (low ≤ first) && decide (last ≤ high))

/-- The entries a far table write touches lie within the far write window (R161, step 4; R170). -/
def Command.windowPasses (low high : Nat) : Command → Bool
  | .writeEntry _ flow _ => insideWindow low high flow.toNat flow.toNat
  | .clearEntry _ flow => insideWindow low high flow.toNat flow.toNat
  | .copyEntries _ _ first count =>
    decide (count = 0) ||
      insideWindow low high (max first.toNat 1) (first.toNat + count.toNat - 1)
  | _ => true

/-- The refusal of steps 2 to 4 of R161, which apply to a command of origin FAR. -/
def ManagementUnit.farRefusal (m : ManagementUnit) (c : Command) : Option Status :=
  if c.nearOnly then some .nearOnly
  else if m.bar && c.barred then some .barred
  else if !c.windowPasses m.windowLow m.windowHigh then some .window
  else none

/-- The refusal that a command meets before its block's own tests (R161). -/
def ManagementUnit.refusal (m : ManagementUnit) (o : Origin) (c : Command) : Option Status :=
  match o with
  | .near => none
  | .far => m.farRefusal c

/-! ### The bar, the window and the freeze (R169 to R171) -/

def ManagementUnit.setBar (m : ManagementUnit) (v : Bool) : ManagementUnit := { m with bar := v }

def ManagementUnit.freeze (m : ManagementUnit) : ManagementUnit := { m with frozen := true }

/-- SET-WINDOW (R170). The bounds that make the range ill formed are both candidates for the byte
the refusal names. -/
def ManagementUnit.setWindow (m : ManagementUnit) (low high : Byte) : Reply × ManagementUnit :=
  if m.frozen then (Reply.bare .frozen, m)
  else
    let l := clampNumber 1 63 low.toNat
    let h := clampNumber 1 63 high.toNat
    if h.1 < l.1 then (Reply.refusedAt .range [4, 5], m)
    else
      (Reply.okClamped (l.2 || h.2) [BitVec.ofNat 8 l.1, BitVec.ofNat 8 h.1],
        { m with windowLow := l.1, windowHigh := h.1 })

/-! ### SET-SETTING (R168) -/

/-- The result of a SET-SETTING that stored `value` (R187). -/
def settingStored (name index : Byte) (value : Nat) (clamped : Bool) : Reply :=
  Reply.okClamped clamped ([name, index] ++ bytesOf 2 value)

/-- A numeric setting brought into range and stored (R168, test 4). -/
def setNumber (st : Settings) (name index : Byte) (low high : Nat) (value : BitVec 16)
    (store : Settings → Nat → Settings) : Reply × Settings :=
  let v := clampNumber low high value.toNat
  (settingStored name index v.1 v.2, store st v.1)

/-- An enumerated setting stored, or refused with FIELD naming the value (R168, test 3). -/
def setChoice {α : Type} (st : Settings) (name index : Byte) (value : BitVec 16)
    (read : BitVec 16 → Option α) (store : Settings → α → Settings) : Reply × Settings :=
  match read value with
  | none => (Reply.refusedAt .field [6], st)
  | some v => (settingStored name index value.toNat false, store st v)

/-- SET-SETTING on the link settings, the tests in order (R168). -/
def Settings.set (st : Settings) (name index : Byte) (value : BitVec 16) : Reply × Settings :=
  match name.toNat with
  | 0 =>
    match tribOperand index with
    | none => (Reply.refusedAt .range [5], st)
    | some n =>
      setNumber st name index 8 63 value fun t v => { t with watermark := t.watermark.write n v }
  | 1 => setNumber st name 0 1 8 value fun t v => { t with gradeDown := v }
  | 2 => setNumber st name 0 4 64 value fun t v => { t with gradeUp := v }
  | 3 => setNumber st name 0 0 1023 value fun t v => { t with stormGuard := v }
  | 4 => setNumber st name 0 1 255 value fun t v => { t with stormHold := v }
  | 5 => setNumber st name 0 10 1000 value fun t v => { t with tallyLoss := v }
  | 6 => setChoice st name 0 value policyValue fun t v => { t with tallyPolicy := v }
  | 7 => setNumber st name 0 16 1024 value fun t v => { t with routineInterval := v }
  | 8 => setChoice st name 0 value onOffValue fun t v => { t with reportEnable := v }
  | 9 => setChoice st name 0 value onOffValue fun t v => { t with reportNear := v }
  | 10 => setChoice st name 0 value onOffValue fun t v => { t with reportFar := v }
  | 11 =>
    match eventOperand index with
    | none => (Reply.refusedAt .range [5], st)
    | some e =>
      setChoice st name index value onOffValue fun t v =>
        { t with eventEnable := t.eventEnable.write e v }
  | 12 =>
    match eventOperand index with
    | none => (Reply.refusedAt .range [5], st)
    | some e =>
      setChoice st name index value levelValue fun t v =>
        { t with eventLevel := t.eventLevel.write e v }
  | _ => (Reply.refusedAt .field [4], st)

/-- The result bytes of READ-SETTINGS (R167, R187). -/
def ManagementUnit.settingsBytes (m : ManagementUnit) : List Byte :=
  let st := m.settings
  allEights.flatMap (fun n => bytesOf 2 (st.watermark.read n)) ++
    bytesOf 2 st.gradeDown ++ bytesOf 2 st.gradeUp ++ bytesOf 2 st.stormGuard ++
    bytesOf 2 st.stormHold ++ bytesOf 2 st.tallyLoss ++ bytesOf 2 st.tallyPolicy.number ++
    bytesOf 2 st.routineInterval ++ bytesOf 2 (onOffNumber st.reportEnable) ++
    bytesOf 2 (onOffNumber st.reportNear) ++ bytesOf 2 (onOffNumber st.reportFar) ++
    (List.finRange 20).map (fun e => BitVec.ofNat 8 (onOffNumber (st.eventEnable.read e))) ++
    (List.finRange 20).map (fun e => BitVec.ofNat 8 (st.eventLevel.read e).number) ++
    [flagByte m.bar 1, BitVec.ofNat 8 m.windowLow, BitVec.ofNat 8 m.windowHigh,
      flagByte m.frozen 1]

/-- The Management Unit's own part of a datapath reset: its queues emptied, uncounted (R173). -/
def ManagementUnit.datapathReset (m : ManagementUnit) : ManagementUnit :=
  { m with portQueue := [], flow0Queue := [] }

end Sys2Proof.Machine
end

