-- ==== Sys2Proof/Machine/Holds.lean ====
section
/-! DEFINITION. Hold times (R106 to R109) and the judging of the holds of the lowest held cells at
the moments R123 lists. A hold that is found to have expired stays expired, whatever its hold time
becomes, until the expiry is taken or another cell becomes the lowest (R124; log entry 2). -/

namespace Sys2Proof.Machine

/-! ### The hold time of a flow (R106, R107, R109) -/

/-- A value in sixteenths of either sign, its magnitude rounded up to a whole number (R103, R106). -/
def ceilSixteenths (e : Int) : Nat := (e.natAbs + 15) / 16

/-- S, the skew term (R106). -/
def SkewUnit.skewTerm (u : SkewUnit) : Nat := if u.valid then ceilSixteenths u.e else 0

/-- G, the storm guard as it stands (R106). -/
def State.guard (s : State) : Nat := if s.strike.storm then s.mgmt.settings.stormGuard else 0

/-- The hold time of a flow received by the fields given (R107). -/
def State.holdTimeOf (s : State) (x : EntryFields) : Nat :=
  let h :=
    if x.protection = .fibre ∨ x.protection = .radio then x.margin + s.guard
    else s.skew.skewTerm + s.skew.j + x.margin + s.guard
  max 4 (min 12288 h)

/-- The hold time of flow `f`, which only a flow that this end receives has (R106, R109). -/
def State.holdTime (s : State) (f : Flow) : Option Nat := (s.receiving f).map s.holdTimeOf

/-! ### The judging of a hold (R123) -/

/-- The age of a held cell is its flow's hold time or more (R123). -/
def State.holdOver (s : State) (x : EntryFields) (r : HeldRecord) : Bool :=
  decide (s.holdTimeOf x ≤ age s.clock.time r.stamp)

/-- Judged now, the hold of flow `f`'s lowest held cell expires (R123). -/
def State.expiryDue (s : State) (f : Flow) : Bool :=
  match s.receiving f, (s.merge.window.read f).held with
  | some x, r :: _ => (s.merge.window.read f).running && s.holdOver x r
  | _, _ => false

/-- The hold of flow `f`'s lowest held cell has expired: it was found so at an earlier moment, or is
found so now. -/
def State.holdExpired (s : State) (f : Flow) : Bool := s.expired.read f || s.expiryDue f

/-- The holds of all flows judged, at the entry of a slot, a move of link time or a change of an
input of H (R123, R108). -/
def State.judgeHolds (s : State) : State := s.withExpired (Tab.build s.holdExpired)

/-- Flow `f`'s lowest held cell (R112). -/
def MergeUnit.lowest (u : MergeUnit) (f : Flow) : Option HeldRecord := (u.window.read f).held.head?

/-- What stands of flow `f`'s hold once its window has changed from what `before` holds: an expiry
found before stands for the same lowest cell alone, and the hold is judged (R123, R124). -/
def State.holdFollowed (s : State) (before : MergeUnit) (f : Flow) : Bool :=
  (s.merge.lowest f == before.lowest f && s.expired.read f) || s.expiryDue f

/-- Flow `f`'s hold judged once an event of its window is done (R123). -/
def State.followHold (s : State) (before : MergeUnit) (f : Flow) : State :=
  s.withExpired (s.expired.write f (s.holdFollowed before f))

/-- Every flow's hold judged once windows and entries have changed together (R39, R123). -/
def State.followHolds (s : State) (before : MergeUnit) : State :=
  s.withExpired (Tab.build (s.holdFollowed before))

end Sys2Proof.Machine
end

