-- ==== Sys2Proof/Machine/Merge.lean ====
section
/-! DEFINITION. The Merge Unit (07_the_merge.md): what one arrival, one hold expiry or one flush does
to a Merge Window, its counts and the Buffer Pool, and which cells and loss fills it passes to the
flow's destination. -/

namespace Sys2Proof.Machine

/-- What the Merge Unit passes to a destination: a released cell or a loss fill (R125, R126). -/
inductive Delivery where
  | cell (data : CellData)
  | fill
  deriving DecidableEq, Repr

/-- One flow's window in the middle of one event of the Merge Unit: its window and counts, the
Buffer Pool, and what the event has passed on so far, in order. -/
structure MergeTurn where
  window : MergeWindow
  counts : MergeCounts
  pool : List (Nat × CellData)
  free : List BufferNo
  out : List Delivery
  deriving DecidableEq, Repr

/-! ### Releasing, declaring lost, running on (R116, R118, R119, R123, R125, R126) -/

/-- A released sequence counted by the bearer of the copy released (R125). -/
def MergeCounts.released (c : MergeCounts) : Bearer → MergeCounts
  | .fibre => { c with firstFibre := satInc c.firstFibre }
  | .radio => { c with firstRadio := satInc c.firstRadio }

/-- The cell of an arrival with sequence `q` released, N standing after it (R114, R116, R119). -/
def MergeTurn.releaseArrival (m : MergeTurn) (b : Bearer) (q : Seq) (data : CellData) : MergeTurn :=
  { m with
    window := { m.window with next := q + 1 }
    counts := m.counts.released b
    out := m.out ++ [.cell data] }

/-- The sequences from N to just before `q` declared lost, each with a loss fill when the flow's
class has them (R126). -/
def MergeTurn.loseTo (m : MergeTurn) (fills : Bool) (q : Seq) : MergeTurn :=
  let k := (q - m.window.next).toNat
  { m with
    window := { m.window with next := q }
    counts := { m.counts with
      lost := satAdd m.counts.lost k
      fill := if fills then satAdd m.counts.fill k else m.counts.fill }
    out := if fills then m.out ++ List.replicate k .fill else m.out }

/-- A held cell released, its buffer on top of the free stack and N after it (R125, R128). -/
def MergeTurn.releaseHeld (m : MergeTurn) (r : HeldRecord) : MergeTurn :=
  { m with
    window := { m.window with next := r.sequence + 1 }
    counts := m.counts.released r.bearer
    free := r.buffer :: m.free
    out := m.out ++ [.cell (poolRead m.pool r.buffer.val)] }

/-- Held cells released from the front: each one that carries N, and each one before which the gap
is given up; the first that is neither stays lowest held (R116, R123). -/
def MergeTurn.drain (fills : Bool) (givenUp : HeldRecord → Bool) :
    MergeTurn → List HeldRecord → MergeTurn
  | m, [] => { m with window := { m.window with held := [] } }
  | m, r :: rs =>
    if r.sequence = m.window.next then drain fills givenUp (m.releaseHeld r) rs
    else if givenUp r then drain fills givenUp ((m.loseTo fills r.sequence).releaseHeld r) rs
    else { m with window := { m.window with held := r :: rs } }

/-- The consecutive run at the head of the held list released (R116). -/
def MergeTurn.releaseRun (m : MergeTurn) (fills : Bool) : MergeTurn :=
  m.drain fills (fun _ => false) m.window.held

/-- The hold of the lowest held cell expires: the gap before it is declared lost, it is released with
the run after it, and each cell that becomes the lowest and has waited its hold time expires too
(R123). -/
def MergeTurn.expire (m : MergeTurn) (fills : Bool) (holdOver : HeldRecord → Bool) : MergeTurn :=
  match m.window.held with
  | [] => m
  | r :: rs => ((m.loseTo fills r.sequence).releaseHeld r).drain fills holdOver rs

/-! ### Arrivals at a window (R114 to R121, R129) -/

/-- An arrival of one flow (R86). -/
structure Arrival where
  bearer : Bearer
  sequence : Seq
  data : CellData
  stamp : LinkTime
  deriving DecidableEq, Repr

/-- What the Merge Unit reads of a flow's entry: its depth and whether its class has loss fills
(R112, R126). -/
structure FlowRule where
  depth : Nat
  fills : Bool
  deriving DecidableEq, Repr

/-- PICTURE and SOUND flows receive loss fills (R126). -/
def FlowClass.fills : FlowClass → Bool
  | .picture => true
  | .sound => true
  | .talk => false
  | .control => false
  | .tally => false
  | .data => false

def EntryFields.rule (x : EntryFields) : FlowRule := { depth := x.depth, fills := x.cls.fills }

/-- The five bands of a distance (R115). -/
inductive Band where
  | expected
  | ahead
  | jump
  | stale
  | behind
  deriving DecidableEq, Repr

/-- The band of distance `d` in a window of the given depth (R115). -/
def bandOf (depth d : Nat) : Band :=
  if d = 0 then .expected
  else if d < depth then .ahead
  else if d ≤ 32767 then .jump
  else if d ≤ 57343 then .stale
  else .behind

/-- The distance of sequence `q` from N (R112, R115). -/
def MergeWindow.distance (w : MergeWindow) (q : Seq) : Nat := (q - w.next).toNat

/-- A record put into a held list in order of its distance from `n` (R112). -/
def insertHeld (n : Seq) (r : HeldRecord) : List HeldRecord → List HeldRecord
  | [] => [r]
  | x :: xs =>
    if (r.sequence - n).toNat < (x.sequence - n).toNat then r :: x :: xs
    else x :: insertHeld n r xs

/-- The stale run at 0, as after an arrival of any band but the stale one. -/
def MergeTurn.endStaleRun (m : MergeTurn) : MergeTurn :=
  { m with window := { m.window with staleRun := 0 } }

/-- A copy discarded as redundant (R117, R121). -/
def MergeTurn.redundant (m : MergeTurn) : MergeTurn :=
  { m.endStaleRun with counts := { m.counts with redundant := satInc m.counts.redundant } }

/-- An arrival at an UNSET window starts it (R114). -/
def MergeTurn.start (m : MergeTurn) (a : Arrival) : MergeTurn :=
  let m1 := m.releaseArrival a.bearer a.sequence a.data
  { m1 with window := { m1.window with running := true, staleRun := 0 } }

/-- An expected arrival (R116). -/
def MergeTurn.expected (m : MergeTurn) (rule : FlowRule) (a : Arrival) : MergeTurn :=
  ((m.releaseArrival a.bearer a.sequence a.data).releaseRun rule.fills).endStaleRun

/-- The forced release of a full window (R118). -/
def MergeTurn.forcedRelease (m : MergeTurn) (rule : FlowRule) : MergeTurn :=
  let m1 := (m.loseTo rule.fills (m.window.next + 1)).releaseRun rule.fills
  { m1 with counts := { m1.counts with forced := satInc m1.counts.forced } }

/-- A cell held in buffer `b`, taken from the top of the free stack, whose rest is `rest` (R117). -/
def MergeTurn.hold (m : MergeTurn) (a : Arrival) (b : BufferNo) (rest : List BufferNo) : MergeTurn :=
  let r : HeldRecord :=
    { sequence := a.sequence, buffer := b, stamp := a.stamp, bearer := a.bearer }
  { m with
    window := { m.window with held := insertHeld m.window.next r m.window.held, staleRun := 0 }
    pool := poolWrite m.pool b.val a.data
    free := rest }

/-- The window is full: its held list holds depth − 1 cells (R112, R118). -/
def MergeWindow.full (w : MergeWindow) (depth : Nat) : Bool := decide (depth ≤ w.held.length + 1)

/-- A sequence is already held (R117). -/
def MergeWindow.holds (w : MergeWindow) (q : Seq) : Bool :=
  w.held.any fun r => r.sequence == q

/-- An ahead arrival; `true` when it found the free stack empty (R117, R118, R129). -/
def MergeTurn.ahead (m : MergeTurn) (rule : FlowRule) (a : Arrival) : MergeTurn × Bool :=
  if m.window.holds a.sequence then (m.redundant, false)
  else
    match m.free with
    | [] =>
      ({ m.endStaleRun with counts := { m.counts with starved := satInc m.counts.starved } }, true)
    | b :: rest =>
      let m1 := m.hold a b rest
      (if m1.window.full rule.depth then m1.forcedRelease rule else m1, false)

/-- A jump arrival (R119). -/
def MergeTurn.jump (m : MergeTurn) (rule : FlowRule) (a : Arrival) : MergeTurn :=
  let m1 := m.drain rule.fills (fun _ => true) m.window.held
  let m2 := ((m1.loseTo rule.fills a.sequence).releaseArrival a.bearer a.sequence a.data).endStaleRun
  { m2 with counts := { m2.counts with jump := satInc m2.counts.jump } }

/-- A flush: the held cells discarded and counted, their buffers returned in sequence order, the
window UNSET (R130). -/
def MergeTurn.flush (m : MergeTurn) : MergeTurn :=
  { m with
    window := { m.window with running := false, held := [], staleRun := 0 }
    counts := { m.counts with flushed := satAdd m.counts.flushed m.window.held.length }
    free := m.window.held.foldl (fun free r => r.buffer :: free) m.free }

/-- A stale arrival; `true` when it was the sixteenth in a row (R120). -/
def MergeTurn.stale (m : MergeTurn) : MergeTurn × Bool :=
  let c := { m.counts with stale := satInc m.counts.stale }
  if 16 ≤ m.window.staleRun + 1 then
    let m1 := MergeTurn.flush { m with counts := c }
    ({ m1 with counts := { m1.counts with staleFlush := satInc m1.counts.staleFlush } }, true)
  else
    ({ m with window := { m.window with staleRun := m.window.staleRun + 1 }, counts := c }, false)

/-- An event of the Merge Unit's own that an arrival raises, with its detail for flow `f`. -/
def MergeTurn.arrive (m : MergeTurn) (f : Flow) (rule : FlowRule) (a : Arrival) :
    MergeTurn × Option (EventId × EventDetail) :=
  if m.window.running = false then (m.start a, none)
  else
    match bandOf rule.depth (m.window.distance a.sequence) with
    | .expected => (m.expected rule a, none)
    | .ahead =>
      let r := m.ahead rule a
      (r.1, if r.2 then some (.poolEmpty, .flow f) else none)
    | .jump => (m.jump rule a, some (.windowJump, .jump f .jump))
    | .stale =>
      let r := m.stale
      (r.1, if r.2 then some (.windowJump, .jump f .stale) else none)
    | .behind => (m.redundant, none)

/-! ### The Merge Unit of the part -/

/-- Flow `f`'s window as an event of the Merge Unit finds it. -/
def MergeUnit.turn (u : MergeUnit) (f : Flow) : MergeTurn :=
  { window := u.window.read f, counts := u.counts.read f, pool := u.pool, free := u.free, out := [] }

/-- The Merge Unit once an event of flow `f`'s window is done. -/
def MergeUnit.done (u : MergeUnit) (f : Flow) (m : MergeTurn) : MergeUnit :=
  { u with window := u.window.write f m.window
           counts := u.counts.write f m.counts
           pool := m.pool
           free := m.free }

/-- An event raised when there is one. -/
def State.raiseSome (s : State) : Option (EventId × EventDetail) → State
  | none => s
  | some (e, d) => s.raise e d

/-- The Merge Unit takes an arrival for flow `f`: the state once the event is whole, and what it
passes to the flow's destination (R113 to R121). -/
def State.mergeArrival (s : State) (f : Flow) (a : Arrival) : State × List Delivery :=
  match s.receiving f with
  | none => (s.withMerge { s.merge with unrouted := satInc s.merge.unrouted }, [])
  | some x =>
    let r := (s.merge.turn f).arrive f x.rule a
    (((s.withMerge (s.merge.done f r.1)).raiseSome r.2).followHold s.merge f, r.1.out)

/-- The expiry of flow `f`'s lowest held cell; the cell that is lowest after it has not expired
(R123). -/
def State.mergeExpiry (s : State) (f : Flow) : State × List Delivery :=
  match s.receiving f with
  | none => (s, [])
  | some x =>
    let m := (s.merge.turn f).expire x.rule.fills (s.holdOver x)
    ((s.withMerge (s.merge.done f m)).withExpired (s.expired.write f false), m.out)

/-- Flow `f`'s window flushed (R130). -/
def MergeUnit.flushFlow (u : MergeUnit) (f : Flow) : MergeUnit := u.done f (u.turn f).flush

/-- The windows of some flows flushed, in the order given. -/
def MergeUnit.flushFlows (u : MergeUnit) (flows : List Flow) : MergeUnit :=
  flows.foldl MergeUnit.flushFlow u

/-- The Merge Unit's part of a datapath reset: every window flushed, and then at the values R111 gives
(R131). -/
def MergeUnit.datapathReset (u : MergeUnit) : MergeUnit :=
  { u.flushFlows allFlows with window := Tab.fill 64 MergeWindow.powerOn, free := powerOnFree }

end Sys2Proof.Machine
end

