-- ==== Sys2Proof/Machine/Planner.lean ====
section
/-! DEFINITION. The Radio Planner (04_radio_grade_and_the_radio_plan.md): the grade filter, the far
fibre status and the Radio Plan. -/

namespace Sys2Proof.Machine

/-! ### The grade filter (R65 to R68) -/

/-- The runs at zero (R65, R66). -/
def RadioPlanner.clearRuns (p : RadioPlanner) : RadioPlanner :=
  { p with downRun := 0, upRun := 0, upLeast := none }

/-- A sample below the grade in effect (R65). -/
def RadioPlanner.sampleBelow (p : RadioPlanner) (downCount : Nat) (sample : Grade) : RadioPlanner :=
  if downCount ≤ p.downRun + 1 then { p.clearRuns with awaiting := some sample }
  else { p with downRun := p.downRun + 1, upRun := 0, upLeast := none }

/-- The lesser of a sample and the least of the run so far (R66). -/
def leastOf (sample : Grade) : Option Grade → Grade
  | none => sample
  | some least => if sample < least then sample else least

/-- A sample above the grade in effect while STORM is INACTIVE (R66). -/
def RadioPlanner.sampleAbove (p : RadioPlanner) (upCount : Nat) (sample : Grade) : RadioPlanner :=
  if upCount ≤ p.upRun + 1 then { p.clearRuns with awaiting := some (leastOf sample p.upLeast) }
  else { p with downRun := 0, upRun := p.upRun + 1, upLeast := some (leastOf sample p.upLeast) }

/-- The GRADE sample of a superframe start, judged against the grade in effect for the superframe
that starts (R65, R66). -/
def RadioPlanner.takeSample (p : RadioPlanner) (downCount upCount : Nat) (storm : Bool)
    (sample : Grade) : RadioPlanner :=
  if sample = p.grade then p.clearRuns
  else if sample < p.grade then p.sampleBelow downCount sample
  else if storm then p.clearRuns
  else p.sampleAbove upCount sample

/-- The Radio Planner samples the level on GRADE. -/
def State.sampleGrade (s : State) : State :=
  s.withPlanner (s.planner.takeSample s.mgmt.settings.gradeDown s.mgmt.settings.gradeUp
    s.strike.storm s.pins.grade)

/-- An awaiting grade takes effect at a superframe start; `true` when one did (R67). -/
def State.gradeTakesEffect (s : State) : State × Bool :=
  match s.planner.awaiting with
  | none => (s, false)
  | some g =>
    ((s.withPlanner { s.planner with grade := g, awaiting := none }).raise .gradeChange
      (.grades s.planner.grade g), true)

/-! ### The Radio Plan (R72 to R75) -/

/-- The usable radio slots of a grade (R72). -/
def usableSlots (g : Grade) : Nat := if g = 0 then 0 else 32 * g.toNat - 9

/-- What an entry adds to the fixed radio demand (R72). -/
def Entry.fixedRate (e : Entry) : Nat :=
  match e.outbound with
  | some x => if x.protection = .both ∨ x.protection = .radio then x.rate else 0
  | none => 0

/-- The fixed radio demand D of a bank (R72). -/
def radioDemand (entries : Tab 64 Entry) : Nat :=
  (userFlows.map fun f => (entries.read f).fixedRate).sum

/-- The fields of an entry that is a candidate for the Radio Plan (R73). -/
def Entry.candidate (e : Entry) (far : FarFibre) : Option EntryFields :=
  match e.outbound with
  | some x =>
    if x.protection = .bothShed ∨ (x.protection = .fibreSwitch ∧ far = .lost) then some x else none
  | none => none

/-- A candidate put into a list in order of ascending rank, after those of its own rank. -/
def insertByRank (c : Flow × EntryFields) : List (Flow × EntryFields) → List (Flow × EntryFields)
  | [] => [c]
  | d :: ds => if c.2.rank < d.2.rank then c :: d :: ds else d :: insertByRank c ds

/-- The candidates in order: ascending rank, and within a rank ascending flow number (R73). -/
def candidates (entries : Tab 64 Entry) (far : FarFibre) : List (Flow × EntryFields) :=
  userFlows.foldl (fun acc f =>
    match (entries.read f).candidate far with
    | some x => insertByRank (f, x) acc
    | none => acc) []

/-- First fit: the flows admitted and the running demand after the last candidate (R74). -/
def firstFit (usable : Nat) : Nat → List (Flow × EntryFields) → List Flow × Nat
  | running, [] => ([], running)
  | running, (f, x) :: rest =>
    if running + x.rate ≤ usable then
      (f :: (firstFit usable (running + x.rate) rest).1, (firstFit usable (running + x.rate) rest).2)
    else firstFit usable running rest

/-- The Radio Planner after a computation of the plan from the active bank (R71 to R74). -/
def RadioPlanner.compute (p : RadioPlanner) (entries : Tab 64 Entry) : RadioPlanner :=
  let u := usableSlots p.grade
  let d := radioDemand entries
  let r := firstFit u d (candidates entries p.farFibre)
  { p with plan := userFlows.filter fun f => r.1.contains f
           fixedDemand := d
           plannedDemand := r.2
           usable := u
           overcommit := decide (u < d) }

/-- The flows of `xs` that are not in `ys`, lowest first. -/
def flowsLeaving (xs ys : List Flow) : List Flow :=
  userFlows.filter fun f => xs.contains f && !ys.contains f

/-- SHED or RESTORE raised when flows leave or enter (R75). -/
def State.raiseFlows (s : State) (e : EventId) (fs : List Flow) : State :=
  match fs with
  | [] => s
  | f :: _ => s.raise e (.flows f fs.length)

/-- The plan computed afresh, with the SHED and RESTORE of the comparison (R71, R75). -/
def State.recomputePlan (s : State) : State :=
  let p := s.planner.compute s.table.activeBank
  let s1 := s.withPlanner p
  (s1.raiseFlows .shed (flowsLeaving s.planner.plan p.plan)).raiseFlows .restore
    (flowsLeaving p.plan s.planner.plan)

/-! ### Far fibre status (R69, R70) -/

def FarFibre.other : FarFibre → FarFibre
  | .present => .lost
  | .lost => .present

/-- A marker's report that the far fibre is, or is not, TIMED (R69). -/
def State.farReport (s : State) (farFibreTimed : Bool) : State :=
  let p := { s.planner with markerAbsence := 0 }
  if farFibreTimed = decide (p.farFibre = .present) then
    s.withPlanner { p with opposingRun := 0 }
  else if 2 ≤ p.opposingRun + 1 then
    (s.withPlanner { p with farFibre := p.farFibre.other, opposingRun := 0 }).recomputePlan
  else s.withPlanner { p with opposingRun := p.opposingRun + 1 }

/-- One superframe start's increase of the marker absence; `true` when a status of LOST returned to
PRESENT and the plan is to be computed (R70). -/
def RadioPlanner.countAbsence (p : RadioPlanner) : RadioPlanner × Bool :=
  let absence := min 3 (p.markerAbsence + 1)
  if absence = 3 then
    ({ p with markerAbsence := absence, opposingRun := 0, farFibre := .present },
      decide (p.farFibre = .lost))
  else ({ p with markerAbsence := absence }, false)

/-- The Radio Planner's own part of a datapath reset, before its computation (R64, R70). -/
def RadioPlanner.datapathReset (p : RadioPlanner) : RadioPlanner :=
  { p with opposingRun := 0, markerAbsence := 0 }

end Sys2Proof.Machine
end

