-- ==== Sys2Proof/Machine/Skew.lean ====
section
/-! DEFINITION. The Skew Unit (06_skew_and_hold_time.md): the Marker Lists, the skew sample, the
smoothed skew E and the jitter J; with the Radio Offset that the Link Clock keeps of E (R11). -/

namespace Sys2Proof.Machine

/-- The Marker List of a bearer. -/
def SkewUnit.list (u : SkewUnit) : Bearer → List MarkerEntry
  | .fibre => u.fibreList
  | .radio => u.radioList

def SkewUnit.withList (u : SkewUnit) (b : Bearer) (v : List MarkerEntry) : SkewUnit :=
  match b with
  | .fibre => { u with fibreList := v }
  | .radio => { u with radioList := v }

/-! ### Following the moves of link time (R98) -/

/-- An entry's stamp advanced by a move of link time. -/
def MarkerEntry.moved (n : Int) (e : MarkerEntry) : MarkerEntry := { e with stamp := e.stamp.advance n }

/-- Every stamp of both lists advanced by a move of link time (R98). -/
def SkewUnit.move (u : SkewUnit) (n : Int) : SkewUnit :=
  { u with fibreList := u.fibreList.map (MarkerEntry.moved n)
           radioList := u.radioList.map (MarkerEntry.moved n) }

/-! ### E and J (R101 to R105) -/

/-- E becomes INVALID and J becomes 0; the value of E is kept (R105). -/
def SkewUnit.invalidate (u : SkewUnit) : SkewUnit := { u with valid := false, j := 0 }

/-- A value in sixteenths rounded to a whole number, halves away from zero (R11). -/
def roundSixteenths (e : Int) : Int := if 0 ≤ e then (e + 8) / 16 else -((8 - e) / 16)

/-- The Skew Unit after an accepted sample (R102, R103). -/
def SkewUnit.accept (u : SkewUnit) (sample : Int) : SkewUnit :=
  if u.valid then
    let d := 16 * sample - u.e
    { u with j := max (ceilSixteenths d) (u.j - 1), e := u.e + d / 8 }
  else { u with valid := true, e := 16 * sample, j := 0 }

/-- The sample as SKEW-RANGE reports it (R101). -/
def reportedSample (sample : Int) : Int := max (-32767) (min 32767 sample)

/-- A skew sample taken: discarded with SKEW-RANGE when out of range, else accepted, with the Radio
Offset refreshed from the new E and the waiting holds judged again (R11, R101 to R103, R108). -/
def State.skewSample (s : State) (sample : Int) : State :=
  if 8191 < sample.natAbs then s.raise .skewRange (.skew (reportedSample sample))
  else
    let u := s.skew.accept sample
    ((s.withSkew u).withClock
      { s.clock with radioOffset := some (-(roundSixteenths u.e)) }).judgeHolds

/-! ### Taking a marker (R97, R100) -/

/-- The newest entry with superframe number `t` and the paired mark clear, taken from a list given
newest first: its stamp, and the list with it paired. -/
def pairNewest (t : Superframe) : List MarkerEntry → Option (LinkTime × List MarkerEntry)
  | [] => none
  | e :: es =>
    if e.sf = t ∧ e.paired = false then some (e.stamp, { e with paired := true } :: es)
    else (pairNewest t es).map fun r => (r.1, e :: r.2)

/-- A list with an entry joined as its newest, the oldest removed when it holds 8 (R97). -/
def appendEntry (list : List MarkerEntry) (e : MarkerEntry) : List MarkerEntry :=
  (if Config.markerEntries ≤ list.length then list.drop 1 else list) ++ [e]

/-- The stamp of a marker with the pending adjustment applied, and the Skew Unit with it used up
(R97, step 1). -/
def SkewUnit.adjusted (u : SkewUnit) (b : Bearer) (stamp : LinkTime) : LinkTime × SkewUnit :=
  match u.adjustment with
  | some a =>
    if a.bearer = b ∧ a.stamp = stamp then (stamp.advance a.slots, { u with adjustment := none })
    else (stamp, u)
  | none => (stamp, u)

/-- The skew sample of a pair, whichever of the two arrived first (R100). -/
def pairSample (b : Bearer) (stamp otherStamp : LinkTime) : Int :=
  match b with
  | .fibre => difference otherStamp stamp
  | .radio => difference stamp otherStamp

/-- The Skew Unit takes a good marker of bearer `b` (R97, R100). -/
def State.skewMarker (s : State) (b : Bearer) (t : Superframe) (stamp : LinkTime) : State :=
  let (stamp1, u) := s.skew.adjusted b stamp
  let entry : MarkerEntry := { sf := t, stamp := stamp1, paired := false }
  let alone := s.withSkew (u.withList b (appendEntry (u.list b) entry))
  if s.timed .fibre ∧ s.timed .radio then
    match pairNewest t (u.list (otherBearer b)).reverse with
    | none => alone
    | some (otherStamp, others) =>
      (s.withSkew ((u.withList b (appendEntry (u.list b) { entry with paired := true })).withList
        (otherBearer b) others.reverse)).skewSample (pairSample b stamp1 otherStamp)
  else alone

/-- A receiver has left TIMED: its bearer's list is emptied and E becomes INVALID (R99, R105). -/
def SkewUnit.leftTimed (u : SkewUnit) (b : Bearer) : SkewUnit := (u.withList b []).invalidate

/-- The Skew Unit's part of a datapath reset (R96, R105). -/
def SkewUnit.datapathReset (u : SkewUnit) : SkewUnit :=
  { u with fibreList := [], radioList := [], adjustment := none, valid := false, e := 0, j := 0 }

end Sys2Proof.Machine
end

