-- ==== Sys2Proof/Machine/Receivers.lean ====
section
/-! DEFINITION. The two receivers' states and what follows a change of them
(05_bearer_reception.md): entering HUNT (R91), leaving TIMED (R92) with the Skew Unit (R99, R105) and
the MAST's choice of source bearer (R10), entering TIMED (R88), the count of absences (R90) and the
datapath reset (R92). -/

namespace Sys2Proof.Machine

/-! ### The MAST's source bearer (R10) -/

/-- The source bearer that the receivers' states name (R10). -/
def sourceOf (fibreTimed radioTimed : Bool) : Option Bearer :=
  if fibreTimed then some .fibre else if radioTimed then some .radio else none

/-- The source bearer chosen afresh: another than the one in force sets the disagreement count to
0 (R10). -/
def LinkClock.choose (c : LinkClock) (source : Option Bearer) : LinkClock :=
  if c.source = source then c else { c with source := source, disagreements := 0 }

/-- In the MAST role the Link Clock chooses its source bearer afresh (R4, R10). -/
def State.chooseSource (s : State) : State :=
  match s.role with
  | .truck => s
  | .mast => s.withClock (s.clock.choose (sourceOf (s.timed .fibre) (s.timed .radio)))

/-! ### Leaving TIMED, entering HUNT (R90, R91, R92) -/

/-- The DOWN event of a bearer's receiver (R92). -/
def downEvent : Bearer → EventId
  | .fibre => .fibreDown
  | .radio => .radioDown

/-- The UP event of a bearer's receiver (R88). -/
def upEvent : Bearer → EventId
  | .fibre => .fibreUp
  | .radio => .radioUp

/-- What follows a receiver's leaving TIMED, its new state standing: its DOWN event with the way out,
E INVALID and its Marker List empty, the waiting holds judged again, and the source bearer chosen
afresh (R10, R92, R99, R105, R108). -/
def State.leftTimed (s : State) (b : Bearer) (way : WayOut) : State :=
  let s1 := s.raise (downEvent b) (.wayOut way)
  (s1.withSkew (s1.skew.leftTimed b)).judgeHolds.chooseSource

/-- A receiver in HUNT, to search from byte `searchFrom` of its lane (R91). -/
def Receiver.enterHunt (r : Receiver) (searchFrom : Nat) : Receiver :=
  { Receiver.powerOn with badCount := r.badCount, searchFrom := searchFrom, arrived := r.arrived }

/-- The receiver of bearer `b` enters HUNT; it raises its DOWN event when it was TIMED (R91, R92). -/
def State.enterHunt (s : State) (b : Bearer) (searchFrom : Nat) (way : WayOut) : State :=
  let s1 := s.withRx b ((s.rx b).enterHunt searchFrom)
  if s.timed b then s1.leftTimed b way else s1

/-- The byte at which the cell that is taken next begins: the boundary, or 192 bytes after it while
the boundary is the found cell's (R79, R81). -/
def Receiver.cellBegin (r : Receiver) : Nat :=
  r.boundary.getD 0 + if r.atFoundCell then 192 else 0

/-- The number of the next byte to arrive, when `untold` bytes have arrived that no command told of.
In HUNT any number can have; at a cell boundary the cell that is taken next has still a byte to come
(R79). -/
def Receiver.nextByte (r : Receiver) (untold : Nat) : Nat :=
  match r.boundary with
  | none => r.arrived + untold
  | some _ => r.arrived + untold % (r.cellBegin + 192 - r.arrived)

/-- A receiver that knows every byte before number `n` to have arrived. -/
def Receiver.reach (r : Receiver) (n : Nat) : Receiver := { r with arrived := n }

/-- A receiver's part of a datapath reset: the search in HUNT begins with the first byte that arrives
after it (R91, R92). How many bytes arrived before it is a free value (log entry 14). -/
def State.resetReceiver (s : State) (b : Bearer) : State :=
  let next := (s.rx b).nextByte (s.bytesUntold b)
  (s.withRx b ((s.rx b).reach next)).enterHunt b next .reset

/-- A superframe start reaches the receiver of bearer `b`: in TIMED its marker absence increases,
and at 3 it leaves TIMED for ALIGNED (R90). -/
def State.receiverStart (s : State) (b : Bearer) : State :=
  let r := s.rx b
  if r.state = .timed then
    if 3 ≤ r.markerAbsence + 1 then
      (s.withRx b { r with state := .aligned, markerAbsence := 3 }).leftTimed b .absence
    else s.withRx b { r with markerAbsence := r.markerAbsence + 1 }
  else s

/-- The next superframe start brings the receiver's marker absence to 3. -/
def Receiver.ending (r : Receiver) : Bool := r.state == .timed && decide (3 ≤ r.markerAbsence + 1)

/-! ### A good marker (R87, R88) -/

/-- The receiver's record replaced by a good marker's, its absence 0 and its state TIMED
(R87, R88). -/
def Receiver.takeMarker (r : Receiver) (record : MarkerRecord) : Receiver :=
  { r with record := some record, markerAbsence := 0, state := .timed }

/-- A good marker taken in ALIGNED or TIMED updates its receiver, and brings it to TIMED with its UP
event when it was ALIGNED (R87, R88). -/
def State.receiverMarker (s : State) (b : Bearer) (record : MarkerRecord) : State :=
  let s1 := s.withRx b ((s.rx b).takeMarker record)
  if s.timed b then s1 else (s1.raise (upEvent b) (.superframe record.sf)).chooseSource

end Sys2Proof.Machine
end

