-- ==== Sys2Proof/Machine/Strike.lean ====
section
/-! DEFINITION. The Strike Monitor (08_strike_monitor_and_storm_guard.md): the line filters, the
strikes, and the storm timer. -/

namespace Sys2Proof.Machine

/-- A line's filter after a sample, and whether a rising edge was accepted (R136). -/
def LineFilter.take (l : LineFilter) (sample : Bool) : LineFilter × Bool :=
  if sample = l.level then ({ l with changePending := false }, false)
  else if l.changePending then ({ l with level := sample, changePending := false }, sample)
  else ({ l with changePending := true }, false)

/-- The filter of a line by name. -/
def StrikeMonitor.line (m : StrikeMonitor) : StrikeLine → LineFilter
  | .a => m.lineA
  | .b => m.lineB

def StrikeMonitor.withLine (m : StrikeMonitor) (l : StrikeLine) (v : LineFilter) : StrikeMonitor :=
  match l with
  | .a => { m with lineA := v }
  | .b => { m with lineB := v }

/-- The Strike Monitor after a strike on a line, with the storm hold as it stands (R137). -/
def StrikeMonitor.struck (m : StrikeMonitor) (l : StrikeLine) (stormHold : Nat) : StrikeMonitor :=
  let m1 := m.withLine l { m.line l with strikes := satInc (m.line l).strikes }
  { m1 with
    timer := .running (1024 * stormHold)
    stormStrikes := if m.storm then satInc m.stormStrikes else 1 }

/-- A strike is taken (R137). -/
def State.strikeOn (s : State) (l : StrikeLine) : State :=
  (s.withStrike (s.strike.struck l s.mgmt.settings.stormHold)).raise .strike (.line l)

/-- The strikes that a sample of both lines completes. -/
def StrikeMonitor.strikesOf (m : StrikeMonitor) (pins : Pins) : Bool × Bool :=
  ((m.lineA.take pins.strikeA).2, (m.lineB.take pins.strikeB).2)

/-- One sample of both lines, with the strikes it completes taken one after the other (R135, R136,
R139). -/
def State.sampleStrikes (s : State) : State :=
  let strikes := s.strike.strikesOf s.pins
  let s1 := s.withStrike { s.strike with
    lineA := (s.strike.lineA.take s.pins.strikeA).1
    lineB := (s.strike.lineB.take s.pins.strikeB).1 }
  match strikes with
  | (false, false) => s1
  | (true, false) => s1.strikeOn .a
  | (false, true) => s1.strikeOn .b
  | (true, true) =>
    if s.race .lineBFirst then (s1.strikeOn .b).strikeOn .a else (s1.strikeOn .a).strikeOn .b

/-- A superframe start reaches the Strike Monitor: the timer falls by one, and at 0 the storm ends,
which shrinks every hold time that it entered (R108, R138). -/
def State.stormStart (s : State) : State :=
  match s.strike.timer with
  | .stopped => s
  | .running n =>
    if n ≤ 1 then
      ((s.withStrike { s.strike with timer := .stopped }).raise .stormEnd
        (.strikes s.strike.stormStrikes)).judgeHolds
    else s.withStrike { s.strike with timer := .running (n - 1) }

/-- The next superframe start brings the storm timer to 0. -/
def StrikeMonitor.ending (m : StrikeMonitor) : Bool :=
  match m.timer with
  | .stopped => false
  | .running n => decide (n ≤ 1)

end Sys2Proof.Machine
end

