-- ==== Sys2Proof/Machine/Transmit.lean ====
section
/-! DEFINITION. The Fibre Transmitter and the Radio Transmitter (R55 to R62): closing and opening
the send lists, the markers, and the cell that each sends in a slot. -/

namespace Sys2Proof.Machine

/-- How many cells of flow `f` on a send list are unsent. -/
def unsentOf (list : List BatchCell) (f : Flow) : Nat :=
  (list.filter fun c => c.flow == f && !c.sent).length

/-- The send list closed, its unsent cells counted as skipped and discarded, and an empty one opened
with the turn at the start and no slot used (R56). -/
def Transmitter.openSuperframe (t : Transmitter) : Transmitter :=
  { t with
    sendList := []
    turn := 0
    skippedCount := Tab.build fun f => satAdd (t.skippedCount.read f) (unsentOf t.sendList f)
    usedSlots := 0 }

/-- The marker that each transmitter builds at the start of superframe `sf` (R57). -/
def State.buildMarker (s : State) (sf : Superframe) : Marker :=
  { sf := sf, fibreTimed := s.timed .fibre, radioTimed := s.timed .radio, grade := s.planner.grade }

/-- Both transmitters open superframe `sf` with its marker; the radio has one when the grade in
effect is 1 or more (R56, R57). -/
def State.openTransmitters (s : State) (sf : Superframe) : State :=
  let m := s.buildMarker sf
  (s.withFibreTx { s.fibreTx.openSuperframe with marker := some m }).withRadioTx
    { s.radioTx.openSuperframe with marker := if s.planner.grade = 0 then none else some m }

/-- Flow `f` has an unsent cell on a send list. -/
def hasUnsent (list : List BatchCell) (f : Flow) : Bool :=
  list.any fun c => c.flow == f && !c.sent

/-- The flow to serve: flow 0 first, then by the round from the turn position (R58). -/
def Transmitter.served (t : Transmitter) : Option Flow :=
  if hasUnsent t.sendList 0 then some 0
  else
    match userFlows.find? fun f => t.turn < f && hasUnsent t.sendList f with
    | some f => some f
    | none => userFlows.find? fun f => hasUnsent t.sendList f

/-- The oldest unsent cell of flow `f`, and the list with it marked sent. -/
def markSent (f : Flow) : List BatchCell → Option BatchCell × List BatchCell
  | [] => (none, [])
  | c :: cs =>
    if c.flow == f && !c.sent then (some c, { c with sent := true } :: cs)
    else ((markSent f cs).1, c :: (markSent f cs).2)

/-- The transmitter once it has sent a cell of flow `f`, with the cell on the lane (R58). -/
def Transmitter.sendOf (t : Transmitter) (f : Flow) : Transmitter :=
  match markSent f t.sendList with
  | (none, _) => { t with lane := some idleCellBytes }
  | (some c, list) =>
    { t with
      sendList := list
      turn := if f = 0 then t.turn else f
      sentCount := t.sentCount.modify f satInc
      lane := some (dataCellBytes c.flow c.sequence c.data) }

/-- The transmitter once it has used one slot of its lane: its marker, then flow 0's cells, then the
other flows' in turn, then idle cells (R57, R58, R60, R61). -/
def Transmitter.sendOne (t : Transmitter) : Transmitter :=
  match t.marker with
  | some m => { t with marker := none, lane := some (markerCellBytes m) }
  | none =>
    match t.served with
    | some f => t.sendOf f
    | none => { t with lane := some idleCellBytes }

/-- The Radio Transmitter uses a radio slot when the Link Clock enters fibre slot `slot` at grade
`g` (R59). DESIGN CHOICE: slot numbers alone are compared, so a slot that a MAST's backward move has put
into the superframe before the one in progress counts by its number (log entry 25). -/
def radioSlotDue (g : Grade) (used : Nat) (slot : Slot) : Bool :=
  decide (used < 32 * g.toNat) && decide (48 * used / g.toNat ≤ slot.val)

/-- The two transmitters act in the slot the Link Clock has entered (R58, R59). -/
def State.sendSlot (s : State) : State :=
  let s1 := s.withFibreTx s.fibreTx.sendOne
  if radioSlotDue s.planner.grade s.radioTx.usedSlots s.clock.time.slot then
    s1.withRadioTx { s.radioTx.sendOne with usedSlots := s.radioTx.usedSlots + 1 }
  else s1.withRadioTx { s.radioTx with lane := none }

/-- A transmitter's part of a datapath reset: its send list emptied without counting skips, its
counts and used-slot count kept (R55). DESIGN CHOICE: its turn position stands too (log entry 29). -/
def Transmitter.datapathReset (t : Transmitter) : Transmitter := { t with sendList := [] }

end Sys2Proof.Machine
end

