-- ==== Sys2Proof/Machine/CommandEffects.lean ====
section
/-! DEFINITION. What each management command does once it has passed the tests of origin: the
block's own tests and effect, and the reply (R161, step 5; R162), with the results of R187. -/

namespace Sys2Proof.Machine

/-! ### IDENTIFY and the table commands -/

/-- IDENTIFY (R164). -/
def State.identity (s : State) : List Byte :=
  bytesOf 2 4120 ++ [1, roleNumber s.role, 64, 8] ++ bytesOf 2 16384 ++ bytesOf 2 1536 ++ [15]

def State.runIdentify (s : State) : Reply × State := (Reply.ok s.identity, s)

/-- READ-ENTRY (R25). -/
def State.runReadEntry (s : State) (bank flow : Byte) : Reply × State :=
  (s.table.readEntry bank flow, s)

/-- A reply and the table that goes with it. -/
def State.keepTable (s : State) (r : Reply × TableControl) : Reply × State := (r.1, s.withTable r.2)

/-- WRITE-ENTRY (R21, R22). -/
def State.runWriteEntry (s : State) (bank flow : Byte) (fields : RawEntry) : Reply × State :=
  s.keepTable (s.table.writeEntry bank flow fields)

/-- CLEAR-ENTRY (R21, R23). -/
def State.runClearEntry (s : State) (bank flow : Byte) : Reply × State :=
  s.keepTable (s.table.clearEntry bank flow)

/-- COPY-ENTRIES (R21, R24). -/
def State.runCopyEntries (s : State) (source destination first count : Byte) : Reply × State :=
  s.keepTable (s.table.copyEntries source destination first count)

/-- CHECK-SHADOW (R30). -/
def State.runCheckShadow (s : State) : Reply × State := (s.table.checkShadow, s)

/-- SWAP-AT (R32). -/
def State.runSwapAt (s : State) (target : BitVec 16) : Reply × State :=
  s.keepTable (s.table.swapAt s.clock.lastStarted target)

/-- CANCEL-SWAP (R33). -/
def State.runCancelSwap (s : State) : Reply × State := s.keepTable s.table.cancelSwap

/-! ### READ-FLOW-COUNTS (R132, R133, R166, R186) -/

/-- A 32-bit count in four bytes. -/
def countBytes (c : Count) : List Byte := bytesOf 4 c.toNat

/-- The window's part of a count record: status, N, cells held, lowest held sequence and its age
(R133, R186). -/
def MergeWindow.recordBytes (w : MergeWindow) (now : LinkTime) : List Byte :=
  [flagByte w.running 1] ++ bytesOf 2 (if w.running then w.next.toNat else 0) ++
    bytesOf 2 w.held.length ++
    match w.held with
    | [] => zeroBytes 6
    | r :: _ => bytesOf 2 r.sequence.toNat ++ bytesOf 4 (age now r.stamp)

/-- The Merge Unit's counts in the order of the count record (R186). -/
def MergeCounts.recordBytes (c : MergeCounts) : List Byte :=
  [c.firstFibre, c.firstRadio, c.redundant, c.stale, c.lost, c.fill, c.forced, c.jump,
    c.staleFlush, c.flushed, c.starved].flatMap countBytes

/-- The count record of flow `f` (R186). -/
def State.countRecord (s : State) (f : Flow) : List Byte :=
  [BitVec.ofNat 8 f.val] ++ bytesOf 2 (s.batch.flow.read f).sequence.toNat ++
    (s.merge.window.read f).recordBytes s.clock.time ++ bytesOf 2 ((s.holdTime f).getD 0) ++
    [s.ingress.dropCount.read f, (s.batch.flow.read f).batched, s.fibreTx.sentCount.read f,
      s.fibreTx.skippedCount.read f, s.radioTx.sentCount.read f,
      s.radioTx.skippedCount.read f].flatMap countBytes ++
    (s.merge.counts.read f).recordBytes ++ countBytes (s.egress.dropCount.read f)

/-- A transmitter with its counts of flow `f` zeroed. -/
def Transmitter.zeroCounts (t : Transmitter) (f : Flow) : Transmitter :=
  { t with sentCount := t.sentCount.write f 0, skippedCount := t.skippedCount.write f 0 }

/-- Every block's counts of flow `f` zeroed (R166). -/
def State.zeroCounts (s : State) (f : Flow) : State :=
  { s with
    ingress := { s.ingress with dropCount := s.ingress.dropCount.write f 0 }
    batch := { s.batch with flow := s.batch.flow.modify f fun b => { b with batched := 0 } }
    fibreTx := s.fibreTx.zeroCounts f
    radioTx := s.radioTx.zeroCounts f
    merge := { s.merge with counts := s.merge.counts.write f MergeCounts.zero }
    egress := { s.egress with dropCount := s.egress.dropCount.write f 0 } }

/-- READ-FLOW-COUNTS (R166). -/
def State.runReadFlowCounts (s : State) (flow clear : Byte) : Reply × State :=
  match flowOperand flow, yesNoOperand clear with
  | none, _ => (Reply.refusedAt .range [4], s)
  | some _, none => (Reply.refusedAt .field [5], s)
  | some f, some false => (Reply.ok (s.countRecord f), s)
  | some f, some true => (Reply.ok (s.countRecord f), s.zeroCounts f)

/-! ### READ-BEARER (R94, R167) -/

/-- The last-marker record as READ-BEARER shows it: whether one is held, T, the stamp, the far-status
flags and the grade as seen (R94, R187). -/
def markerRecordBytes : Option MarkerRecord → List Byte
  | none => zeroBytes 9
  | some m =>
    [1] ++ bytesOf 2 m.sf.toNat ++ bytesOf 2 m.stamp.sf.toNat ++ bytesOf 2 m.stamp.slot.val ++
      [flagByte m.farFibreTimed 1 + flagByte m.farRadioTimed 2, BitVec.ofNat 8 m.grade.toNat]

/-- The result bytes of READ-BEARER (R187). -/
def Receiver.resultBytes (r : Receiver) (b : Bearer) : List Byte :=
  [bearerNumber b, r.state.number] ++ countBytes r.badCount ++ markerRecordBytes r.record ++
    [BitVec.ofNat 8 r.badRun, BitVec.ofNat 8 r.markerAbsence]

/-- READ-BEARER (R94, R167). -/
def State.runReadBearer (s : State) (bearer clear : Byte) : Reply × State :=
  match bearerOperand bearer, yesNoOperand clear with
  | none, _ => (Reply.refusedAt .field [4], s)
  | some _, none => (Reply.refusedAt .field [5], s)
  | some b, some false => (Reply.ok ((s.rx b).resultBytes b), s)
  | some b, some true =>
    (Reply.ok ((s.rx b).resultBytes b), s.withRx b { s.rx b with badCount := 0 })

/-! ### READ-LINK (R165, R187) -/

/-- Link record bytes 0..9: the Link Clock. The source bearer is NONE in the TRUCK role (R4). -/
def State.clockBytes (s : State) : List Byte :=
  let source : Byte :=
    match s.role, s.clock.source with
    | .mast, some b => bearerNumber b
    | .mast, none => 2
    | .truck, _ => 2
  bytesOf 2 s.clock.time.sf.toNat ++ bytesOf 2 s.clock.time.slot.val ++
    bytesOf 2 s.clock.lastStarted.toNat ++ [source, flagByte s.clock.radioOffset.isSome 1] ++
    signedBytesOf 2 (s.clock.radioOffset.getD 0)

/-- Link record bytes 10..17: Table Control and the unrouted-ingress count. -/
def State.tableBytes (s : State) : List Byte :=
  [s.table.active.number, flagByte s.table.pendingSwap.isSome 1] ++
    bytesOf 2 (s.table.pendingSwap.getD 0).toNat ++ countBytes s.ingress.unrouted

/-- Link record bytes 18..35: the Radio Planner (R77). -/
def RadioPlanner.linkBytes (p : RadioPlanner) : List Byte :=
  [BitVec.ofNat 8 p.grade.toNat,
    match p.awaiting with
    | some g => BitVec.ofNat 8 g.toNat
    | none => 255,
    flagByte (p.farFibre == .lost) 1] ++
    bytesOf 8 (maskOf (Tab.build fun f : Flow => p.plan.contains f)) ++
    bytesOf 2 p.usable ++ bytesOf 2 p.fixedDemand ++ bytesOf 2 p.plannedDemand ++
    [flagByte p.overcommit 1]

/-- Link record bytes 36..48: the Skew Unit (R110) and the Merge Unit (R113, R133). -/
def State.skewBytes (s : State) : List Byte :=
  [flagByte s.skew.valid 1] ++ signedBytesOf 4 (if s.skew.valid then s.skew.e else 0) ++
    bytesOf 2 s.skew.j ++ countBytes s.merge.unrouted ++ bytesOf 2 s.merge.free.length

/-- The superframes a storm timer has left, 0 when STOPPED. -/
def StormTimer.remaining : StormTimer → Nat
  | .stopped => 0
  | .running n => n

/-- Link record bytes 49..59: the Strike Monitor (R141). -/
def StrikeMonitor.linkBytes (m : StrikeMonitor) : List Byte :=
  [flagByte m.storm 1] ++ bytesOf 4 m.timer.remaining ++ bytesOf 2 m.lineA.strikes.toNat ++
    bytesOf 2 m.lineB.strikes.toNat ++ bytesOf 2 m.stormStrikes.toNat

/-- The tally-loss timer as its number and the superframes remaining (R187). -/
def TallyTimer.linkBytes : TallyTimer → List Byte
  | .stopped => [0] ++ bytesOf 2 0
  | .running n => [1] ++ bytesOf 2 n
  | .expired => [2] ++ bytesOf 2 0

/-- Link record bytes 60..91: the Tally Unit (R154). -/
def TallyUnit.linkBytes (u : TallyUnit) : List Byte :=
  lampBytes u.received ++ [BitVec.ofNat 8 (maskOf u.overrideMask)] ++ lampBytes u.overrideStates ++
    lampBytes (Tab.build u.shown) ++ u.timer.linkBytes ++ countBytes u.receivedCount

/-- Link record bytes 92..100: the Egress Ports (R154). -/
def EgressPorts.linkBytes (p : EgressPorts) : List Byte :=
  allEights.map (fun n => BitVec.ofNat 8 (p.fifo.read n).length) ++
    [BitVec.ofNat 8 (maskOf p.ready)]

/-- Link record bytes 101..118: the Management Unit (R155). -/
def ManagementUnit.linkBytes (m : ManagementUnit) : List Byte :=
  [BitVec.ofNat 8 m.portQueue.length, BitVec.ofNat 8 m.flow0Queue.length] ++
    countBytes m.portDrops ++ countBytes m.flow0Drops ++ countBytes m.malformed ++
    [flagByte m.bar 1, BitVec.ofNat 8 m.windowLow, BitVec.ofNat 8 m.windowHigh,
      flagByte m.frozen 1]

/-- The link record (R187). -/
def State.linkRecord (s : State) : List Byte :=
  s.clockBytes ++ s.tableBytes ++ s.planner.linkBytes ++ s.skewBytes ++ s.strike.linkBytes ++
    s.tally.linkBytes ++ s.egress.linkBytes ++ s.mgmt.linkBytes

/-- READ-LINK (R165). -/
def State.runReadLink (s : State) : Reply × State := (Reply.ok s.linkRecord, s)

/-! ### Settings and protections -/

/-- The holds judged again where a changed watermark asks for it (R44, R168). -/
def State.rejudgeHolds (s : State) (old : Settings) : State :=
  s.withIngress (allEights.foldl (fun p n =>
    if s.mgmt.settings.watermark.read n = old.watermark.read n then p
    else p.rejudge (s.mgmt.settings.watermark.read n) n) s.ingress)

/-- The waiting holds judged again when the storm guard has changed (R108, R123). -/
def State.judgeGuard (s : State) (old : Settings) : State :=
  if s.mgmt.settings.stormGuard = old.stormGuard then s else s.judgeHolds

/-- SET-SETTING (R168). -/
def State.runSetSetting (s : State) (name index : Byte) (value : BitVec 16) : Reply × State :=
  let r := s.mgmt.settings.set name index value
  let s1 := s.withMgmt { s.mgmt with settings := r.2 }
  (r.1, (s1.rejudgeHolds s.mgmt.settings).judgeGuard s.mgmt.settings)

/-- READ-SETTINGS (R167). -/
def State.runReadSettings (s : State) : Reply × State := (Reply.ok s.mgmt.settingsBytes, s)

/-- SET-WINDOW (R170). -/
def State.runSetWindow (s : State) (low high : Byte) : Reply × State :=
  let r := s.mgmt.setWindow low high
  (r.1, s.withMgmt r.2)

/-- FREEZE-WINDOW (R171). -/
def State.runFreezeWindow (s : State) : Reply × State := (Reply.ok [], s.withMgmt s.mgmt.freeze)

/-- SET-BAR (R169). -/
def State.runSetBar (s : State) : Reply × State := (Reply.ok [], s.withMgmt (s.mgmt.setBar true))

/-- CLEAR-BAR (R169). -/
def State.runClearBar (s : State) : Reply × State := (Reply.ok [], s.withMgmt (s.mgmt.setBar false))

/-! ### Tally, events, flush -/

/-- SET-TALLY naming the Tally Source (R51). -/
def State.runSetTallySource (s : State) (mask : Byte) (lamps : Tab 8 Byte) : Reply × State :=
  let r := s.batch.setTally mask lamps
  (r.1, s.withBatch r.2)

/-- SET-TALLY naming the override (R152). -/
def State.runSetTallyOverride (s : State) (mask : Byte) (lamps : Tab 8 Byte) : Reply × State :=
  if badLamps mask lamps ≠ [] then (Reply.refusedAt .field (badLamps mask lamps), s)
  else
    (Reply.ok [],
      s.withTally (s.tally.setOverride mask (setLamps s.tally.overrideStates mask lamps)))

/-- SET-TALLY, its object 0 SOURCE or 1 OVERRIDE (R167). -/
def State.runSetTally (s : State) (object mask : Byte) (lamps : Tab 8 Byte) : Reply × State :=
  match object.toNat with
  | 0 => s.runSetTallySource mask lamps
  | 1 => s.runSetTallyOverride mask lamps
  | _ => (Reply.refusedAt .field [4], s)

/-- CLEAR-TALLY-OVERRIDE (R152). -/
def State.runClearTallyOverride (s : State) : Reply × State :=
  (Reply.ok [], s.withTally s.tally.clearOverride)

/-- One event's bytes in the results of READ-EVENTS (R178, R187). -/
def State.eventBytes (s : State) (e : Fin 20) : List Byte :=
  let x := s.events.event.read e
  let st := s.mgmt.settings
  [flagByte x.flag 1 + flagByte x.unreported 2 + flagByte (st.eventEnable.read e) 4 +
    flagByte (st.eventLevel.read e == .routine) 8 + flagByte x.detail.isSome 16] ++
    detailBytes x.detail

/-- READ-EVENTS (R178). -/
def State.runReadEvents (s : State) : Reply × State :=
  (Reply.ok ((List.finRange 20).flatMap s.eventBytes ++ bytesOf 2 s.events.routineCount), s)

/-- The flags that are SET, as a set coded as ACK-EVENTS codes it (R187). -/
def EventUnit.flagBytes (u : EventUnit) : List Byte :=
  bytesOf 3 (maskOf (Tab.build fun e : Fin 20 => (u.event.read e).flag))

/-- ACK-EVENTS (R178). -/
def State.runAckEvents (s : State) (events : BitVec 24) : Reply × State :=
  if 2 ^ 20 ≤ events.toNat then (Reply.refusedAt .range [4], s)
  else
    let u := s.events.acknowledge (bitsOf events)
    (Reply.ok u.flagBytes, s.withEvents u)

/-- FLUSH-TRIBUTARY (R45, R147). -/
def State.runFlushTributary (s : State) (trib : Byte) : Reply × State :=
  match tribOperand trib with
  | none => (Reply.refusedAt .range [4], s)
  | some n =>
    (Reply.ok [trib, BitVec.ofNat 8 (s.ingress.fifo.read n).length,
        BitVec.ofNat 8 (s.egress.fifo.read n).length],
      (s.withIngress (s.ingress.flush n)).withEgress (s.egress.flush n))

/-! ### RESET-DATAPATH (R173) -/

/-- The Link Clock's part of a datapath reset, besides the choice of source that the receivers'
leaving TIMED brings (R3, R11). -/
def LinkClock.datapathReset (c : LinkClock) : LinkClock := { c with radioOffset := none }

/-- Table Control's part of a datapath reset: the pending swap cleared (R31). -/
def TableControl.datapathReset (t : TableControl) : TableControl := { t with pendingSwap := none }

/-- The datapath reset in every block but the receivers and the Radio Plan (R173). -/
def State.resetBlocks (s : State) : State :=
  { s with
    clock := s.clock.datapathReset
    table := s.table.datapathReset
    ingress := s.ingress.datapathReset
    batch := s.batch.datapathReset
    fibreTx := s.fibreTx.datapathReset
    radioTx := s.radioTx.datapathReset
    planner := s.planner.datapathReset
    skew := s.skew.datapathReset
    merge := s.merge.datapathReset
    expired := Tab.fill 64 false
    egress := s.egress.datapathReset
    mgmt := s.mgmt.datapathReset }

/-- RESET-DATAPATH: one event in every block (R173). -/
def State.datapathReset (s : State) : State :=
  (((s.resetReceiver .fibre).resetReceiver .radio).resetBlocks).recomputePlan

def State.runResetDatapath (s : State) : Reply × State := (Reply.ok [], s.datapathReset)

/-! ### Carrying out a command (R161) -/

/-- The block that owns what the command concerns carries it out (R161, step 5). -/
def State.run (s : State) : Command → Reply × State
  | .identify => s.runIdentify
  | .readEntry bank flow => s.runReadEntry bank flow
  | .writeEntry bank flow fields => s.runWriteEntry bank flow fields
  | .clearEntry bank flow => s.runClearEntry bank flow
  | .copyEntries source destination first count => s.runCopyEntries source destination first count
  | .checkShadow => s.runCheckShadow
  | .swapAt target => s.runSwapAt target
  | .cancelSwap => s.runCancelSwap
  | .readFlowCounts flow clear => s.runReadFlowCounts flow clear
  | .readBearer bearer clear => s.runReadBearer bearer clear
  | .readLink => s.runReadLink
  | .setSetting name index value => s.runSetSetting name index value
  | .readSettings => s.runReadSettings
  | .setWindow low high => s.runSetWindow low high
  | .freezeWindow => s.runFreezeWindow
  | .setBar => s.runSetBar
  | .clearBar => s.runClearBar
  | .setTally object mask lamps => s.runSetTally object mask lamps
  | .clearTallyOverride => s.runClearTallyOverride
  | .readEvents => s.runReadEvents
  | .ackEvents events => s.runAckEvents events
  | .flushTributary trib => s.runFlushTributary trib
  | .resetDatapath => s.runResetDatapath

/-- A command that the part defines, with every operand, is carried out and answered (R161, R162). -/
def State.carryOut (s : State) (o : Origin) (tag : Byte) (c : Command) : State :=
  match s.mgmt.refusal o c with
  | some status => s.answer o tag c.number (Reply.bare status)
  | none => (s.run c).2.answer o tag c.number (s.run c).1

/-- A command record of four bytes or more is carried out or refused (R161, R186). -/
def State.carryOutRecord (s : State) (o : Origin) (record : List Byte) : State :=
  match readCommandRecord record with
  | .unknown => s.answer o (byteAt record 1) (byteAt record 3) (Reply.bare .unknown)
  | .missing candidates =>
    s.answer o (byteAt record 1) (byteAt record 3) (Reply.refusedAt .field candidates)
  | .command c => s.carryOut o (byteAt record 1) c

/-- A command from the near host for the far end: refused with NO-PATH or FULL, or sent on as it
stands (R158). -/
def State.forwardCommand (s : State) (cell : CellData) : State :=
  let refuse (status : Status) : State :=
    s.answer .near (byteAt cell.record 1) (byteAt cell.record 3) (Reply.bare status)
  if !s.timed .fibre && !s.timed .radio then refuse .noPath
  else
    match joinQueue s.mgmt.flow0Queue cell with
    | none => refuse .full
    | some queue => s.withMgmt { s.mgmt with flow0Queue := queue }

/-- A management cell arrives at the management port (R156). -/
def State.portCell (s : State) (cell : CellData) : State :=
  if cell.len < 1 ∨ 180 < cell.len then s.malformedCell
  else
    match recordKind cell.record with
    | some .command =>
      if cell.len < 4 then s.malformedCell
      else
        match (byteAt cell.record 2).toNat with
        | 1 => s.carryOutRecord .near cell.record
        | 2 => s.forwardCommand cell
        | _ =>
          s.answer .near (byteAt cell.record 1) (byteAt cell.record 3) (Reply.refusedAt .field [2])
    | some .response => s.malformedCell
    | some .notice => s.malformedCell
    | none => s.malformedCell

/-- A cell released on flow 0 reaches the Management Unit (R160). -/
def State.flow0Cell (s : State) (cell : CellData) : State :=
  match recordKind cell.record with
  | some .command =>
    if cell.len < 4 then s.malformedCell else s.carryOutRecord .far cell.record
  | some .response => s.placePort .response cell
  | some .notice => s.placePort .notice cell
  | none => s.malformedCell

/-! ### Delivery to a flow's destination (R127) -/

/-- One delivery to the Tally Unit: a released cell is taken; a loss fill is never sent there
(R126, R149). -/
def State.tallyDelivery (s : State) : Delivery → State
  | .cell data => s.withTally (s.tally.takeCell data.payload s.mgmt.settings.tallyLoss)
  | .fill => s

/-- One delivery to the Management Unit (R160); a loss fill is never sent there (R126). -/
def State.flow0Delivery (s : State) : Delivery → State
  | .cell data => s.flow0Cell data
  | .fill => s

/-- A delivery as an entry of an egress FIFO (R127, R143). -/
def Delivery.entry : Delivery → EgressEntry
  | .cell data => .cell data
  | .fill => .fill

/-- What one event of flow `f`'s window passes on, handed to the destination in order (R127). -/
def State.deliver (s : State) (f : Flow) (run : List Delivery) : State :=
  match s.receiving f with
  | none => s
  | some x =>
    match x.endpoint with
    | .trib n => s.handOver n f (run.map Delivery.entry)
    | .tally => run.foldl State.tallyDelivery s
    | .mgmt => run.foldl State.flow0Delivery s

/-- An arrival for flow `f` reaches the Merge Unit, and what it releases reaches the destination
(R113, R127). -/
def State.takeArrival (s : State) (f : Flow) (a : Arrival) : State :=
  let r := s.mergeArrival f a
  r.1.deliver f r.2

/-- The expiry of flow `f`'s lowest held cell is taken, when its hold has expired (R123, R127). -/
def State.takeExpiry (s : State) (f : Flow) : State :=
  if s.holdExpired f then
    let r := s.mergeExpiry f
    r.1.deliver f r.2
  else s

end Sys2Proof.Machine
end

