-- ==== Sys2Proof/Machine/Notices.lean ====
section
/-! DEFINITION. The Event Unit's report at a superframe start: judging (R179), building the notices
and marking what they list (R180). -/

namespace Sys2Proof.Machine

/-- One more superframe start since a ROUTINE event was listed, holding at 1024 (R176). -/
def EventUnit.countStart (u : EventUnit) : EventUnit :=
  { u with routineCount := min 1024 (u.routineCount + 1) }

/-- A destination, named by its queue, is ON (R179). -/
def Settings.destinationOn (st : Settings) : MgmtQueue → Bool
  | .port => st.reportNear
  | .flow0 => st.reportFar

/-- Event `e` is MGMT-DROP with a detail that names the destination's own queue (R179). -/
def EventUnit.ownDrop (u : EventUnit) (q : MgmtQueue) (e : Fin 20) : Bool :=
  e == EventId.mgmtDrop.num &&
    match (u.event.read e).detail with
    | some (.dropped q' _) => q' == q
    | _ => false

/-- Event `e` is reportable to a destination (R179). -/
def EventUnit.reportable (u : EventUnit) (st : Settings) (q : MgmtQueue) (e : Fin 20) : Bool :=
  st.destinationOn q && (u.event.read e).unreported && st.eventEnable.read e && !u.ownDrop q e

/-- The events reportable to a destination, the URGENT ones first, each level in ascending number
(R180). -/
def EventUnit.listing (u : EventUnit) (st : Settings) (q : MgmtQueue) : List (Fin 20) :=
  let es := (List.finRange 20).filter (u.reportable st q)
  es.filter (fun e => st.eventLevel.read e == .urgent) ++
    es.filter (fun e => st.eventLevel.read e == .routine)

/-- An event's being reportable calls for a report: it is URGENT, or ROUTINE and due (R179). -/
def EventUnit.callsForReport (u : EventUnit) (st : Settings) (e : Fin 20) : Bool :=
  match st.eventLevel.read e with
  | .urgent => true
  | .routine => decide (st.routineInterval ≤ u.routineCount)

/-- A report is made (R179). -/
def EventUnit.reports (u : EventUnit) (st : Settings) : Bool :=
  st.reportEnable &&
    (u.listing st .port ++ u.listing st .flow0).any (u.callsForReport st)

/-- The notice record that lists some events (R180, R185, R186). -/
def EventUnit.noticeRecord (u : EventUnit) (sf : Superframe) (es : List (Fin 20)) : List Byte :=
  [RecordKind.notice.number, 0] ++ bytesOf 2 sf.toNat ++ [BitVec.ofNat 8 es.length] ++
    es.flatMap fun e => BitVec.ofNat 8 e.val :: detailBytes (u.event.read e).detail

/-- The Event Unit once some events are listed: each REPORTED, and the routine count 0 when one of
them is ROUTINE (R180). -/
def EventUnit.listed (u : EventUnit) (st : Settings) (es : List (Fin 20)) : EventUnit :=
  { event := Tab.build fun e =>
      if es.contains e then { u.event.read e with unreported := false } else u.event.read e
    routineCount :=
      if es.any fun e => st.eventLevel.read e == .routine then 0 else u.routineCount }

/-- The notice for a destination as a cell, or none when nothing is reportable to it (R180). -/
def State.buildNotice (s : State) (sf : Superframe) (q : MgmtQueue) : Option CellData :=
  match s.events.listing s.mgmt.settings q with
  | [] => none
  | es => some (paddedCell s.occasion (s.events.noticeRecord sf es))

/-- A notice joins the management-port egress queue, when there is one (R157, R180). -/
def State.placeNear (s : State) : Option CellData → State
  | none => s
  | some cell => s.placePort .notice cell

/-- The Event Unit judges at the start of superframe `sf` and builds the notices of a report: the
state with the near one placed and the events marked, and the far one still to be placed
(R179, R180). -/
def State.judge (s : State) (sf : Superframe) : State × Option CellData :=
  let st := s.mgmt.settings
  if s.events.reports st then
    let near := s.buildNotice sf .port
    let far := (s.nextOccasion).buildNotice sf .flow0
    let listed := s.events.listing st .port ++ s.events.listing st .flow0
    (((s.withEvents (s.events.listed st listed)).nextOccasion.nextOccasion).placeNear near, far)
  else (s, none)

/-- The far notice is placed and flow 0's batch is drawn from the queue, in the order that falls
(R52, R182). -/
def State.drainAndPlace (s : State) (far : Option CellData) (noticeFirst : Bool) : State :=
  match far with
  | none => s.flow0Batch
  | some cell =>
    if noticeFirst then (s.placeFlow0 .notice cell).flow0Batch
    else s.flow0Batch.placeFlow0 .notice cell

end Sys2Proof.Machine
end

