-- ==== Sys2Proof/Machine/Swap.lean ====
section
/-! DEFINITION. The execution of a pending swap and its effects flow by flow (R34, R35, R37 to R40,
R150). -/

namespace Sys2Proof.Machine

/-- The flows whose windows a change of banks flushes: those it ends as inbound flows (R39). -/
def endedInbound (change : Flow → Classification) : List Flow :=
  userFlows.filter fun f => (change f).endsInbound

/-- A pending swap with target `x` executes: the banks exchange, SWAP-DONE is raised, and the Batch
Unit, the Merge Unit and the Tally Unit take their parts, and the waiting holds are judged by the new
margins (R34, R37 to R40, R108, R150). DESIGN CHOICE: where a strike falls with the swap and is taken
after it, as at a step's landing, the holds judged here have not the strike's G, and an expiry found
here stands (log entry 26). The Radio Plan is computed by what executes it (R71). -/
def State.executeSwap (s : State) (x : Superframe) : State :=
  let change := classifyFlow s.table.activeBank s.table.shadowBank
  let governed := hasInboundTally s.table.shadowBank
  ({ s with
    table := s.table.swapped
    batch := s.batch.atSwap change
    merge := s.merge.flushFlows (endedInbound change)
    tally := s.tally.atSwap governed s.mgmt.settings.tallyLoss }.followHolds s.merge).raise .swapDone
    (.superframe x)

/-- The swap that is pending for superframe `n` executes at its start; `true` when one did
(R34). -/
def State.swapAtStart (s : State) (n : Superframe) : State × Bool :=
  match s.table.pendingSwap with
  | some x => if x = n then (s.executeSwap x, true) else (s, false)
  | none => (s, false)

/-- A target is among the superframes that a step from `old` to `new` passes over (R15, R35). -/
def steppedOver (old new x : Superframe) : Bool :=
  decide (1 ≤ (x - old).toNat) && decide ((x - old).toNat ≤ (new - old).toNat)

/-- A pending swap whose target a step passes over executes at the step, and the Radio Plan is
computed (R35, R71). -/
def State.swapAtStep (s : State) (old new : Superframe) : State :=
  match s.table.pendingSwap with
  | some x => if steppedOver old new x then (s.executeSwap x).recomputePlan else s
  | none => s

end Sys2Proof.Machine
end

