-- ==== Sys2Proof/Machine/Clocking.lean ====
section
/-! DEFINITION. What happens as link time moves: the superframe start (R2) with every block's share
of it, the shares and hold expiries that are taken as steps of their own (log entry 2), the entry of
a slot, the REF edge (R5, R6) and the moves that a source marker causes in the MAST (R12 to R15). -/

namespace Sys2Proof.Machine

/-! ### Shares of a superframe start that are steps of their own (log entry 2) -/

/-- One block's share of a superframe start, left until now, is taken (R90, R138, R150). -/
def State.takeShare (s : State) : OwedStart → State
  | .storm => s.stormStart
  | .tally sf => s.tallyStart sf
  | .receiver b => s.receiverStart b

/-- Every share still left is taken, in the order it was left. -/
def State.takeOwed (s : State) : State := s.owed.foldl State.takeShare (s.withOwed [])

/-- A share that brings a timer or an absence to its end is taken now, or left to be a step of its
own, by the order that falls; any other is taken now. -/
def State.shareOrOwe (s : State) (ending now : Bool) (share : OwedStart) : State :=
  if ending && !now then s.withOwed (s.owed ++ [share]) else s.takeShare share

/-- The first share of the given kind that is left, and the ones that stay. -/
def splitOwed (p : OwedStart → Bool) : List OwedStart → Option (OwedStart × List OwedStart)
  | [] => none
  | o :: os =>
    if p o then some (o, os) else (splitOwed p os).map fun r => (r.1, o :: r.2)

/-- The share of the given kind, when one is left, is taken. -/
def State.takeOwedOf (s : State) (p : OwedStart → Bool) : State :=
  match splitOwed p s.owed with
  | none => s
  | some (o, rest) => (s.withOwed rest).takeShare o

/-- The flows in the order in which their expired holds are taken: flow 0 as often as it can hold a
cell, because a command released on it may end the hold of its next cell, and then the others (R20,
R108, R123). -/
def settleOrder : List Flow := List.replicate 31 0 ++ userFlows

/-- Everything that is due before link time goes on: the shares left, then the hold expiries, flow
by flow (R123; log entry 2). -/
def State.settle (s : State) : State := settleOrder.foldl State.takeExpiry s.takeOwed

/-! ### The superframe start -/

/-- The Radio Planner's increase of the marker absence at a superframe start; `true` when the Radio
Plan is to be computed for it (R70). -/
def State.absenceAtStart (s : State) : State × Bool :=
  (s.withPlanner s.planner.countAbsence.1, s.planner.countAbsence.2)

/-- The Radio Plan is computed when there is a reason (R71). -/
def State.recomputeIf (s : State) (due : Bool) : State := if due then s.recomputePlan else s

/-- The Radio Planner's and Table Control's part of the start of `n`, before anything reads the plan:
the far absence, the swap, the grade that takes effect, and the one computation (R34, R67, R70,
R71). -/
def State.planAtStart (s : State) (n : Superframe) : State :=
  let a := s.absenceAtStart
  let b := a.1.swapAtStart n
  let c := b.1.gradeTakesEffect
  c.1.recomputeIf (a.2 || b.2 || c.2)

/-- The timers' and the receivers' shares of the start of `n` (R90, R138, R150). DESIGN CHOICE: a share
that brings an end is taken before the GRADE sample, the markers and the judging, or after all of
them, never between them (log entry 31). -/
def State.timersAtStart (s : State) (n : Superframe) : State :=
  let s1 := s.shareOrOwe s.strike.ending (s.race .stormEndFirst) .storm
  let s2 := s1.shareOrOwe s1.tally.ending (s.race .tallyLossFirst) (.tally n)
  let s3 := s2.shareOrOwe s2.fibreRx.ending (s.race (.absenceFirst .fibre)) (.receiver .fibre)
  s3.shareOrOwe s3.radioRx.ending (s.race (.absenceFirst .radio)) (.receiver .radio)

/-- Every block's share of the start of `n` but the Event Unit's and flow 0's batch. -/
def State.sharesAtStart (s : State) (n : Superframe) : State :=
  ((((s.planAtStart n).timersAtStart n).sampleGrade).openTransmitters n).formBatches

/-- The Event Unit counts a superframe start (R176). -/
def State.countRoutine (s : State) : State := s.withEvents s.events.countStart

/-- The start of superframe `n`: every block's share, then the report, with flow 0's batch drawn
before the far notice or after it. Each raising of the shares reaches the Event Unit before the
judging or after it, as falls (R182). The release of RESET is a start that the routine count does
not count (R176). -/
def State.superframeStart (s : State) (n : Superframe) (counted : Bool) : State :=
  let s0 := (s.takeOwed).withClock { s.takeOwed.clock with lastStarted := n }
  let late (e : Fin 20) : Bool := s0.race (.raisedAfterJudging e)
  let shared := (s0.withEvents s0.events.collecting).sharesAtStart n
  let early := shared.withEvents (s0.events.takeRaisings shared.events fun e => !late e)
  let j := (if counted then early.countRoutine else early).judge n
  let placed := j.1.drainAndPlace j.2 (s0.race .noticeBeforeDrain)
  placed.withEvents (placed.events.takeRaisings shared.events late)

/-! ### Entering a slot (R2, R58, R59, R135) -/

/-- Whether a sample of the pins completes a strike. -/
def State.strikeComes (s : State) : Bool :=
  (s.strike.strikesOf s.pins).1 || (s.strike.strikesOf s.pins).2

/-- The slot that link time now stands in is entered, with a superframe start of `start` when there
is one: the lines are sampled, the strikes taken before the start or after it as falls (R135, R139),
the holds are judged (R123), and the transmitters send (R58, R59). DESIGN CHOICE: the holds are judged
by the H that a strike or a swap of the same entry leaves (log entry 26), and all strikes of one entry
fall on one side of the start, with none between its count of the storm timer and its GRADE sample
(log entry 27); an expiry that falls due at the entry is taken after the start, flow 0's among them
(log entry 30). -/
def State.enterSlot (s : State) (start : Option Superframe) : State :=
  match start with
  | none => s.sampleStrikes.judgeHolds.sendSlot
  | some n =>
    if s.strikeComes && s.race .strikeBeforeStart then
      (s.sampleStrikes.superframeStart n true).judgeHolds.sendSlot
    else ((s.superframeStart n true).sampleStrikes).judgeHolds.sendSlot

/-- Link time stands at `t`. -/
def State.setTime (s : State) (t : LinkTime) : State := s.withClock { s.clock with time := t }

/-- The clock's own advance into the next slot (R1, R2). -/
def State.advanceSlot (s : State) (pins : Pins) : State :=
  let s1 := (s.settle.withPins pins).nextOccasion
  let t := s1.clock.time.advance 1
  (s1.setTime t).enterSlot
    (if t.slot = 0 ∧ t.sf ≠ s1.clock.lastStarted then some t.sf else none)

/-- The clock's own advance enters slot 0 of a superframe that was not the last started (R1, R2). -/
def State.startIsNext (s : State) : Bool :=
  decide (s.clock.time.slot = 1535) && s.clock.time.sf + 1 != s.clock.lastStarted

/-- The superframe start that the clock's own advance brings next, when it is the one that raises the
marker absence to 3 (R70). Every part of that start stands in this one event, so that the batches are
placed by the plan that a status change gives; the sampled levels are as they last were (log entry
3). -/
def State.takeFarAbsence (s : State) : State :=
  if s.planner.markerAbsence = 2 ∧ s.startIsNext then s.advanceSlot s.pins else s

/-- A rising edge on REF (R5, R6, R98): nothing in the MAST role or in slot 0. -/
def State.takeRefEdge (s : State) (pins : Pins) : State :=
  match s.role with
  | .mast => s
  | .truck =>
    if s.clock.time.slot = 0 then s
    else
      let s1 := (s.settle.withPins pins).nextOccasion
      let s2 := s1.withSkew (s1.skew.move (1535 - (s1.clock.time.slot.val : Int)))
      let n := s2.clock.time.sf + 1
      (s2.setTime ⟨n, 0⟩).enterSlot (some n)

/-! ### The MAST's source markers (R12 to R15) -/

/-- The source offset (R11). -/
def LinkClock.sourceOffset (c : LinkClock) (b : Bearer) : Int :=
  match b with
  | .fibre => 0
  | .radio => c.radioOffset.getD 0

/-- The expected position P of a source marker with superframe number `t` (R12). -/
def LinkClock.expectedPosition (c : LinkClock) (b : Bearer) (t : Superframe) : LinkTime :=
  LinkTime.advance ⟨t, 1⟩ (-(c.sourceOffset b))

/-- r, the slot difference folded into one superframe (R12). -/
def foldedSlots (p a : LinkTime) : Int :=
  let d : Int := (p.slot.val : Int) - a.slot.val
  if 768 ≤ d then d - 1536 else if d < -768 then d + 1536 else d

/-- A marker agrees with link time when δ lies in −768..767 (R12). -/
def agrees (δ : Int) : Bool := decide (-768 ≤ δ) && decide (δ ≤ 767)

/-- The Skew Unit follows a move of `n` slots. When the Link Clock took the marker first, the move is
held as the pending adjustment for it (R98). -/
def SkewUnit.followMove (u : SkewUnit) (n : Int) (held : Option (Bearer × LinkTime)) : SkewUnit :=
  let u1 := u.move n
  match held with
  | none => u1
  | some (b, stamp) => { u1 with adjustment := some { bearer := b, stamp := stamp, slots := n } }

/-- Link time moves by `n` slots: a forward move over slot 0 starts the superframe it enters unless
that was the last started, and the landing is one entry of a slot (R2, R13, R14, R135). DESIGN
CHOICE: each transmitter sends one cell for the move, in the slot landed in, the marker when the move
starts a superframe (log entry 28). A move of 0 slots leaves everything as it is. -/
def State.moveTime (s : State) (n : Int) (pins : Pins) (held : Option (Bearer × LinkTime)) : State :=
  if n = 0 then s
  else
    let s1 := s.settle.withPins pins
    let s2 := s1.withSkew (s1.skew.followMove n held)
    let t := s2.clock.time.advance n
    (s2.setTime t).enterSlot
      (if 0 < n ∧ t.sf ≠ s2.clock.time.sf ∧ t.sf ≠ s2.clock.lastStarted then some t.sf else none)

/-- The step of R15, from A to P: link time and the last started superframe take P's number,
TIME-STEP is raised, a swap that the step passes over executes (R35), and the landing is one entry
of a slot (R135). DESIGN CHOICE: the swap comes before the strikes of the landing (log entry 26). -/
def State.stepTime (s : State) (a p : LinkTime) (pins : Pins) (held : Option (Bearer × LinkTime)) :
    State :=
  let s1 := s.settle.withPins pins
  let s2 := s1.withSkew (s1.skew.followMove (difference p a) held)
  let s3 := s2.withClock { s2.clock with time := p, lastStarted := p.sf, disagreements := 0 }
  ((s3.raise .timeStep (.step a.sf p.sf)).swapAtStep a.sf p.sf).enterSlot none

/-- The MAST's Link Clock judges a source marker taken at A (R12 to R15). -/
def State.judgeMarker (s : State) (b : Bearer) (t : Superframe) (a : LinkTime) (pins : Pins)
    (held : Option (Bearer × LinkTime)) : State :=
  let p := s.clock.expectedPosition b t
  let δ := difference p a
  if agrees δ then
    (s.withClock { s.clock with disagreements := 0 }).moveTime δ pins held
  else if 2 ≤ s.clock.disagreements + 1 then s.stepTime a p pins held
  else
    (s.withClock { s.clock with disagreements := s.clock.disagreements + 1 }).moveTime
      (foldedSlots p a) pins held

/-- A good marker's far fibre flag is reported when `now` holds (R69, R89). -/
def State.reportIf (s : State) (now farFibreTimed : Bool) : State :=
  if now then s.farReport farFibreTimed else s

/-- A good marker is entered in the Skew Unit's list when `now` holds (R89, R97). -/
def State.skewIf (s : State) (now : Bool) (b : Bearer) (t : Superframe) (a : LinkTime) : State :=
  if now then s.skewMarker b t a else s

/-- The MAST's Link Clock takes the markers of bearer `b` (R4, R12). -/
def State.isSource (s : State) (b : Bearer) : Bool :=
  s.role == .mast && s.clock.source == some b

/-- A good marker is handed on to the Skew Unit, the Radio Planner and, when it is a source marker,
the Link Clock, in the order that falls (R89, R98). -/
def State.handOnMarker (s : State) (b : Bearer) (m : MarkerRecord) (pins : Pins) : State :=
  if s.isSource b then
    let clockFirst := s.race .clockBeforeSkew
    let clockEarly := s.race .clockBeforePlanner
    let s1 := (s.skewIf (!clockFirst) b m.sf m.stamp).reportIf (!clockEarly) m.farFibreTimed
    let s2 := s1.judgeMarker b m.sf m.stamp pins (if clockFirst then some (b, m.stamp) else none)
    (s2.skewIf clockFirst b m.sf m.stamp).reportIf clockEarly m.farFibreTimed
  else (s.skewIf true b m.sf m.stamp).reportIf true m.farFibreTimed

end Sys2Proof.Machine
end

