-- ==== Sys2Proof/Machine/Reception.lean ====
section
/-! DEFINITION. What a receiver does with the bytes of its lane (05_bearer_reception.md): the search
in HUNT (R81), the cells taken in CONFIRM (R82), ALIGNED and TIMED (R83), and what it hands on (R85
to R89). -/

namespace Sys2Proof.Machine

/-! ### HUNT (R81) -/

/-- In HUNT the twelve bytes at a position of the lane are examined: a candidate becomes the cell
boundary and begins CONFIRM, any other position is passed over. A position that the search has left
behind is not examined again (R81). -/
def Receiver.examine (r : Receiver) (position : Nat) (header : List Byte) : Receiver :=
  if r.state = .hunt ∧ r.searchFrom ≤ position then
    let arrived := max r.arrived (position + 12)
    if framingTest header then
      { r with
        state := .confirm, boundary := some position, atFoundCell := true, confirmCount := 0, arrived }
    else { r with searchFrom := position + 1, arrived }
  else r

/-! ### The cell boundary (R79) -/

/-- The receiver once a cell is taken, at the arrival of its 192nd byte: the boundary has advanced to
the next cell (R79). -/
def Receiver.pastCell (r : Receiver) : Receiver :=
  { r with
    boundary := some (r.cellBegin + 192), atFoundCell := false, arrived := r.cellBegin + 192 }

/-! ### CONFIRM (R82) -/

/-- A cell taken in CONFIRM (R82). A failure returns to HUNT one byte past the failed cell's first
byte. -/
def Receiver.confirmCell (r : Receiver) (cell : List Byte) : Receiver :=
  if framingTest cell then
    if 3 ≤ r.confirmCount + 1 then
      { r.pastCell with state := .aligned, confirmCount := 3, badRun := 0 }
    else { r.pastCell with confirmCount := r.confirmCount + 1 }
  else r.pastCell.enterHunt (r.cellBegin + 1)

/-! ### ALIGNED and TIMED (R83) -/

/-- What a header taken in ALIGNED or TIMED says when it is good (R80, R83). -/
def goodHeader (cell : List Byte) : Option HeaderContent :=
  if framingTest cell then contentTest cell else none

/-- The bad-header run that sends a receiver to HUNT, as STORM stands (R83). -/
def badRunThreshold (storm : Bool) : Nat := if storm then 8 else 4

/-- A receiver past a cell with a bad header, counted (R83). -/
def Receiver.countBad (r : Receiver) : Receiver :=
  { r.pastCell with badCount := satInc r.badCount, badRun := r.badRun + 1 }

/-- A bad header is taken (R83). -/
def State.badHeader (s : State) (b : Bearer) : State :=
  let r := (s.rx b).countBad
  let s1 := s.withRx b r
  if badRunThreshold s.strike.storm ≤ r.badRun then
    s1.enterHunt b ((s.rx b).cellBegin + 192) .headers
  else s1

/-- A receiver past a cell with a good header (R83). -/
def Receiver.endBadRun (r : Receiver) : Receiver := { r.pastCell with badRun := 0 }

/-- A cell with a good header is dealt with by its kind, stamped with link time (R84 to R89). -/
def State.acceptedCell (s : State) (b : Bearer) (content : HeaderContent) (cell : List Byte)
    (pins : Pins) : State :=
  let stamp := s.clock.time
  match content with
  | .idle => s
  | .data flow sequence len =>
    s.takeArrival flow
      { bearer := b, sequence := sequence, data := ⟨cellPayload cell, len⟩, stamp := stamp }
  | .marker sf fibreTimed radioTimed grade =>
    let m : MarkerRecord :=
      { sf := sf, stamp := stamp, farFibreTimed := fibreTimed, farRadioTimed := radioTimed,
        grade := grade }
    (s.receiverMarker b m).handOnMarker b m pins

/-- A cell taken in ALIGNED or TIMED (R83). -/
def State.alignedCell (s : State) (b : Bearer) (cell : List Byte) (pins : Pins) : State :=
  match goodHeader cell with
  | none => s.badHeader b
  | some content => (s.withRx b (s.rx b).endBadRun).acceptedCell b content cell pins

/-- A receiver takes the cell whose 192nd byte has arrived, by its state (R79, R82, R83). In HUNT
there is no cell boundary, and nothing is taken. -/
def State.takeCell (s : State) (b : Bearer) (cell : List Byte) (pins : Pins) : State :=
  match (s.rx b).state with
  | .hunt => s
  | .confirm => s.withRx b ((s.rx b).confirmCell cell)
  | .aligned => s.nextOccasion.alignedCell b cell pins
  | .timed => s.nextOccasion.alignedCell b cell pins

end Sys2Proof.Machine
end

