-- ==== Sys2Proof/Machine/LinkEvents.lean ====
section
/-! DEFINITION. The meanings of the rows that are events of the pins, the lanes, the ports and the
Link Clock: one definition a row. While RESET is asserted the part takes none of them but RESET's
own release and the ready indications (R3, R45, R78, R146, R156). -/

namespace Sys2Proof.Machine

open Host

/-- An event that the part takes only while RESET is released. -/
def whenReleased (s : State) (after : State) : Outcome State Fault Refusal :=
  if s.inReset then .next s else .next after

/-- RESET_ASSERT (R3): every piece of state takes its power-on value, and stays at it until the
release; the role and the pin levels are fixed there. What stands outside the part, the ready
indications and the commands that wait, is as it was. -/
def execResetAssert (s : State) : Outcome State Fault Refusal :=
  .next (State.powerOn true s.role s.pins s.egress.ready s.occasion s.pending)

/-- RESET_RELEASE (R3, R4, R134): every piece of state at its power-on value for the role and the
levels on the pins, and the superframe start of superframe 0. -/
def State.released (s : State) (role : Role) (pins : Pins) : State :=
  ((State.powerOn false role pins s.egress.ready (s.occasion + 1) s.pending).superframeStart 0
    false).sendSlot

def execResetRelease (role : Role) (pins : Pins) (s : State) : Outcome State Fault Refusal :=
  if s.inReset then .next (s.released role pins) else .next s

/-- SLOT_ENTRY (R1, R2). -/
def execSlotEntry (pins : Pins) (s : State) : Outcome State Fault Refusal :=
  whenReleased s (s.advanceSlot pins)

/-- REF_EDGE (R5, R6). -/
def execRefEdge (pins : Pins) (s : State) : Outcome State Fault Refusal :=
  whenReleased s (s.takeRefEdge pins)

/-- FAR_MARKER_ABSENCE (R70). -/
def execFarMarkerAbsence (s : State) : Outcome State Fault Refusal :=
  whenReleased s s.takeFarAbsence

/-- MARKER_ABSENCE_EXPIRY (R90): the receiver's share of the last superframe start, when it was
left. -/
def execMarkerAbsenceExpiry (bearer : Bearer) (s : State) : Outcome State Fault Refusal :=
  whenReleased s (s.takeOwedOf fun o => o == .receiver bearer)

/-- STORM_END (R138): the Strike Monitor's share of the last superframe start, when it was left. -/
def execStormEnd (s : State) : Outcome State Fault Refusal :=
  whenReleased s (s.takeOwedOf fun o => o == .storm)

/-- The share is the Tally Unit's. -/
def OwedStart.isTally : OwedStart → Bool
  | .tally _ => true
  | .storm => false
  | .receiver _ => false

/-- TALLY_LOSS (R150): the Tally Unit's share of the last superframe start, when it was left. -/
def execTallyLoss (s : State) : Outcome State Fault Refusal :=
  whenReleased s (s.takeOwedOf OwedStart.isTally)

/-- TRIBUTARY_CELL_ARRIVAL (R42, R43, R44). -/
def execTributaryCellArrival (trib : Trib) (payload : List Byte) (len : Nat) (s : State) :
    Outcome State Fault Refusal :=
  whenReleased s (s.ingressArrival trib ⟨payload, len⟩)

/-- EGRESS_TAKE (R146). -/
def execEgressTake (trib : Trib) (s : State) : Outcome State Fault Refusal :=
  whenReleased s (s.withEgress (s.egress.take trib))

/-- MGMT_PORT_CELL (R156). -/
def execMgmtPortCell (payload : List Byte) (len : Nat) (s : State) : Outcome State Fault Refusal :=
  whenReleased s (s.portCell ⟨payload, len⟩)

/-- MGMT_PORT_TAKE (R157). -/
def execMgmtPortTake (s : State) : Outcome State Fault Refusal :=
  whenReleased s (s.withMgmt s.mgmt.take)

/-- HUNT_CANDIDATE_FOUND (R81). -/
def execHuntCandidateFound (bearer : Bearer) (position : Nat) (header : List Byte) (s : State) :
    Outcome State Fault Refusal :=
  whenReleased s (s.withRx bearer ((s.rx bearer).examine position header))

/-- RECEIVED_CELL (R79). -/
def execReceivedCell (bearer : Bearer) (cell : List Byte) (pins : Pins) (s : State) :
    Outcome State Fault Refusal :=
  whenReleased s (s.takeCell bearer cell pins)

/-- HOLD_EXPIRY (R123). -/
def execHoldExpiry (flow : Flow) (s : State) : Outcome State Fault Refusal :=
  whenReleased s (s.takeExpiry flow)

/-- EGRESS_READY_CHANGE (R146): the device owns its ready indication, which RESET does not touch. -/
def execEgressReadyChange (trib : Trib) (ready : Bool) (s : State) : Outcome State Fault Refusal :=
  .next (s.withEgress (s.egress.setReady trib ready))

end Sys2Proof.Machine
end

