-- ==== Sys2Proof/Machine/ManagementCommands.lean ====
section
/-! DEFINITION. The meanings of the rows that are management commands, one definition a row: the
command taken with its origin, carried out or refused, and answered (R161, R162). While RESET is
asserted no command is taken (R78, R156). -/

namespace Sys2Proof.Machine

open Host

/-- IDENTIFY (R164). -/
def execIdentify (origin : Origin) (tag : Byte) (s : State) : Outcome State Fault Refusal :=
  whenReleased s (s.carryOut origin tag .identify)

/-- READ-ENTRY (R25). -/
def execReadEntry (origin : Origin) (tag : Byte) (bank flow : Byte) (s : State) :
    Outcome State Fault Refusal :=
  whenReleased s (s.carryOut origin tag (.readEntry bank flow))

/-- WRITE-ENTRY (R21, R22). -/
def execWriteEntry (origin : Origin) (tag : Byte) (bank flow : Byte) (fields : RawEntry) (s : State) :
    Outcome State Fault Refusal :=
  whenReleased s (s.carryOut origin tag (.writeEntry bank flow fields))

/-- CLEAR-ENTRY (R21, R23). -/
def execClearEntry (origin : Origin) (tag : Byte) (bank flow : Byte) (s : State) :
    Outcome State Fault Refusal :=
  whenReleased s (s.carryOut origin tag (.clearEntry bank flow))

/-- COPY-ENTRIES (R21, R24). -/
def execCopyEntries (origin : Origin) (tag : Byte) (source destination first count : Byte) (s : State) :
    Outcome State Fault Refusal :=
  whenReleased s (s.carryOut origin tag (.copyEntries source destination first count))

/-- CHECK-SHADOW (R30). -/
def execCheckShadow (origin : Origin) (tag : Byte) (s : State) : Outcome State Fault Refusal :=
  whenReleased s (s.carryOut origin tag .checkShadow)

/-- SWAP-AT (R32). -/
def execSwapAt (origin : Origin) (tag : Byte) (target : BitVec 16) (s : State) :
    Outcome State Fault Refusal :=
  whenReleased s (s.carryOut origin tag (.swapAt target))

/-- CANCEL-SWAP (R33). -/
def execCancelSwap (origin : Origin) (tag : Byte) (s : State) : Outcome State Fault Refusal :=
  whenReleased s (s.carryOut origin tag .cancelSwap)

/-- READ-FLOW-COUNTS (R166). -/
def execReadFlowCounts (origin : Origin) (tag : Byte) (flow clear : Byte) (s : State) :
    Outcome State Fault Refusal :=
  whenReleased s (s.carryOut origin tag (.readFlowCounts flow clear))

/-- READ-BEARER (R94, R167). -/
def execReadBearer (origin : Origin) (tag : Byte) (bearer clear : Byte) (s : State) :
    Outcome State Fault Refusal :=
  whenReleased s (s.carryOut origin tag (.readBearer bearer clear))

/-- READ-LINK (R165). -/
def execReadLink (origin : Origin) (tag : Byte) (s : State) : Outcome State Fault Refusal :=
  whenReleased s (s.carryOut origin tag .readLink)

/-- SET-SETTING (R168). -/
def execSetSetting (origin : Origin) (tag : Byte) (name index : Byte) (value : BitVec 16) (s : State) :
    Outcome State Fault Refusal :=
  whenReleased s (s.carryOut origin tag (.setSetting name index value))

/-- READ-SETTINGS (R167). -/
def execReadSettings (origin : Origin) (tag : Byte) (s : State) : Outcome State Fault Refusal :=
  whenReleased s (s.carryOut origin tag .readSettings)

/-- SET-WINDOW (R170). -/
def execSetWindow (origin : Origin) (tag : Byte) (low high : Byte) (s : State) :
    Outcome State Fault Refusal :=
  whenReleased s (s.carryOut origin tag (.setWindow low high))

/-- FREEZE-WINDOW (R171). -/
def execFreezeWindow (origin : Origin) (tag : Byte) (s : State) : Outcome State Fault Refusal :=
  whenReleased s (s.carryOut origin tag .freezeWindow)

/-- SET-BAR (R169). -/
def execSetBar (origin : Origin) (tag : Byte) (s : State) : Outcome State Fault Refusal :=
  whenReleased s (s.carryOut origin tag .setBar)

/-- CLEAR-BAR (R169). -/
def execClearBar (origin : Origin) (tag : Byte) (s : State) : Outcome State Fault Refusal :=
  whenReleased s (s.carryOut origin tag .clearBar)

/-- SET-TALLY naming the Tally Source (R51). -/
def execSetTallySource (origin : Origin) (tag : Byte) (mask : Byte) (lamps : Tab 8 Byte) (s : State) :
    Outcome State Fault Refusal :=
  whenReleased s (s.carryOut origin tag (.setTally 0 mask lamps))

/-- SET-TALLY naming the override (R152). -/
def execSetTallyOverride (origin : Origin) (tag : Byte) (mask : Byte) (lamps : Tab 8 Byte) (s : State) :
    Outcome State Fault Refusal :=
  whenReleased s (s.carryOut origin tag (.setTally 1 mask lamps))

/-- CLEAR-TALLY-OVERRIDE (R152). -/
def execClearTallyOverride (origin : Origin) (tag : Byte) (s : State) :
    Outcome State Fault Refusal :=
  whenReleased s (s.carryOut origin tag .clearTallyOverride)

/-- READ-EVENTS (R178). -/
def execReadEvents (origin : Origin) (tag : Byte) (s : State) : Outcome State Fault Refusal :=
  whenReleased s (s.carryOut origin tag .readEvents)

/-- ACK-EVENTS (R178). -/
def execAckEvents (origin : Origin) (tag : Byte) (events : BitVec 24) (s : State) :
    Outcome State Fault Refusal :=
  whenReleased s (s.carryOut origin tag (.ackEvents events))

/-- FLUSH-TRIBUTARY (R45, R147). -/
def execFlushTributary (origin : Origin) (tag : Byte) (trib : Byte) (s : State) :
    Outcome State Fault Refusal :=
  whenReleased s (s.carryOut origin tag (.flushTributary trib))

/-- RESET-DATAPATH (R173). -/
def execResetDatapath (origin : Origin) (tag : Byte) (s : State) : Outcome State Fault Refusal :=
  whenReleased s (s.carryOut origin tag .resetDatapath)

end Sys2Proof.Machine
end

