-- ==== Sys2Proof/Machine/Dispatch.lean ====
section
/-! DEFINITION. One arm for each command of the ML412: which definition gives its meaning. -/

namespace Sys2Proof.Machine

open Host

def exec (i : Instr) (s : State) : Host.Outcome State Fault Refusal :=
  match i with
  | .resetAssert => Sys2Proof.Machine.execResetAssert s
  | .resetRelease role pins => Sys2Proof.Machine.execResetRelease role pins s
  | .slotEntry pins => Sys2Proof.Machine.execSlotEntry pins s
  | .refEdge pins => Sys2Proof.Machine.execRefEdge pins s
  | .farMarkerAbsence => Sys2Proof.Machine.execFarMarkerAbsence s
  | .markerAbsenceExpiry bearer => Sys2Proof.Machine.execMarkerAbsenceExpiry bearer s
  | .stormEnd => Sys2Proof.Machine.execStormEnd s
  | .tallyLoss => Sys2Proof.Machine.execTallyLoss s
  | .tributaryCellArrival trib payload len => Sys2Proof.Machine.execTributaryCellArrival trib payload len s
  | .egressTake trib => Sys2Proof.Machine.execEgressTake trib s
  | .mgmtPortCell payload len => Sys2Proof.Machine.execMgmtPortCell payload len s
  | .mgmtPortTake => Sys2Proof.Machine.execMgmtPortTake s
  | .huntCandidateFound bearer position header => Sys2Proof.Machine.execHuntCandidateFound bearer position header s
  | .receivedCell bearer cell pins => Sys2Proof.Machine.execReceivedCell bearer cell pins s
  | .holdExpiry flow => Sys2Proof.Machine.execHoldExpiry flow s
  | .identify origin tag => Sys2Proof.Machine.execIdentify origin tag s
  | .readEntry origin tag bank flow => Sys2Proof.Machine.execReadEntry origin tag bank flow s
  | .writeEntry origin tag bank flow fields => Sys2Proof.Machine.execWriteEntry origin tag bank flow fields s
  | .clearEntry origin tag bank flow => Sys2Proof.Machine.execClearEntry origin tag bank flow s
  | .copyEntries origin tag source destination first count => Sys2Proof.Machine.execCopyEntries origin tag source destination first count s
  | .checkShadow origin tag => Sys2Proof.Machine.execCheckShadow origin tag s
  | .swapAt origin tag target => Sys2Proof.Machine.execSwapAt origin tag target s
  | .cancelSwap origin tag => Sys2Proof.Machine.execCancelSwap origin tag s
  | .readFlowCounts origin tag flow clear => Sys2Proof.Machine.execReadFlowCounts origin tag flow clear s
  | .readBearer origin tag bearer clear => Sys2Proof.Machine.execReadBearer origin tag bearer clear s
  | .readLink origin tag => Sys2Proof.Machine.execReadLink origin tag s
  | .setSetting origin tag name index value => Sys2Proof.Machine.execSetSetting origin tag name index value s
  | .readSettings origin tag => Sys2Proof.Machine.execReadSettings origin tag s
  | .setWindow origin tag low high => Sys2Proof.Machine.execSetWindow origin tag low high s
  | .freezeWindow origin tag => Sys2Proof.Machine.execFreezeWindow origin tag s
  | .setBar origin tag => Sys2Proof.Machine.execSetBar origin tag s
  | .clearBar origin tag => Sys2Proof.Machine.execClearBar origin tag s
  | .setTallySource origin tag mask lamps => Sys2Proof.Machine.execSetTallySource origin tag mask lamps s
  | .setTallyOverride origin tag mask lamps => Sys2Proof.Machine.execSetTallyOverride origin tag mask lamps s
  | .clearTallyOverride origin tag => Sys2Proof.Machine.execClearTallyOverride origin tag s
  | .readEvents origin tag => Sys2Proof.Machine.execReadEvents origin tag s
  | .ackEvents origin tag events => Sys2Proof.Machine.execAckEvents origin tag events s
  | .flushTributary origin tag trib => Sys2Proof.Machine.execFlushTributary origin tag trib s
  | .resetDatapath origin tag => Sys2Proof.Machine.execResetDatapath origin tag s
  | .egressReadyChange trib ready => Sys2Proof.Machine.execEgressReadyChange trib ready s

end Sys2Proof.Machine
end

