-- ==== Sys2Proof/Safety.lean ====
section
/-! DEFINITION. What holds of the part at every step: the laws of its queues, its Buffer Pool, its
Merge Windows, its tables, its settings and timers, its clock and its Radio Plan, in the terms the
claims use; and what a command's answer changes. -/

namespace Sys2Proof.Machine

/-! ### Laws of the state -/

/-- No FIFO, queue or list holds more than its size (R42, R97, R143, R155). -/
def State.queuesFit (s : State) : Prop :=
  (∀ n : Trib, (s.ingress.fifo.read n).length ≤ 64) ∧
  (∀ n : Trib, (s.egress.fifo.read n).length ≤ 64) ∧
  s.mgmt.portQueue.length ≤ 16 ∧ s.mgmt.flow0Queue.length ≤ 16 ∧
  s.skew.fibreList.length ≤ 8 ∧ s.skew.radioList.length ≤ 8

/-- The buffers of all held cells, flow by flow. -/
def MergeUnit.heldBuffers (u : MergeUnit) : List BufferNo :=
  allFlows.flatMap fun f => (u.window.read f).held.map HeldRecord.buffer

/-- Every buffer is once on the free stack or once under a held cell (R128). -/
def MergeUnit.buffersKept (u : MergeUnit) : Prop := (u.free ++ u.heldBuffers).Perm powerOnFree

/-- The laws of one window, given the fields by which its flow is received: of a flow not received it
is UNSET and empty; UNSET it is empty; RUNNING it holds cells 1 to depth − 1 ahead of N, in strictly
rising distance (R111, R112). -/
def MergeWindow.lawful (w : MergeWindow) (fields : Option EntryFields) : Prop :=
  match fields with
  | none => w.running = false ∧ w.held = []
  | some x =>
    (w.running = false → w.held = []) ∧
    (w.held.map fun r => w.distance r.sequence).Pairwise (· < ·) ∧
    ∀ r ∈ w.held, 1 ≤ w.distance r.sequence ∧ w.distance r.sequence ≤ x.depth - 1

/-- Every Merge Window keeps its laws (R112). -/
def State.windowsLawful (s : State) : Prop :=
  ∀ f : Flow, (s.merge.window.read f).lawful (s.receiving f)

/-- An entry holds values that R18 allows an entry 1..63. -/
def Entry.inRange : Entry → Bool
  | .unused => true
  | .used dir x =>
    dir != .bothWays && x.endpoint != .mgmt && decide (1 ≤ x.rate) && decide (x.rate ≤ 1527) &&
      decide (x.rank ≤ 15) && decide (1 ≤ x.margin) && decide (x.margin ≤ 255) &&
      decide (4 ≤ x.depth) && decide (x.depth ≤ 1024)

/-- A bank with entry 0 as R20 fixes it and the others in range. -/
def bankLawful (entries : Tab 64 Entry) : Bool :=
  entries.read 0 == .used .bothWays EntryFields.management &&
    userFlows.all fun f => (entries.read f).inRange

/-- Both banks lawful; the active bank consistent, and the shadow bank too while a swap is pending
(R20, R26, R34). -/
def TableControl.lawful (t : TableControl) : Prop :=
  bankLawful t.bank0 = true ∧ bankLawful t.bank1 = true ∧
  consistencyCheck t.activeBank = .pass ∧
  (t.pendingSwap.isSome = true → consistencyCheck t.shadowBank = .pass)

/-- Every numeric setting in the range R168 gives it. -/
def Settings.inRange (st : Settings) : Prop :=
  (∀ n : Trib, 8 ≤ st.watermark.read n ∧ st.watermark.read n ≤ 63) ∧
  (1 ≤ st.gradeDown ∧ st.gradeDown ≤ 8) ∧ (4 ≤ st.gradeUp ∧ st.gradeUp ≤ 64) ∧
  st.stormGuard ≤ 1023 ∧ (1 ≤ st.stormHold ∧ st.stormHold ≤ 255) ∧
  (10 ≤ st.tallyLoss ∧ st.tallyLoss ≤ 1000) ∧
  (16 ≤ st.routineInterval ∧ st.routineInterval ≤ 1024)

/-- The settings with the numeric setting of a number that has no index stored, and no other changed
(R168, R185). -/
def Settings.withNumber (st : Settings) (name value : Nat) : Settings :=
  match name with
  | 1 => { st with gradeDown := value }
  | 2 => { st with gradeUp := value }
  | 3 => { st with stormGuard := value }
  | 4 => { st with stormHold := value }
  | 5 => { st with tallyLoss := value }
  | 7 => { st with routineInterval := value }
  | _ => st

/-- A storm timer is STOPPED or has 1..261,120 superframes left (R134). -/
def StormTimer.inRange : StormTimer → Prop
  | .stopped => True
  | .running n => 1 ≤ n ∧ n ≤ 261120

/-- A tally-loss timer that runs has 1..1000 superframes left (R148). -/
def TallyTimer.inRange : TallyTimer → Prop
  | .stopped => True
  | .expired => True
  | .running n => 1 ≤ n ∧ n ≤ 1000

/-- Settings, timers, the routine count and the far write window in range (R134, R148, R155, R168,
R176). -/
def State.rangesKept (s : State) : Prop :=
  s.mgmt.settings.inRange ∧ s.strike.timer.inRange ∧ s.tally.timer.inRange ∧
  s.events.routineCount ≤ 1024 ∧
  1 ≤ s.mgmt.windowLow ∧ s.mgmt.windowLow ≤ s.mgmt.windowHigh ∧ s.mgmt.windowHigh ≤ 63

/-- The bounds of E, J and the Radio Offset (R11, R104, R105). -/
def State.skewBounded (s : State) : Prop :=
  (s.skew.valid = true → s.skew.e.natAbs ≤ 131056) ∧ s.skew.j ≤ 16382 ∧
  (s.skew.valid = false → s.skew.j = 0) ∧
  ∀ n : Int, s.clock.radioOffset = some n → n.natAbs ≤ 8191

/-- The runs and counts of a receiver in range (R78, R83). -/
def Receiver.runsKept (r : Receiver) : Prop :=
  r.badRun ≤ 7 ∧ r.confirmCount ≤ 3 ∧ r.markerAbsence ≤ 3 ∧
  (r.state = .timed → r.markerAbsence ≤ 2)

/-- What a receiver knows of its lane fits together: no cell boundary in HUNT; the cell that is taken
next has a byte still to arrive; and a search is behind by less than the cell whose failure in CONFIRM
began it (R79, R82, R91). -/
def Receiver.laneKept (r : Receiver) : Prop :=
  (r.state = .hunt → r.boundary = none) ∧
  (r.boundary = none → r.arrived ≤ r.searchFrom + 191) ∧
  (r.boundary ≠ none → r.arrived < r.cellBegin + 192)

/-- The radio has used no more slots of the superframe than 32 times the grade in effect (R59). -/
def State.radioWithinGrade (s : State) : Prop := s.radioTx.usedSlots ≤ 32 * s.planner.grade.toNat

/-- The source bearer is the one that the receivers' states name, in the MAST role; in the TRUCK role
it is NONE (R4, R10). -/
def State.sourceChosen (s : State) : Prop :=
  s.clock.source =
    match s.role with
    | .truck => none
    | .mast => sourceOf (s.timed .fibre) (s.timed .radio)

/-- The Radio Plan and its demands are those that the grade in effect, the far fibre status and the
active bank give (R71). -/
def State.planFresh (s : State) : Prop := s.planner.compute s.table.activeBank = s.planner

/-- The tally-loss timer is STOPPED exactly while the active bank holds no INBOUND TALLY entry
(R148). -/
def State.tallyTimerFollows (s : State) : Prop :=
  (s.tally.timer = .stopped ↔ hasInboundTally s.table.activeBank = false)

/-! ### What a response changes -/

/-- The record of a response that carries no detail: kind 2, the tag, the command number, the status,
the flags, five zero detail bytes, and the results (R185, R186). -/
def plainRecord (tag number status flags : Byte) (results : List Byte) : List Byte :=
  [2, tag, number, status, flags, 0, 0, 0, 0, 0] ++ results

/-- The response record of a command answered OK with these results. -/
def okRecord (tag number : Byte) (results : List Byte) : List Byte :=
  plainRecord tag number 0 0 results

/-- The response record of a command answered OK, CLAMPED with it when `clamped` holds. -/
def clampedRecord (tag number : Byte) (clamped : Bool) (results : List Byte) : List Byte :=
  plainRecord tag number 0 (if clamped then 1 else 0) results

/-- A cell whose record is `record`, joined to a queue with room for it. -/
def joined (old new : List CellData) (record : List Byte) : Prop :=
  ∃ c : CellData, c.record = record ∧ c.len = record.length ∧ c.payload.length = 180 ∧
    new = old ++ [c]

/-- `t` is `s` with one response placed for origin `o`: joined to its queue when that holds fewer
than 16 cells, else counted and told by MGMT-DROP (R157, R159, R162). Nothing else differs but the
occasion of the free values. -/
def Answered (s t : State) (o : Origin) (record : List Byte) : Prop :=
  ∃ queue : List CellData,
    match o with
    | .near =>
      if s.mgmt.portQueue.length < 16 then
        joined s.mgmt.portQueue queue record ∧
          t = { s with mgmt := { s.mgmt with portQueue := queue }, occasion := t.occasion }
      else
        t = { s with
          mgmt := { s.mgmt with portDrops := satInc s.mgmt.portDrops }
          events := s.events.raise .mgmtDrop (.dropped .port .response)
          occasion := t.occasion }
    | .far =>
      if s.mgmt.flow0Queue.length < 16 then
        joined s.mgmt.flow0Queue queue record ∧
          t = { s with mgmt := { s.mgmt with flow0Queue := queue }, occasion := t.occasion }
      else
        t = { s with
          mgmt := { s.mgmt with flow0Drops := satInc s.mgmt.flow0Drops }
          events := s.events.raise .mgmtDrop (.dropped .flow0 .response)
          occasion := t.occasion }

/-- The row of the table that a management command taken with origin `o` and tag `tag` is; none for a
SET-TALLY whose object is undefined. -/
def Command.row (o : Origin) (tag : Byte) : Command → Option Instr
  | .identify => some (.identify o tag)
  | .readEntry bank flow => some (.readEntry o tag bank flow)
  | .writeEntry bank flow fields => some (.writeEntry o tag bank flow fields)
  | .clearEntry bank flow => some (.clearEntry o tag bank flow)
  | .copyEntries source destination first count =>
    some (.copyEntries o tag source destination first count)
  | .checkShadow => some (.checkShadow o tag)
  | .swapAt target => some (.swapAt o tag target)
  | .cancelSwap => some (.cancelSwap o tag)
  | .readFlowCounts flow clear => some (.readFlowCounts o tag flow clear)
  | .readBearer bearer clear => some (.readBearer o tag bearer clear)
  | .readLink => some (.readLink o tag)
  | .setSetting name index value => some (.setSetting o tag name index value)
  | .readSettings => some (.readSettings o tag)
  | .setWindow low high => some (.setWindow o tag low high)
  | .freezeWindow => some (.freezeWindow o tag)
  | .setBar => some (.setBar o tag)
  | .clearBar => some (.clearBar o tag)
  | .setTally object mask lamps =>
    match object.toNat with
    | 0 => some (.setTallySource o tag mask lamps)
    | 1 => some (.setTallyOverride o tag mask lamps)
    | _ => none
  | .clearTallyOverride => some (.clearTallyOverride o tag)
  | .readEvents => some (.readEvents o tag)
  | .ackEvents events => some (.ackEvents o tag events)
  | .flushTributary trib => some (.flushTributary o tag trib)
  | .resetDatapath => some (.resetDatapath o tag)

/-! ### A command as its record -/

/-- The entry record that asks for these fields (R185). -/
def rawEntryBytes (raw : RawEntry) : List Byte :=
  [raw.state, raw.endpoint, raw.cls, raw.protection] ++ bytesOf 2 raw.rate.toNat ++
    [raw.rank, raw.margin] ++ bytesOf 2 raw.depth.toNat

/-- The operands of a command as its record gives them, from byte 4 (R185). -/
def Command.operandBytes : Command → List Byte
  | .readEntry bank flow => [bank, flow]
  | .writeEntry bank flow fields => [bank, flow] ++ rawEntryBytes fields
  | .clearEntry bank flow => [bank, flow]
  | .copyEntries source destination first count => [source, destination, first, count]
  | .swapAt target => bytesOf 2 target.toNat
  | .readFlowCounts flow clear => [flow, clear]
  | .readBearer bearer clear => [bearer, clear]
  | .setSetting name index value => [name, index] ++ bytesOf 2 value.toNat
  | .setWindow low high => [low, high]
  | .setTally object mask lamps => [object, mask] ++ (List.finRange 8).map lamps.read
  | .ackEvents events => bytesOf 3 events.toNat
  | .flushTributary trib => [trib]
  | .identify | .checkShadow | .cancelSwap | .readLink | .readSettings | .freezeWindow | .setBar
  | .clearBar | .clearTallyOverride | .readEvents | .resetDatapath => []

/-- The record of a command with a tag and a target (R185). -/
def Command.record (c : Command) (tag target : Byte) : List Byte :=
  [1, tag, target, c.number] ++ c.operandBytes

/-! ### What a superframe start does -/

/-- At the coming superframe start no timer and no marker absence reaches its end, and the samples of
the lines complete no strike: nothing falls whose order the spec leaves open. -/
def State.quietStart (s : State) (pins : Pins) : Prop :=
  s.strike.ending = false ∧ s.tally.ending = false ∧ s.fibreRx.ending = false ∧
  s.radioRx.ending = false ∧ s.strike.strikesOf pins = (false, false)

/-- The bank that governs the superframe `n` that starts (R34). -/
def State.bankAt (s : State) (n : Superframe) : Tab 64 Entry :=
  if s.table.pendingSwap = some n then s.table.shadowBank else s.table.activeBank

/-- Flow `f`'s sequence counter as its batch for superframe `n` begins with it: 0 for a flow that the
swap of that start has started (R38, R46). -/
def State.sequenceAt (s : State) (n : Superframe) (f : Flow) : Seq :=
  if s.table.pendingSwap = some n ∧ f ≠ 0 ∧
      (classifyFlow s.table.activeBank s.table.shadowBank f).startsOutbound = true then 0
  else (s.batch.flow.read f).sequence

/-- The Radio Planner as the start of `n` leaves it before the GRADE sample: the absence counted, an
awaiting grade in effect, and one computation of the plan when a status change, a swap or a grade asks
for it (R67, R70, R71). -/
def State.plannerAt (s : State) (n : Superframe) : RadioPlanner :=
  let absence := s.planner.countAbsence
  let p := { absence.1 with grade := s.planner.awaiting.getD s.planner.grade, awaiting := none }
  if absence.2 = true ∨ s.table.pendingSwap = some n ∨ s.planner.awaiting.isSome = true then
    p.compute (s.bankAt n)
  else p

/-- How many cells of tributary `k` a batch may take under a bank: the rate of the flow whose OUTBOUND
entry names it, and none when no entry does (R48). -/
def drawnFrom (bank : Tab 64 Entry) (k : Trib) : Option Nat :=
  (outboundFlowOf bank k).bind fun f => (bank.read f).outbound.map EntryFields.rate

/-- The payloads of flow `f`'s batch for superframe `n`: the oldest cells of its tributary up to its
rate, or one tally cell (R47, R48, R50). -/
def State.batchAt (s : State) (n : Superframe) (tallyCells : Flow → CellData) (f : Flow) :
    List CellData :=
  match ((s.bankAt n).read f).outbound with
  | none => []
  | some x =>
    match x.endpoint with
    | .trib k => (s.ingress.fifo.read k).take x.rate
    | .tally => [tallyCells f]
    | .mgmt => []

/-- The cells of flow `f`'s batch for superframe `n` that stand on bearer `b`, numbered, when the Radio
Plan is `plan` (R49, R54). -/
def State.cellsAt (s : State) (n : Superframe) (tallyCells : Flow → CellData) (plan : List Flow)
    (b : Bearer) (f : Flow) : List BatchCell :=
  match ((s.bankAt n).read f).outbound with
  | none => []
  | some x =>
    if placedOn b x.protection (plan.contains f) = true then
      numberCells f (s.sequenceAt n f) (s.batchAt n tallyCells f)
    else []

/-- `c` is a tally cell that carries some lamp states (R50, R183). -/
def tallyCellOf (states : Tab 8 LampState) (c : CellData) : Prop :=
  c.len = 8 ∧ c.payload.length = 180 ∧ c.payload.take 8 = lampBytes states

/-- A transmitter once it has opened a superframe with some cells on its send list and, when it has a
marker, sent that: its unsent cells counted skipped, its turn at the start (R56, R57). -/
def Transmitter.opened (tx : Transmitter) (cells : List BatchCell) (marker : Option Marker)
    (usedSlots : Nat) : Transmitter :=
  { sendList := cells
    turn := 0
    sentCount := tx.sentCount
    skippedCount := Tab.build fun f => satAdd (tx.skippedCount.read f) (unsentOf tx.sendList f)
    marker := none
    usedSlots := usedSlots
    lane := marker.map markerCellBytes }

/-- The batches of a superframe start of `n` from `s` to `t`, flow 0's carrying `flow0`: the FIFOs
drawn, the holds judged, the counters moved on and each transmitter's send list the cells placed on
its bearer in flow order with flow 0's (R44, R46 to R50, R52, R54, R56). -/
structure BatchesFormed (s t : State) (n : Superframe) (tallyCells : Flow → CellData)
    (flow0 : List CellData) : Prop where
  tallies : ∀ f : Flow, tallyCellOf s.batch.tallySource (tallyCells f)
  fifos : ∀ k : Trib, t.ingress.fifo.read k =
    (s.ingress.fifo.read k).drop ((drawnFrom (s.bankAt n) k).getD 0)
  holds : ∀ k : Trib, t.ingress.hold.read k = (s.ingress.hold.read k &&
    !((drawnFrom (s.bankAt n) k).isSome && decide
      ((t.ingress.fifo.read k).length + 8 ≤ s.mgmt.settings.watermark.read k)))
  counters : ∀ f : Flow, f ≠ 0 →
    (t.batch.flow.read f).sequence =
      s.sequenceAt n f + BitVec.ofNat 16 (s.batchAt n tallyCells f).length ∧
    (t.batch.flow.read f).batched =
      satAdd (s.batch.flow.read f).batched (s.batchAt n tallyCells f).length
  counters0 :
    (t.batch.flow.read 0).sequence =
      (s.batch.flow.read 0).sequence + BitVec.ofNat 16 flow0.length ∧
    (t.batch.flow.read 0).batched = satAdd (s.batch.flow.read 0).batched flow0.length
  sendLists : ∀ b : Bearer, (t.tx b).sendList =
    userFlows.flatMap (s.cellsAt n tallyCells t.planner.plan b) ++
      numberCells 0 (s.batch.flow.read 0).sequence flow0

/-- Event `e` waits to be told, and calls for a report at the next superframe start: it is UNREPORTED,
enabled, and URGENT, or ROUTINE with the interval run out (R179). -/
def State.reportWaits (s : State) (e : Fin 20) : Prop :=
  (s.events.event.read e).unreported = true ∧ s.mgmt.settings.eventEnable.read e = true ∧
  (s.mgmt.settings.eventLevel.read e = .urgent ∨
    s.mgmt.settings.routineInterval ≤ min 1024 (s.events.routineCount + 1))

/-- `t` is `s` after a superframe start at which nothing falls in an open order, link time standing at
`time` and the pins at `pins` in the slot entered. -/
structure SuperframeStarted (s t : State) (time : LinkTime) (pins : Pins) : Prop where
  clock : t.clock = { s.clock with time := time, lastStarted := time.sf }
  /-- The swap that is pending for it executes, and SWAP-DONE tells it (R34). -/
  table : t.table = if s.table.pendingSwap = some time.sf then s.table.swapped else s.table
  swapDone : s.table.pendingSwap = some time.sf →
    (t.events.event.read EventId.swapDone.num).flag = true ∧
    (t.events.event.read EventId.swapDone.num).detail = some (.superframe time.sf)
  /-- The far absence, the grade, the plan and then the sample (R65, R67, R70, R71). -/
  planner : t.planner = (s.plannerAt time.sf).takeSample s.mgmt.settings.gradeDown
    s.mgmt.settings.gradeUp s.strike.storm pins.grade
  gradeChange : ∀ g : Grade, s.planner.awaiting = some g →
    (t.events.event.read EventId.gradeChange.num).flag = true ∧
    (t.events.event.read EventId.gradeChange.num).detail = some (.grades s.planner.grade g)
  /-- The skipped counts, the markers and the first slot of each lane (R56, R57, R59). -/
  transmitters :
    let m : Marker := ⟨time.sf, s.timed .fibre, s.timed .radio, t.planner.grade⟩
    t.fibreTx = s.fibreTx.opened t.fibreTx.sendList (some m) 0 ∧
    t.radioTx = s.radioTx.opened t.radioTx.sendList (if t.planner.grade = 0 then none else some m)
      (if t.planner.grade = 0 then 0 else 1)
  /-- The batches (R47 to R54). The two management queues change by the report and by flow 0's
  batch alone. -/
  batches : s.table.lawful → ∃ (tallyCells : Flow → CellData) (flow0 : List CellData),
    BatchesFormed s t time.sf tallyCells flow0 ∧
    (s.mgmt.settings.reportEnable = false ∨ s.mgmt.settings.reportFar = false →
      flow0 = s.mgmt.flow0Queue.take 8 ∧ t.mgmt.flow0Queue = s.mgmt.flow0Queue.drop 8) ∧
    (s.mgmt.settings.reportEnable = true → s.mgmt.settings.reportFar = true →
      (∃ e : Fin 20, e ≠ EventId.mgmtDrop.num ∧ s.reportWaits e) →
      s.mgmt.flow0Queue.length < 16 →
      ∃ c : CellData, c.record.take 4 = [3, 0] ++ bytesOf 2 time.sf.toNat ∧
        flow0.length ≤ 8 ∧ flow0 ++ t.mgmt.flow0Queue = s.mgmt.flow0Queue ++ [c])
  /-- The storm timer and the lines (R136, R138). -/
  strike : t.strike = { s.strike with
    lineA := (s.strike.lineA.take pins.strikeA).1
    lineB := (s.strike.lineB.take pins.strikeB).1
    timer := match s.strike.timer with
      | .stopped => .stopped
      | .running k => .running (k - 1) }
  /-- The marker absences (R90). -/
  receivers : ∀ b : Bearer, t.rx b = { s.rx b with
    markerAbsence := (s.rx b).markerAbsence + if s.timed b = true then 1 else 0 }
  /-- The tally-loss timer: the swap's start or stop, and then the count (R150). -/
  tally :
    let u := if s.table.pendingSwap = some time.sf then
        s.tally.atSwap (hasInboundTally s.table.shadowBank) s.mgmt.settings.tallyLoss
      else s.tally
    t.tally = { u with timer := match u.timer with
      | .stopped => .stopped
      | .running k => .running (k - 1)
      | .expired => .expired }
  /-- The windows of the flows that the swap ends, flushed (R39). -/
  merge : t.merge = if s.table.pendingSwap = some time.sf then
      s.merge.flushFlows (endedInbound (classifyFlow s.table.activeBank s.table.shadowBank))
    else s.merge
  /-- The holds judged (R123). -/
  holds : ∀ f : Flow, t.expired.read f = t.expiryDue f
  /-- With the report OFF only the routine count moves on (R176, R179). -/
  reportOff : s.mgmt.settings.reportEnable = false →
    t.mgmt = { s.mgmt with flow0Queue := s.mgmt.flow0Queue.drop 8 } ∧
    t.events.routineCount = min 1024 (s.events.routineCount + 1)
  /-- An event that waits brings a notice of this superframe (R179, R180). -/
  report : s.mgmt.settings.reportEnable = true → s.mgmt.settings.reportNear = true →
    (∃ e : Fin 20, e ≠ EventId.mgmtDrop.num ∧ s.reportWaits e) → s.mgmt.portQueue.length < 16 →
    ∃ c : CellData, t.mgmt.portQueue = s.mgmt.portQueue ++ [c] ∧
      c.record.take 4 = [3, 0] ++ bytesOf 2 time.sf.toNat
  mgmt : t.mgmt = { s.mgmt with
    portQueue := t.mgmt.portQueue, flow0Queue := t.mgmt.flow0Queue
    portDrops := t.mgmt.portDrops, flow0Drops := t.mgmt.flow0Drops }
  others : t.skew = s.skew ∧ t.egress = s.egress ∧ t.role = s.role ∧ t.pins = pins ∧
    t.inReset = s.inReset ∧ t.owed = [] ∧ t.pending = s.pending ∧
    t.batch.tallySource = s.batch.tallySource ∧
    t.ingress.dropCount = s.ingress.dropCount ∧ t.ingress.unrouted = s.ingress.unrouted

/-! ### Holds and settling -/

/-- Every hold that has expired is known to have, and what is known to have expired is the hold of a
lowest held cell of a RUNNING window: no growth of a hold time undoes an expiry (R123, R124). -/
def State.holdsJudged (s : State) : Prop :=
  ∀ f : Flow, (s.expiryDue f = true → s.expired.read f = true) ∧
    (s.expired.read f = true →
      (s.merge.window.read f).running = true ∧ (s.merge.window.read f).held ≠ [])

/-- The part is running and no share of a start and no hold expiry is waiting to be taken: what the
commands before this one left undone is nothing. -/
def State.settled (s : State) : Prop :=
  s.inReset = false ∧ s.owed = [] ∧ ∀ f : Flow, s.holdExpired f = false

end Sys2Proof.Machine
end

