-- ==== Sys2Proof/Certificates/Slice0/Obligations.lean ====
section
/-! DEFINITION. The statements for the provers, each over every state and every operand that meets
its hypotheses. -/

open Sys2Proof Sys2Proof.Machine

/-! ### The queue of commands, reset -/

/-- A step takes the command at the front of the queue and is that command's meaning on the state
with the queue's rest; with no command waiting the part idles (log entry 9). -/
def Obligations.StepTakesFrontCommand : Prop :=
  ∀ (c : Instr) (rest : List Instr) (s : State),
    step (s.withPending (c :: rest)) = exec c (s.withPending rest) ∧
    step (s.withPending []) = .next (s.withPending [])

/-- The values that the spec gives for power-on reset stand in `State.reset`, block by block. -/
def Obligations.ResetGivesPowerOnValues : Prop :=
  let s := State.reset
  (s.clock.time = ⟨0, 0⟩ ∧ s.clock.lastStarted = 0 ∧ s.clock.radioOffset = none ∧
    s.clock.source = none ∧ s.clock.disagreements = 0) ∧
  (s.table.active = .bank0 ∧ s.table.pendingSwap = none ∧
    s.table.bank0.read 0 = .used .bothWays ⟨.mgmt, .control, .both, 8, 0, 16, 32⟩ ∧
    s.table.bank1.read 0 = .used .bothWays ⟨.mgmt, .control, .both, 8, 0, 16, 32⟩ ∧
    ∀ f : Flow, f ≠ 0 → s.table.bank0.read f = .unused ∧ s.table.bank1.read f = .unused) ∧
  (∀ n : Trib, s.ingress.fifo.read n = [] ∧ s.ingress.hold.read n = false ∧
    s.egress.fifo.read n = []) ∧
  (∀ f : Flow, s.batch.flow.read f = ⟨0, 0, false, 0⟩ ∧ s.ingress.dropCount.read f = 0 ∧
    s.egress.dropCount.read f = 0 ∧ s.fibreTx.sentCount.read f = 0 ∧
    s.radioTx.sentCount.read f = 0) ∧
  (s.planner.grade = 0 ∧ s.planner.awaiting = none ∧ s.planner.farFibre = .present ∧
    s.planner.plan = [] ∧ s.planner.markerAbsence = 0 ∧ s.planner.opposingRun = 0) ∧
  (∀ b : Bearer, (s.rx b).state = .hunt ∧ (s.rx b).boundary = none ∧ (s.rx b).record = none ∧
    (s.rx b).badCount = 0 ∧ (s.rx b).badRun = 0 ∧ (s.rx b).markerAbsence = 0) ∧
  (s.skew.valid = false ∧ s.skew.j = 0 ∧ s.skew.fibreList = [] ∧ s.skew.radioList = []) ∧
  (∀ f : Flow, (s.merge.window.read f).running = false ∧ (s.merge.window.read f).held = [] ∧
    s.merge.counts.read f = MergeCounts.zero) ∧
  (s.merge.free.head? = some 0 ∧ s.merge.free.length = 16384) ∧
  (s.strike.timer = .stopped ∧ s.strike.stormStrikes = 0 ∧ s.strike.lineA.strikes = 0 ∧
    s.strike.lineB.strikes = 0) ∧
  (s.tally.timer = .stopped ∧ ∀ n : Lamp, s.tally.received.read n = .off ∧
    s.tally.overrideMask.read n = false ∧ s.tally.overrideStates.read n = .off ∧
    s.batch.tallySource.read n = .off) ∧
  (s.mgmt.portQueue = [] ∧ s.mgmt.flow0Queue = [] ∧ s.mgmt.bar = false ∧ s.mgmt.windowLow = 1 ∧
    s.mgmt.windowHigh = 63 ∧ s.mgmt.frozen = false ∧ s.mgmt.malformed = 0) ∧
  (s.mgmt.settings.gradeDown = 2 ∧ s.mgmt.settings.gradeUp = 16 ∧
    s.mgmt.settings.stormGuard = 192 ∧ s.mgmt.settings.stormHold = 120 ∧
    s.mgmt.settings.tallyLoss = 250 ∧ s.mgmt.settings.tallyPolicy = .hold ∧
    s.mgmt.settings.routineInterval = 64 ∧ s.mgmt.settings.reportEnable = true ∧
    s.mgmt.settings.reportNear = true ∧ ∀ n : Trib, s.mgmt.settings.watermark.read n = 48) ∧
  (s.events.routineCount = 0 ∧ ∀ e : Fin 20, s.events.event.read e = ⟨false, none, false⟩ ∧
    s.mgmt.settings.eventEnable.read e = true ∧
    s.mgmt.settings.eventLevel.read e = if e.val < 8 then .urgent else .routine)

/-- Every law that a step keeps holds at reset. -/
def Obligations.ResetMeetsEveryLaw : Prop :=
  let s := State.reset
  (s.queuesFit ∧ poolWf s.merge.pool = true) ∧ s.merge.buffersKept ∧
  (s.windowsLawful ∧ s.holdsJudged) ∧
  (s.table.lawful ∧ s.tallyTimerFollows) ∧ s.planFresh ∧
  (s.rangesKept ∧ s.skewBounded ∧ s.skew.adjustment = none) ∧
  (s.fibreRx.runsKept ∧ s.radioRx.runsKept ∧ s.sourceChosen ∧ s.radioWithinGrade) ∧
  (s.fibreRx.laneKept ∧ s.radioRx.laneKept)

/-- RESET_ASSERT completes in every state: every piece of state takes its power-on value, the part
presents nothing, asserts no hold and drives no lamp line (R3, R45, R146, R153, R157). That every
value stands at once and not from the release (log entry 13), that RESET leaves the ready indications
as they were (log entry 12) and that the role and the sampled levels stand until the release (log
entry 1) are the model's choices. The commands that wait are as they were. -/
def Obligations.ResetAssertRestoresPowerOn : Prop :=
  ∀ s : State, ∃ t : State, exec .resetAssert s = .next t ∧
    t = State.powerOn true s.role s.pins s.egress.ready s.occasion s.pending ∧
    t.clock.time = ⟨0, 0⟩ ∧ t.portPresented = none ∧
    (∀ n : Trib, t.presented n = none ∧ t.ingress.hold.read n = false) ∧
    ∀ n : Lamp, t.lampLines n = (false, false)

/-- RESET_RELEASE, RESET being asserted, completes: the part runs in the role and with the levels
given, link time (0, 0), superframe 0 started: the fibre lane carries its marker, the radio lane
nothing, GRADE is sampled once and no strike can come of the first sample (R3, R4, R57, R65, R135).
That the routine count does not count this start (log entry 11) and that the ready indications stand
through RESET and its release (log entry 12) are the model's choices. -/
def Obligations.ResetReleaseStartsSuperframeZero : Prop :=
  ∀ (role : Role) (pins : Pins) (s : State), s.inReset = true →
    ∃ t : State, exec (.resetRelease role pins) s = .next t ∧
      t.inReset = false ∧ t.role = role ∧ t.pins = pins ∧ t.clock = LinkClock.powerOn ∧
      t.table = TableControl.powerOn ∧ t.strike = StrikeMonitor.powerOn pins ∧
      t.fibreTx.lane = some (markerCellBytes ⟨0, false, false, 0⟩) ∧ t.radioTx.lane = none ∧
      t.planner.grade = 0 ∧ t.planner.upRun = (if pins.grade = 0 then 0 else 1) ∧
      (∀ f : Flow, (t.batch.flow.read f).sequence = 0) ∧ t.ingress = IngressPorts.powerOn ∧
      t.fibreRx = Receiver.powerOn ∧ t.radioRx = Receiver.powerOn ∧ t.skew = SkewUnit.powerOn ∧
      t.merge = MergeUnit.powerOn ∧ t.egress = EgressPorts.powerOn s.egress.ready ∧
      t.tally = TallyUnit.powerOn ∧ t.mgmt = ManagementUnit.powerOn role ∧
      t.events = EventUnit.powerOn ∧ t.pending = s.pending

/-! ### Link time and slots -/

/-- Advancing a link time and taking the difference undo each other over the whole range of R8; a
difference is the true number of slots up to the wrap of the numbering and lies in its range; at
exactly half the wrap both directions give the low end (R7, R8). -/
def Obligations.DifferenceOfLinkTimes : Prop :=
  (∀ (t : LinkTime) (n : Int), -3145728 ≤ n → n ≤ 3145727 → difference (t.advance n) t = n) ∧
  (∀ a b : LinkTime, -3145728 ≤ difference a b ∧ difference a b ≤ 3145727 ∧
    ∃ k : Int, difference a b = ((a.sf.toNat : Int) * 1536 + a.slot.val) -
      ((b.sf.toNat : Int) * 1536 + b.slot.val) + 6291456 * k) ∧
  (∀ a b : LinkTime, a.sf = b.sf + 2048 → a.slot = b.slot →
    difference a b = -3145728 ∧ difference b a = -3145728)

/-- In a superframe whose first `k` slots are entered in order, the radio uses ceil(k × g / 48) of
them: radio slot j at fibre slot floor(48 × j / g), 32 × g in a whole superframe (R59). -/
def Obligations.UsedRadioSlotsOfASuperframe : Prop :=
  ∀ (g : Grade) (k : Nat), k ≤ 1536 →
    ((List.finRange 1536).take k).foldl
      (fun used slot => if radioSlotDue g used slot then used + 1 else used) 0 =
    (k * g.toNat + 47) / 48

/-- SLOT_ENTRY that starts no superframe completes, within a superframe and into slot 0 of one that
has been started: link time is one slot on, both lines are sampled, the holds judged, the Fibre
Transmitter sends one cell, the Radio Transmitter one when a radio slot is due and otherwise leaves
its lane empty, and nothing else changes (R1, R2, R58, R59, R123, R135). What a transmitter sends: its
marker; else the oldest unsent cell of flow 0, or of the flow that stands next in the round from the
turn position, counted and marked sent; else an idle cell (R57, R58, R60, R61). That radio slots are
due by the slot number alone where a backward move has passed slot 0 (log entry 25), and that an
expiry found is kept for a step of its own (log entry 2), are the model's choices. -/
def Obligations.SlotEntryWithinSuperframe : Prop :=
  (∀ (pins : Pins) (s : State), s.settled →
    (s.clock.time.slot ≠ 1535 ∨ s.clock.time.sf + 1 = s.clock.lastStarted) →
    s.strike.strikesOf pins = (false, false) →
    let time : LinkTime :=
      if s.clock.time.slot = 1535 then ⟨s.clock.time.sf + 1, 0⟩
      else ⟨s.clock.time.sf, s.clock.time.slot + 1⟩
    let clock := { s.clock with time := time }
    exec (.slotEntry pins) s = .next { s with
      clock := clock
      pins := pins
      strike := { s.strike with
        lineA := (s.strike.lineA.take pins.strikeA).1
        lineB := (s.strike.lineB.take pins.strikeB).1 }
      fibreTx := s.fibreTx.sendOne
      radioTx :=
        if radioSlotDue s.planner.grade s.radioTx.usedSlots time.slot then
          { s.radioTx.sendOne with usedSlots := s.radioTx.usedSlots + 1 }
        else { s.radioTx with lane := none }
      expired := Tab.build (s.withClock clock).expiryDue
      occasion := s.occasion + 1 }) ∧
  (∀ (t : Transmitter) (m : Marker), t.marker = some m →
    t.sendOne = { t with marker := none, lane := some (markerCellBytes m) }) ∧
  (∀ t : Transmitter, t.marker = none → (∀ c ∈ t.sendList, c.sent = true) →
    t.sendOne = { t with lane := some idleCellBytes }) ∧
  ∀ t : Transmitter, t.marker = none → (∃ c ∈ t.sendList, c.sent = false) →
    let ahead (f : Flow) := (f.val + 62 - t.turn.val) % 63
    ∃ (pre post : List BatchCell) (c : BatchCell),
      t.sendList = pre ++ c :: post ∧ c.sent = false ∧
      (∀ d ∈ pre, d.flow = c.flow → d.sent = true) ∧
      ((∃ d ∈ t.sendList, d.flow = 0 ∧ d.sent = false) → c.flow = 0) ∧
      (c.flow ≠ 0 → ∀ d ∈ t.sendList, d.sent = false → ahead c.flow ≤ ahead d.flow) ∧
      t.sendOne = { t with
        sendList := pre ++ { c with sent := true } :: post
        turn := if c.flow = 0 then t.turn else c.flow
        sentCount := t.sentCount.modify c.flow satInc
        lane := some (dataCellBytes c.flow c.sequence c.data) }

/-- A sample changes a line's filter by R136: equal to the accepted level it clears the pending
change; different, it sets it, or is accepted when it is set, a HIGH accepted being a strike. At a
slot entry with strikes, on either line or on both, each line struck counts one, the storm timer is
set to the storm hold times 1024, STORM is ACTIVE with the strikes counted, and STRIKE tells one of
the lines (R136, R137, R139). Where the entry starts no superframe nothing else changes in the blocks
named. Where it starts one, the start comes before the strikes or after them, so that the timer is
full or one less; at the end of a storm the storm goes on, or ends with STORM-END and a new one begins
(R138, R139). That an expiry found at the entry, and an end of the storm left by the start, wait for
steps of their own (log entry 2), and that the strikes of both lines fall on one side of the start
(log entry 27), are the model's choices. -/
def Obligations.SlotEntryTakesAStrike : Prop :=
  (∀ (l : LineFilter) (sample : Bool),
    (sample = l.level → l.take sample = ({ l with changePending := false }, false)) ∧
    (sample ≠ l.level → l.changePending = false →
      l.take sample = ({ l with changePending := true }, false)) ∧
    (sample ≠ l.level → l.changePending = true →
      l.take sample = (⟨sample, false, l.strikes⟩, sample))) ∧
  ∀ (pins : Pins) (s : State), s.settled →
    let sampled (l : StrikeLine) : LineFilter × Bool :=
      (s.strike.line l).take (match l with | .a => pins.strikeA | .b => pins.strikeB)
    let strikes : Nat := (if (sampled .a).2 = true then 1 else 0) +
      if (sampled .b).2 = true then 1 else 0
    let line (l : StrikeLine) : LineFilter := ⟨(sampled l).1.level, (sampled l).1.changePending,
      if (sampled l).2 = true then satInc (s.strike.line l).strikes
      else (s.strike.line l).strikes⟩
    let full := 1024 * s.mgmt.settings.stormHold
    let begun : BitVec 16 := BitVec.ofNat 16 strikes
    let goneOn : BitVec 16 := satAdd s.strike.stormStrikes strikes
    let stormEndKept (t : State) : Prop :=
      (t.events.event.read EventId.stormEnd.num).flag =
        (s.events.event.read EventId.stormEnd.num).flag ∧
      (t.events.event.read EventId.stormEnd.num).detail =
        (s.events.event.read EventId.stormEnd.num).detail
    (sampled .a).2 = true ∨ (sampled .b).2 = true →
    ((s.clock.time.slot ≠ 1535 ∨ s.clock.time.sf + 1 = s.clock.lastStarted) →
      ∃ t : State, exec (.slotEntry pins) s = .next t ∧
        (∀ l : StrikeLine, t.strike.line l = line l) ∧
        t.strike.timer = .running full ∧ t.strike.storm = true ∧
        t.strike.stormStrikes = (if s.strike.storm = true then goneOn else begun) ∧
        (∃ l : StrikeLine, (sampled l).2 = true ∧ t.events = s.events.raise .strike (.line l)) ∧
        t.mgmt = s.mgmt ∧ t.planner = s.planner ∧ t.merge = s.merge ∧ t.egress = s.egress ∧
        t.tally = s.tally ∧ t.clock.time = s.clock.time.advance 1) ∧
    (s.clock.time.slot = 1535 → s.clock.time.sf + 1 ≠ s.clock.lastStarted → s.rangesKept →
      ∃ t : State, exec (.slotEntry pins) s = .next t ∧
        (∀ l : StrikeLine, t.strike.line l = line l) ∧
        (t.events.event.read EventId.strike.num).flag = true ∧
        (∃ l : StrikeLine, (sampled l).2 = true ∧
          (t.events.event.read EventId.strike.num).detail = some (.line l)) ∧
        t.clock.time = ⟨s.clock.time.sf + 1, 0⟩ ∧
        t.clock.lastStarted = s.clock.time.sf + 1 ∧
        (s.strike.timer ≠ .running 1 →
          (t.strike.timer = .running full ∨ t.strike.timer = .running (full - 1)) ∧
          t.strike.stormStrikes = (if s.strike.storm = true then goneOn else begun) ∧
          stormEndKept t) ∧
        (s.strike.timer = .running 1 →
          (t.strike.timer = .running (full - 1) ∧ t.strike.stormStrikes = goneOn ∧
            stormEndKept t) ∨
          (t.strike.timer = .running full ∧ t.strike.stormStrikes = begun ∧
            (t.events.event.read EventId.stormEnd.num).flag = true ∧
            (t.events.event.read EventId.stormEnd.num).detail =
              some (.strikes s.strike.stormStrikes)) ∨
          (t.strike.timer = .running full ∧ t.strike.stormStrikes = goneOn ∧ stormEndKept t ∧
            OwedStart.storm ∈ t.owed)))

/-- SLOT_ENTRY from slot 1535 completes with the superframe start of the next superframe, said for a
start at which no strike and no end of a timer or an absence falls: a pending swap for it executes, an
awaiting grade takes effect, the plan is computed when there is a reason and the GRADE sample judged,
unsent cells are counted skipped, the marker is on the fibre lane, the flows' batches, the tally cell
and flow 0's cells are formed, numbered and placed, the storm timer, the marker absences and the
tally-loss timer count it, and the report is judged with the routine count (R2, R34, R47, R52, R54,
R56, R57, R65, R67, R70, R150, R179). That the holds are judged after the swap of the same entry (log
entry 26), and that a found expiry is kept for a step of its own (log entry 2), which comes after the
start (log entry 30), are the model's choices. -/
def Obligations.SlotEntryStartsSuperframe : Prop :=
  ∀ (pins : Pins) (s : State), s.settled → s.rangesKept → s.clock.time.slot = 1535 →
    s.clock.time.sf + 1 ≠ s.clock.lastStarted → s.quietStart pins →
    ∃ t : State, exec (.slotEntry pins) s = .next t ∧
      SuperframeStarted s t ⟨s.clock.time.sf + 1, 0⟩ pins ∧
      t.clock = { s.clock with time := ⟨s.clock.time.sf + 1, 0⟩,
                               lastStarted := s.clock.time.sf + 1 } ∧
      t.table = (if s.table.pendingSwap = some (s.clock.time.sf + 1) then s.table.swapped
        else s.table) ∧
      t.planner.grade = s.planner.awaiting.getD s.planner.grade ∧
      t.fibreTx.lane = some (markerCellBytes ⟨s.clock.time.sf + 1, s.timed .fibre, s.timed .radio,
        s.planner.awaiting.getD s.planner.grade⟩) ∧
      (∀ f : Flow, t.fibreTx.skippedCount.read f =
        satAdd (s.fibreTx.skippedCount.read f) (unsentOf s.fibreTx.sendList f)) ∧
      (∀ f : Flow, t.radioTx.skippedCount.read f =
        satAdd (s.radioTx.skippedCount.read f) (unsentOf s.radioTx.sendList f)) ∧
      t.strike.timer = (match s.strike.timer with
        | .stopped => .stopped
        | .running n => .running (n - 1)) ∧
      (∀ b : Bearer, t.rx b = { s.rx b with
        markerAbsence := (s.rx b).markerAbsence + if s.timed b = true then 1 else 0 }) ∧
      t.skew = s.skew ∧ t.egress = s.egress ∧ t.role = s.role ∧ t.pins = pins ∧
      t.mgmt.settings = s.mgmt.settings ∧ t.owed = [] ∧ t.pending = s.pending

/-- REF_EDGE completes: in the TRUCK role from any slot but slot 0 it ends the superframe at once,
link time enters slot 0 of the next with its superframe start, whole as at a slot entry, and every
Marker List stamp is moved by the slots cut short (R5, R98, and the rules of a superframe start: R2,
R34, R47, R56, R70, R150, R176, R179). In slot 0, in the MAST role or under RESET it changes nothing
(R4, R6). That the holds are judged after the swap of the same start (log entry 26), and that a found
expiry is kept for a step of its own (log entry 2) after the start (log entry 30), are the model's
choices. -/
def Obligations.RefEdgeStartsNextSuperframe : Prop :=
  (∀ (pins : Pins) (s : State), s.settled → s.rangesKept → s.role = .truck →
    s.clock.time.slot ≠ 0 → s.quietStart pins →
    ∃ t : State, exec (.refEdge pins) s = .next t ∧
      SuperframeStarted (s.withSkew (s.skew.move (1535 - (s.clock.time.slot.val : Int)))) t
        ⟨s.clock.time.sf + 1, 0⟩ pins ∧
      t.clock = { s.clock with time := ⟨s.clock.time.sf + 1, 0⟩,
                               lastStarted := s.clock.time.sf + 1 } ∧
      t.skew = s.skew.move (1535 - (s.clock.time.slot.val : Int)) ∧
      t.fibreTx.lane = some (markerCellBytes ⟨s.clock.time.sf + 1, s.timed .fibre, s.timed .radio,
        s.planner.awaiting.getD s.planner.grade⟩) ∧
      (∀ f : Flow, t.fibreTx.skippedCount.read f =
        satAdd (s.fibreTx.skippedCount.read f) (unsentOf s.fibreTx.sendList f)) ∧
      t.egress = s.egress ∧ t.mgmt.settings = s.mgmt.settings ∧ t.pending = s.pending) ∧
  (∀ (pins : Pins) (s : State),
    s.role = .mast ∨ s.clock.time.slot = 0 ∨ s.inReset = true →
    exec (.refEdge pins) s = .next s)

/-! ### Timers and absences -/

/-- FAR_MARKER_ABSENCE completes where the coming slot entry starts a superframe and raises the marker
absence to 3: it is that start whole, the absence 3, the far fibre status PRESENT, the opposing run 0,
and a plan that was the one of its inputs is the one of the new inputs before the batches are placed
by it (R70, R71). Anywhere else nothing changes. That the row is the whole start, as SLOT_ENTRY with
the levels as they last were is there (log entry 3), that the holds are judged after the swap of the
same start (log entry 26), and that a found expiry is kept for a step of its own (log entry 2) after
the start (log entry 30), are the model's choices. -/
def Obligations.FarMarkerAbsenceRestoresFarFibre : Prop :=
  (∀ s : State, s.settled → s.rangesKept → s.quietStart s.pins →
    s.planner.markerAbsence = 2 → s.clock.time.slot = 1535 →
    s.clock.time.sf + 1 ≠ s.clock.lastStarted →
    exec .farMarkerAbsence s = exec (.slotEntry s.pins) s ∧
    ∃ t : State, exec .farMarkerAbsence s = .next t ∧
      SuperframeStarted s t ⟨s.clock.time.sf + 1, 0⟩ s.pins ∧
      t.planner.markerAbsence = 3 ∧ t.planner.opposingRun = 0 ∧ t.planner.farFibre = .present ∧
      (s.planFresh → t.planFresh)) ∧
  ∀ s : State,
    (s.inReset = true ∨ s.planner.markerAbsence ≠ 2 ∨ s.clock.time.slot ≠ 1535 ∨
      s.clock.time.sf + 1 = s.clock.lastStarted) →
    exec .farMarkerAbsence s = .next s

/-- MARKER_ABSENCE_EXPIRY completes where a TIMED receiver's share of the last superframe start waits
with the absence at 2: the receiver leaves TIMED for ALIGNED with its boundary, run and record, DOWN
is raised with ABSENCE, its Marker List is emptied and the other's kept, E is INVALID and J 0, and in
the MAST role the source is chosen afresh (R10, R90, R92, R99, R105). That the share waits as a step
of its own, and an expiry which the shorter hold times bring as another, is the model's choice (log
entry 2). -/
def Obligations.MarkerAbsenceExpiryLeavesTimed : Prop :=
  ∀ (b : Bearer) (rest : List OwedStart) (s : State), s.inReset = false →
    splitOwed (fun o => o == .receiver b) s.owed = some (.receiver b, rest) →
    (s.rx b).state = .timed → (s.rx b).markerAbsence = 2 →
    ∃ t : State, exec (.markerAbsenceExpiry b) s = .next t ∧
      t.rx b = { s.rx b with state := .aligned, markerAbsence := 3 } ∧
      t.rx (otherBearer b) = s.rx (otherBearer b) ∧
      t.skew.list b = [] ∧ t.skew.list (otherBearer b) = s.skew.list (otherBearer b) ∧
      t.skew.valid = false ∧ t.skew.j = 0 ∧ t.skew.adjustment = s.skew.adjustment ∧
      t.events = s.events.raise (downEvent b) (.wayOut .absence) ∧
      t.clock.time = s.clock.time ∧ t.clock.radioOffset = s.clock.radioOffset ∧
      (s.role = .mast → t.clock.source = sourceOf (t.timed .fibre) (t.timed .radio)) ∧
      t.owed = rest ∧ t.merge = s.merge ∧ t.mgmt = s.mgmt ∧ t.planner = s.planner

/-- STORM_END completes where the Strike Monitor's share of the last superframe start waits: with one
superframe left the timer stops, so STORM is INACTIVE, STORM-END tells the storm strike count, and the
holds are judged by the shorter hold times; restarted by a strike meanwhile, it only falls by one.
With no share waiting nothing changes (R108, R123, R138, R139). That the share waits as a step of its
own, and an expiry which the shorter hold times bring as another, is the model's choice (log entry 2).
-/
def Obligations.StormEndStopsTheTimer : Prop :=
  ∀ (rest : List OwedStart) (s : State), s.inReset = false →
    (splitOwed (fun o => o == .storm) s.owed = some (.storm, rest) →
      (s.strike.timer = .running 1 →
        let ended := { s with
          owed := rest
          strike := { s.strike with timer := .stopped }
          events := s.events.raise .stormEnd (.strikes s.strike.stormStrikes) }
        exec .stormEnd s = .next { ended with expired := Tab.build ended.holdExpired }) ∧
      (∀ n, 2 ≤ n → s.strike.timer = .running n →
        exec .stormEnd s = .next { s with
          owed := rest, strike := { s.strike with timer := .running (n - 1) } })) ∧
    (s.owed = [] → exec .stormEnd s = .next s)

/-- TALLY_LOSS completes where the Tally Unit's share of the start of `sf` waits: with one superframe
left the timer is EXPIRED, TALLY-LOSS tells the policy and `sf`, under DARK every received state is
OFF and under HOLD none changes; restarted meanwhile, it only falls by one (R150, R151). That the
share waits as a step of its own is the model's choice (log entry 2). -/
def Obligations.TallyLossExpiresTheTimer : Prop :=
  ∀ (sf : Superframe) (rest : List OwedStart) (s : State), s.inReset = false →
    splitOwed OwedStart.isTally s.owed = some (.tally sf, rest) →
    (s.tally.timer = .running 1 →
      ∃ t : State, exec .tallyLoss s = .next t ∧
        t.tally.timer = .expired ∧
        (∀ n : Lamp, t.tally.received.read n =
          if s.mgmt.settings.tallyPolicy = .dark then .off else s.tally.received.read n) ∧
        t = { s with
          owed := rest
          tally := { s.tally with timer := .expired, received := t.tally.received }
          events := s.events.raise .tallyLoss (.tally s.mgmt.settings.tallyPolicy sf) }) ∧
    (∀ n, 2 ≤ n → s.tally.timer = .running n →
      exec .tallyLoss s = .next { s with
        owed := rest, tally := { s.tally with timer := .running (n - 1) } })

/-! ### Ingress, batches, egress -/

/-- TRIBUTARY_CELL_ARRIVAL completes: a cell of length 1..180 that finds room joins the tail of its
FIFO, and the hold is asserted when the FIFO reaches the watermark; any other is dropped, counted for
the flow whose OUTBOUND entry names the tributary or as unrouted, and INGRESS-OVERFLOW is raised
(R42, R43, R44). -/
def Obligations.TributaryCellPlacedOrDropped : Prop :=
  ∀ (n : Trib) (payload : List Byte) (len : Nat) (s : State), s.inReset = false →
    (1 ≤ len → len ≤ 180 → (s.ingress.fifo.read n).length < 64 →
      exec (.tributaryCellArrival n payload len) s = .next { s with
        ingress := { s.ingress with
          fifo := s.ingress.fifo.write n (s.ingress.fifo.read n ++ [⟨payload, len⟩])
          hold := s.ingress.hold.write n (s.ingress.hold.read n ||
            decide (s.mgmt.settings.watermark.read n ≤ (s.ingress.fifo.read n).length + 1)) } }) ∧
    (len = 0 ∨ 180 < len ∨ 64 ≤ (s.ingress.fifo.read n).length →
      (∀ f : Flow, outboundFlowOf s.table.activeBank n = some f →
        exec (.tributaryCellArrival n payload len) s = .next { s with
          ingress := { s.ingress with dropCount := s.ingress.dropCount.modify f satInc }
          events := s.events.raise .ingressOverflow (.tributary n) }) ∧
      (outboundFlowOf s.table.activeBank n = none →
        exec (.tributaryCellArrival n payload len) s = .next { s with
          ingress := { s.ingress with unrouted := satInc s.ingress.unrouted }
          events := s.events.raise .ingressOverflow (.tributary n) }))

/-- The batch of a flow whose source is tributary `n`: the oldest cells up to the rate leave the FIFO,
are numbered from the sequence counter and placed by protection and plan; the counter and the batched
count rise by their number; an empty batch lengthens the silent run and any other ends it (R46, R48,
R49, R53, R54). -/
def Obligations.TributaryBatchTakesOldest : Prop :=
  (∀ (s : State) (f : Flow) (x : EntryFields) (n : Trib),
    let fifo := s.ingress.fifo.read n
    let k := min x.rate fifo.length
    let old := s.batch.flow.read f
    let cells := numberCells f old.sequence (fifo.take k)
    let inPlan := s.planner.plan.contains f
    let t := s.tributaryBatch f x n
    t.ingress.fifo.read n = fifo.drop k ∧
    (∀ m : Trib, m ≠ n → t.ingress.fifo.read m = s.ingress.fifo.read m) ∧
    (t.batch.flow.read f).sequence = old.sequence + BitVec.ofNat 16 k ∧
    (t.batch.flow.read f).batched = satAdd old.batched k ∧
    (t.batch.flow.read f).silentRun = (if k = 0 then min 64 (old.silentRun + 1) else 0) ∧
    (∀ g : Flow, g ≠ f → t.batch.flow.read g = s.batch.flow.read g) ∧
    t.fibreTx.sendList = s.fibreTx.sendList ++
      (if placedOn .fibre x.protection inPlan = true then cells else []) ∧
    t.radioTx.sendList = s.radioTx.sendList ++
      (if placedOn .radio x.protection inPlan = true then cells else [])) ∧
  (∀ (f : Flow) (q : Seq) (ds : List CellData) (i : Nat),
    (numberCells f q ds)[i]? =
      ds[i]?.map fun d => ⟨f, q + BitVec.ofNat 16 i, d, false⟩)

/-- The heads that leave. An egress half presents its head, a cell with its payload and length and the
fill flag clear, a loss fill with 180 zero bytes, length 0 and the fill flag set; EGRESS_TAKE takes
the head entry while ready is asserted and nothing while it is released; EGRESS_READY_CHANGE sets the
indication; MGMT_PORT_TAKE takes the head cell of the management port's queue. Each completes and
changes nothing else (R126, R143, R146, R157). That EGRESS_READY_CHANGE sets the indication under
RESET too is the model's choice (log entries 12 and 13). -/
def Obligations.TakesRemoveTheHead : Prop :=
  (∀ (n : Trib) (e : EgressEntry) (rest : List EgressEntry) (s : State), s.inReset = false →
    s.egress.fifo.read n = e :: rest → s.egress.ready.read n = true →
    s.presented n = some (match e with
      | .cell data => { payload := data.payload, len := data.len, fill := false }
      | .fill => { payload := List.replicate 180 0, len := 0, fill := true }) ∧
    exec (.egressTake n) s = .next { s with
      egress := { s.egress with fifo := s.egress.fifo.write n rest } }) ∧
  (∀ (n : Trib) (s : State), s.inReset = true ∨ s.egress.fifo.read n = [] →
    s.presented n = none) ∧
  (∀ (n : Trib) (s : State), s.egress.ready.read n = false →
    exec (.egressTake n) s = .next s) ∧
  (∀ (n : Trib) (ready : Bool) (s : State),
    exec (.egressReadyChange n ready) s = .next { s with
      egress := { s.egress with ready := s.egress.ready.write n ready } }) ∧
  (∀ (c : CellData) (rest : List CellData) (s : State), s.inReset = false →
    s.mgmt.portQueue = c :: rest →
    s.portPresented = some c ∧
    exec .mgmtPortTake s = .next { s with mgmt := { s.mgmt with portQueue := rest } })

/-- A hand-over to an egress FIFO places the run's first entries until the FIFO holds 64 and drops its
tail; each drop counts against the flow, and EGRESS-OVERFLOW is raised when one is dropped (R144,
R145). -/
def Obligations.HandOverPlacesThenDrops : Prop :=
  ∀ (s : State) (n : Trib) (f : Flow) (run : List EgressEntry),
    (s.egress.fifo.read n).length ≤ 64 →
    let room := 64 - (s.egress.fifo.read n).length
    let t := s.handOver n f run
    t.egress.fifo.read n = s.egress.fifo.read n ++ run.take room ∧
    (∀ m : Trib, m ≠ n → t.egress.fifo.read m = s.egress.fifo.read m) ∧
    t.egress.dropCount.read f = satAdd (s.egress.dropCount.read f) (run.length - room) ∧
    (∀ g : Flow, g ≠ f → t.egress.dropCount.read g = s.egress.dropCount.read g) ∧
    t.egress.ready = s.egress.ready ∧
    t.events = (if room < run.length then s.events.raise .egressOverflow (.tributaryFlow n f)
      else s.events) ∧
    t = { s with egress := t.egress, events := t.events }

/-! ### The management port and flow 0 -/

/-- MGMT_PORT_CELL with a COMMAND for the far end completes: with a receiver TIMED and room the cell
joins the flow-0 outbound queue as sent; with neither TIMED it is answered NO-PATH, and with the queue
full FULL, near (R158). -/
def Obligations.MgmtPortForwardsFarCommand : Prop :=
  ∀ (payload : List Byte) (len : Nat) (s : State), s.inReset = false → 4 ≤ len → len ≤ 180 →
    byteAt (payload.take len) 0 = 1 → byteAt (payload.take len) 2 = 2 →
    (s.timed .fibre = true ∨ s.timed .radio = true → s.mgmt.flow0Queue.length < 16 →
      exec (.mgmtPortCell payload len) s = .next { s with
        mgmt := { s.mgmt with flow0Queue := s.mgmt.flow0Queue ++ [⟨payload, len⟩] } }) ∧
    (s.timed .fibre = false → s.timed .radio = false →
      ∃ t : State, exec (.mgmtPortCell payload len) s = .next t ∧
        Answered s t .near (plainRecord (byteAt (payload.take len) 1)
          (byteAt (payload.take len) 3) 13 0 [])) ∧
    (s.timed .fibre = true ∨ s.timed .radio = true → 16 ≤ s.mgmt.flow0Queue.length →
      ∃ t : State, exec (.mgmtPortCell payload len) s = .next t ∧
        Answered s t .near (plainRecord (byteAt (payload.take len) 1)
          (byteAt (payload.take len) 3) 14 0 []))

/-- MGMT_PORT_CELL with a COMMAND for the near end completes and is the row of its command; a number
that names no command is answered UNKNOWN, and an undefined target FIELD naming byte 2; a cell of a
length outside 1..180, a COMMAND that ends before byte 3, and a RESPONSE, NOTICE or unused kind are
counted malformed and answered nothing (R156, R161, R186). -/
def Obligations.MgmtPortRunsNearCommand : Prop :=
  (∀ (payload : List Byte) (len : Nat) (c : Command) (row : Instr) (s : State),
    4 ≤ len → len ≤ 180 → byteAt (payload.take len) 0 = 1 → byteAt (payload.take len) 2 = 1 →
    readCommandRecord (payload.take len) = .command c →
    c.row .near (byteAt (payload.take len) 1) = some row →
    exec (.mgmtPortCell payload len) s = exec row s) ∧
  (∀ (payload : List Byte) (len : Nat) (s : State), s.inReset = false → 4 ≤ len → len ≤ 180 →
    byteAt (payload.take len) 0 = 1 → byteAt (payload.take len) 2 = 1 →
    (byteAt (payload.take len) 3 = 0 ∨ 24 ≤ (byteAt (payload.take len) 3).toNat) →
    ∃ t : State, exec (.mgmtPortCell payload len) s = .next t ∧
      Answered s t .near (plainRecord (byteAt (payload.take len) 1)
        (byteAt (payload.take len) 3) 15 0 [])) ∧
  (∀ (payload : List Byte) (len : Nat) (s : State), s.inReset = false → 4 ≤ len → len ≤ 180 →
    byteAt (payload.take len) 0 = 1 →
    (byteAt (payload.take len) 2 = 0 ∨ 3 ≤ (byteAt (payload.take len) 2).toNat) →
    ∃ t : State, exec (.mgmtPortCell payload len) s = .next t ∧
      Answered s t .near ([2, byteAt (payload.take len) 1, byteAt (payload.take len) 3, 2, 0, 2, 0,
        0, 0, 0])) ∧
  (∀ (payload : List Byte) (len : Nat) (s : State), s.inReset = false →
    (len = 0 ∨ 180 < len ∨ (byteAt (payload.take len) 0 = 1 ∧ len < 4) ∨
      byteAt (payload.take len) 0 ≠ 1) →
    exec (.mgmtPortCell payload len) s = .next { s with
      mgmt := { s.mgmt with malformed := satInc s.mgmt.malformed } })

/-- A cell released on flow 0: a COMMAND is carried out with origin FAR whatever its target, a
RESPONSE or NOTICE joins the management port's queue unchanged or is dropped there, and any other
kind, or a COMMAND that ends before byte 3, is counted malformed (R157, R160). -/
def Obligations.FlowZeroCellByItsKind : Prop :=
  ∀ (s : State) (cell : CellData),
    (byteAt cell.record 0 = 1 → 4 ≤ cell.len →
      s.flow0Cell cell = s.carryOutRecord .far cell.record) ∧
    (byteAt cell.record 0 = 1 → cell.len < 4 →
      s.flow0Cell cell = { s with mgmt := { s.mgmt with malformed := satInc s.mgmt.malformed } }) ∧
    (byteAt cell.record 0 = 2 ∨ byteAt cell.record 0 = 3 → s.mgmt.portQueue.length < 16 →
      s.flow0Cell cell = { s with
        mgmt := { s.mgmt with portQueue := s.mgmt.portQueue ++ [cell] } }) ∧
    (byteAt cell.record 0 = 2 → 16 ≤ s.mgmt.portQueue.length →
      s.flow0Cell cell = { s with
        mgmt := { s.mgmt with portDrops := satInc s.mgmt.portDrops }
        events := s.events.raise .mgmtDrop (.dropped .port .response) }) ∧
    (byteAt cell.record 0 = 3 → 16 ≤ s.mgmt.portQueue.length →
      s.flow0Cell cell = { s with
        mgmt := { s.mgmt with portDrops := satInc s.mgmt.portDrops }
        events := s.events.raise .mgmtDrop (.dropped .port .notice) }) ∧
    (byteAt cell.record 0 = 0 ∨ 4 ≤ (byteAt cell.record 0).toNat →
      s.flow0Cell cell = { s with mgmt := { s.mgmt with malformed := satInc s.mgmt.malformed } })

/-! ### Reception -/

/-- HUNT_CANDIDATE_FOUND completes in HUNT: a position whose twelve bytes pass the framing test
becomes the cell boundary and begins CONFIRM with count 0; any other is passed over uncounted. A
position that the search has passed, or one told outside HUNT, changes nothing. A cell taken in
CONFIRM advances the count, reaches ALIGNED at 3, or returns to HUNT one byte past its first, the
bad-header count kept (R80, R81, R82, R91). The numbers of the lane's bytes are the model's own (log
entry 14). -/
def Obligations.HuntAndConfirmFindCells : Prop :=
  (∀ (b : Bearer) (position : Nat) (header : List Byte) (s : State), s.inReset = false →
    (s.rx b).state = .hunt → (s.rx b).searchFrom ≤ position →
    exec (.huntCandidateFound b position header) s = .next (s.withRx b
      (if framingTest header = true then
        { s.rx b with state := .confirm, boundary := some position, atFoundCell := true,
                      confirmCount := 0, arrived := max (s.rx b).arrived (position + 12) }
      else { s.rx b with searchFrom := position + 1
                         arrived := max (s.rx b).arrived (position + 12) }))) ∧
  (∀ (b : Bearer) (position : Nat) (header : List Byte) (s : State),
    (s.rx b).state ≠ .hunt ∨ position < (s.rx b).searchFrom →
    exec (.huntCandidateFound b position header) s = .next s) ∧
  (∀ (b : Bearer) (cell : List Byte) (pins : Pins) (s : State), s.inReset = false →
    (s.rx b).state = .confirm →
    exec (.receivedCell b cell pins) s = .next (s.withRx b
      (if framingTest cell = true then
        if 2 ≤ (s.rx b).confirmCount then
          { s.rx b with
            state := .aligned, confirmCount := 3, badRun := 0, atFoundCell := false
            boundary := some ((s.rx b).cellBegin + 192), arrived := (s.rx b).cellBegin + 192 }
        else
          { s.rx b with
            confirmCount := (s.rx b).confirmCount + 1, atFoundCell := false
            boundary := some ((s.rx b).cellBegin + 192), arrived := (s.rx b).cellBegin + 192 }
      else
        { state := .hunt, boundary := none, atFoundCell := false
          searchFrom := (s.rx b).cellBegin + 1, arrived := (s.rx b).cellBegin + 192
          confirmCount := 0, badRun := 0
          badCount := (s.rx b).badCount, markerAbsence := 0, record := none })))

/-- A bad header taken in ALIGNED or TIMED: below the threshold, 4 or under STORM 8, it is counted and
nothing else changes; at the threshold the receiver enters HUNT with its counts and record emptied but
the bad-header count, and one that was TIMED raises DOWN with HEADERS, empties its Marker List and
makes E INVALID (R83, R91, R92, R99, R105). That an expiry which the shorter hold times bring waits
for a step of its own is the model's choice (log entry 2), and so are the numbers of the lane's bytes
(log entry 14). -/
def Obligations.BadHeaderCountsAndHunts : Prop :=
  ∀ (b : Bearer) (cell : List Byte) (pins : Pins) (s : State), s.inReset = false →
    (s.rx b).state = .aligned ∨ (s.rx b).state = .timed → goodHeader cell = none →
    ((s.rx b).badRun + 1 < (if s.strike.storm = true then 8 else 4) →
      ∃ t : State, exec (.receivedCell b cell pins) s = .next t ∧
        t = { s.withRx b { s.rx b with
                boundary := some ((s.rx b).cellBegin + 192), atFoundCell := false
                arrived := (s.rx b).cellBegin + 192
                badCount := satInc (s.rx b).badCount, badRun := (s.rx b).badRun + 1 } with
              occasion := s.occasion + 1 }) ∧
    ((if s.strike.storm = true then 8 else 4) ≤ (s.rx b).badRun + 1 →
      ∃ t : State, exec (.receivedCell b cell pins) s = .next t ∧
        t.rx b = { Receiver.powerOn with
          badCount := satInc (s.rx b).badCount, searchFrom := (s.rx b).cellBegin + 192
          arrived := (s.rx b).cellBegin + 192 } ∧
        t.rx (otherBearer b) = s.rx (otherBearer b) ∧
        ((s.rx b).state = .timed →
          t.events = s.events.raise (downEvent b) (.wayOut .headers) ∧
          t.skew.list b = [] ∧ t.skew.valid = false ∧ t.skew.j = 0 ∧
          t.skew.list (otherBearer b) = s.skew.list (otherBearer b)) ∧
        ((s.rx b).state = .aligned → t.events = s.events ∧ t.skew = s.skew ∧ t.clock = s.clock) ∧
        t.merge = s.merge ∧ t.mgmt = s.mgmt ∧ t.clock.time = s.clock.time)

/-- RECEIVED_CELL in ALIGNED or TIMED completes for an idle cell and for a data cell of a flow that is
not received here: the bad-header run ends and the boundary moves on; the idle cell is dropped, and
the data cell only adds one to the unrouted-arrival count (R79, R83, R85, R113). -/
def Obligations.IdleAndUnroutedCellsAreDropped : Prop :=
  ∀ (b : Bearer) (cell : List Byte) (pins : Pins) (s : State), s.inReset = false →
    (s.rx b).state = .aligned ∨ (s.rx b).state = .timed →
    (goodHeader cell = some .idle →
      exec (.receivedCell b cell pins) s = .next { s.withRx b { s.rx b with
        boundary := some ((s.rx b).cellBegin + 192), atFoundCell := false, badRun := 0
        arrived := (s.rx b).cellBegin + 192 } with
          occasion := s.occasion + 1 }) ∧
    (∀ (f : Flow) (q : Seq) (len : Nat), goodHeader cell = some (.data f q len) → f ≠ 0 →
      (s.activeEntry f).inbound = none →
      exec (.receivedCell b cell pins) s = .next { s.withRx b { s.rx b with
        boundary := some ((s.rx b).cellBegin + 192), atFoundCell := false, badRun := 0
        arrived := (s.rx b).cellBegin + 192 } with
          merge := { s.merge with unrouted := satInc s.merge.unrouted }
          occasion := s.occasion + 1 })

/-- The 192 bytes a transmitter sends for a data cell that carries N of a RUNNING window with nothing
held, taken by a receiver in ALIGNED or TIMED, release the cell at once to the flow's tributary: N
moves on by one, the stale run ends, the first count of the bearer rises, the egress FIFO has the cell
at its tail, and nothing else changes (R86, R116, R125, R127, R144). -/
def Obligations.DataCellReleasedInOrder : Prop :=
  ∀ (b : Bearer) (f : Flow) (x : EntryFields) (n : Trib) (data : CellData) (pins : Pins)
    (s : State), s.inReset = false →
    (s.rx b).state = .aligned ∨ (s.rx b).state = .timed →
    f ≠ 0 → s.activeEntry f = .used .inbound x → x.endpoint = .trib n →
    data.payload.length = 180 → 1 ≤ data.len → data.len ≤ 180 →
    (s.merge.window.read f).running = true → (s.merge.window.read f).held = [] →
    (s.egress.fifo.read n).length < 64 →
    exec (.receivedCell b (dataCellBytes f (s.merge.window.read f).next data) pins) s =
      .next { s.withRx b { s.rx b with
        boundary := some ((s.rx b).cellBegin + 192), atFoundCell := false, badRun := 0
        arrived := (s.rx b).cellBegin + 192 } with
          merge := { s.merge with
            window := s.merge.window.write f
              ⟨true, (s.merge.window.read f).next + 1, [], 0⟩
            counts := s.merge.counts.write f ((s.merge.counts.read f).released b) }
          egress := { s.egress with
            fifo := s.egress.fifo.write n (s.egress.fifo.read n ++ [.cell data]) }
          occasion := s.occasion + 1 }

/-- A good marker taken in ALIGNED, in the TRUCK role, makes its receiver TIMED: its record is the
marker's with the link time it was taken at, UP is raised with its superframe number, the Radio
Planner's marker absence is 0, the Skew Unit's list gains the marker, and link time stands (R4, R84,
R87, R88, R89, R97). -/
def Obligations.GoodMarkerMakesTimed : Prop :=
  ∀ (b : Bearer) (m : Marker) (pins : Pins) (s : State), s.inReset = false → s.role = .truck →
    (s.rx b).state = .aligned → s.timed (otherBearer b) = false → s.skew.adjustment = none →
    ∃ t : State, exec (.receivedCell b (markerCellBytes m) pins) s = .next t ∧
      t.rx b = { s.rx b with
        state := .timed, markerAbsence := 0, badRun := 0, atFoundCell := false
        boundary := some ((s.rx b).cellBegin + 192), arrived := (s.rx b).cellBegin + 192
        record := some ⟨m.sf, s.clock.time, m.fibreTimed, m.radioTimed, m.grade⟩ } ∧
      t.rx (otherBearer b) = s.rx (otherBearer b) ∧
      t.skew = s.skew.withList b (appendEntry (s.skew.list b) ⟨m.sf, s.clock.time, false⟩) ∧
      t.events.event.read (upEvent b).num = EventState.raised (.superframe m.sf) ∧
      t.planner.markerAbsence = 0 ∧ t.planner.grade = s.planner.grade ∧
      t.clock = s.clock ∧ t.merge = s.merge ∧ t.egress = s.egress ∧ t.mgmt = s.mgmt

/-- In the MAST role, a marker of the source bearer, fibre or radio, whose expected position P lies
−768..767 slots from link time, agrees: link time becomes P, the disagreement count 0, the record is
the marker's, and the Skew Unit has taken the marker at its stamp and moved with link time, whichever
of the two blocks took it first. A move that enters no slot 0 leaves the tables, the windows, the
FIFOs and the management as they were; a forward move over slot 0 starts its superframe there and
executes a swap pending for it (R11, R12, R13, R89, R98). With both receivers TIMED it is said where
no cell is held. The pending adjustment is absent between steps (StepKeepsRanges). That an expiry
found at the landing waits for a step of its own is the model's choice (log entry 2). -/
def Obligations.SourceMarkerMovesLinkTime : Prop :=
  ∀ (b : Bearer) (m : Marker) (pins : Pins) (s : State), s.settled → s.role = .mast →
    s.sourceChosen → s.clock.source = some b → s.skew.adjustment = none →
    (s.timed (otherBearer b) = false ∨ ∀ f : Flow, (s.merge.window.read f).held = []) →
    let offset : Int := match b with
      | .fibre => 0
      | .radio => s.clock.radioOffset.getD 0
    let p := LinkTime.advance ⟨m.sf, 1⟩ (-offset)
    let δ := difference p s.clock.time
    let starts := 0 < δ ∧ p.sf ≠ s.clock.time.sf ∧ p.sf ≠ s.clock.lastStarted
    δ ≤ 767 → -768 ≤ δ →
    (¬starts → s.strike.strikesOf pins = (false, false) →
      ∃ t : State, exec (.receivedCell b (markerCellBytes m) pins) s = .next t ∧
        t.clock = { s.clock with
          time := p, disagreements := 0, radioOffset := t.clock.radioOffset } ∧
        (s.timed (otherBearer b) = false → t.clock.radioOffset = s.clock.radioOffset) ∧
        (t.rx b).record = some ⟨m.sf, s.clock.time, m.fibreTimed, m.radioTimed, m.grade⟩ ∧
        t.skew = (s.skewMarker b m.sf s.clock.time).skew.move δ ∧
        t.table = s.table ∧ t.merge = s.merge ∧ t.egress = s.egress ∧ t.mgmt = s.mgmt) ∧
    (starts → s.rangesKept → s.quietStart pins →
      ∃ t : State, exec (.receivedCell b (markerCellBytes m) pins) s = .next t ∧
        t.clock = { s.clock with
          time := p, lastStarted := p.sf, disagreements := 0
          radioOffset := t.clock.radioOffset } ∧
        (t.rx b).record = some ⟨m.sf, s.clock.time, m.fibreTimed, m.radioTimed, m.grade⟩ ∧
        t.skew = (s.skewMarker b m.sf s.clock.time).skew.move δ ∧
        t.table = (if s.table.pendingSwap = some p.sf then s.table.swapped else s.table) ∧
        t.egress = s.egress)

/-- In the MAST role, a marker of the source bearer, fibre or radio, whose expected position P lies
further from link time disagrees. The first counts one and moves link time by r, the slot difference
folded to −768..767, to P's slot; a forward move over slot 0 starts its superframe there; no TIME-STEP
is raised (R12, R13, R14). A second in succession steps the clock: link time is P, its number the last
started, the count 0, TIME-STEP tells the old and new numbers, and no superframe starts (R14, R15). A
pending swap whose target is among the superframes stepped over executes at the step, with SWAP-DONE
and the plan computed; any other stays pending (R35). With both receivers TIMED it is said where no
cell is held. That an expiry found at the landing waits for a step of its own is the model's choice
(log entry 2). -/
def Obligations.SecondDisagreementSteps : Prop :=
  ∀ (b : Bearer) (m : Marker) (pins : Pins) (s : State), s.settled → s.role = .mast →
    s.sourceChosen → s.clock.source = some b → s.skew.adjustment = none →
    (s.timed (otherBearer b) = false ∨ ∀ f : Flow, (s.merge.window.read f).held = []) →
    let offset : Int := match b with
      | .fibre => 0
      | .radio => s.clock.radioOffset.getD 0
    let p := LinkTime.advance ⟨m.sf, 1⟩ (-offset)
    (difference p s.clock.time < -768 ∨ 767 < difference p s.clock.time) →
    (∀ r : Int, -768 ≤ r → r ≤ 767 →
      (∃ k : Int, (p.slot.val : Int) - s.clock.time.slot.val = r + 1536 * k) →
      let q := s.clock.time.advance r
      let starts := 0 < r ∧ q.sf ≠ s.clock.time.sf ∧ q.sf ≠ s.clock.lastStarted
      s.clock.disagreements = 0 →
      (¬starts → s.strike.strikesOf pins = (false, false) →
        ∃ t : State, exec (.receivedCell b (markerCellBytes m) pins) s = .next t ∧
          t.clock = { s.clock with
            time := q, disagreements := 1, radioOffset := t.clock.radioOffset } ∧
          t.table = s.table ∧ t.batch = s.batch ∧ t.ingress = s.ingress ∧
          t.merge = s.merge ∧ t.egress = s.egress ∧ t.mgmt = s.mgmt ∧
          t.events.event.read EventId.timeStep.num =
            s.events.event.read EventId.timeStep.num) ∧
      (starts → s.rangesKept → s.quietStart pins →
        ∃ t : State, exec (.receivedCell b (markerCellBytes m) pins) s = .next t ∧
          t.clock = { s.clock with
            time := q, lastStarted := q.sf, disagreements := 1
            radioOffset := t.clock.radioOffset } ∧
          t.table = (if s.table.pendingSwap = some q.sf then s.table.swapped else s.table) ∧
          (t.events.event.read EventId.timeStep.num).flag =
            (s.events.event.read EventId.timeStep.num).flag ∧
          (t.events.event.read EventId.timeStep.num).detail =
            (s.events.event.read EventId.timeStep.num).detail)) ∧
    (s.clock.disagreements = 1 → s.strike.strikesOf pins = (false, false) →
      let passed (x : Superframe) := 1 ≤ (x - s.clock.time.sf).toNat ∧
        (x - s.clock.time.sf).toNat ≤ (p.sf - s.clock.time.sf).toNat
      ∃ t : State, exec (.receivedCell b (markerCellBytes m) pins) s = .next t ∧
        t.clock = { s.clock with
          time := p, lastStarted := p.sf, disagreements := 0
          radioOffset := t.clock.radioOffset } ∧
        t.events.event.read EventId.timeStep.num =
          EventState.raised (.step s.clock.time.sf p.sf) ∧
        t.events.routineCount = s.events.routineCount ∧
        t.egress = s.egress ∧ t.mgmt = s.mgmt ∧ t.ingress = s.ingress ∧
        ((∀ x : Superframe, s.table.pendingSwap = some x → ¬passed x) →
          t.table = s.table ∧ t.merge = s.merge ∧ t.batch = s.batch) ∧
        (∀ x : Superframe, s.table.pendingSwap = some x → passed x →
          t.table = { s.table with active := s.table.active.other, pendingSwap := none } ∧
          t.events.event.read EventId.swapDone.num = EventState.raised (.superframe x) ∧
          t.planner.compute t.table.activeBank = t.planner))

/-- What a transmitter sends, a receiver reads: the 192 bytes of a data cell, a marker and an idle
cell pass the framing test and the content test and say what was put in (R63, R80, R183, R184). -/
def Obligations.SentCellReadsBack : Prop :=
  (∀ (f : Flow) (q : Seq) (data : CellData), data.payload.length = 180 → 1 ≤ data.len →
    data.len ≤ 180 →
    (dataCellBytes f q data).length = 192 ∧
    goodHeader (dataCellBytes f q data) = some (.data f q data.len) ∧
    cellPayload (dataCellBytes f q data) = data.payload) ∧
  (∀ m : Marker, (markerCellBytes m).length = 192 ∧
    goodHeader (markerCellBytes m) = some (.marker m.sf m.fibreTimed m.radioTimed m.grade)) ∧
  idleCellBytes.length = 192 ∧ goodHeader idleCellBytes = some .idle

/-- The tally cell that the Batch Unit forms, taken by a Tally Unit, gives it the lamp states of the
Tally Source, restarts the timer and counts one (R50, R149, R183). -/
def Obligations.TallyCellCarriesTheSource : Prop :=
  ∀ (s : State) (u : TallyUnit) (tallyLoss : Nat),
    let t := u.takeCell s.tallyCell.payload tallyLoss
    s.tallyCell.len = 8 ∧ s.tallyCell.payload.length = 180 ∧
    (∀ n : Lamp, t.received.read n = s.batch.tallySource.read n) ∧
    t.timer = .running tallyLoss ∧ t.receivedCount = satInc u.receivedCount ∧
    t.overrideMask = u.overrideMask ∧ t.overrideStates = u.overrideStates

/-! ### Skew, hold time and the merge -/

/-- A skew sample of −8191..8191: the first while E is INVALID is taken whole, with J 0; each later
one sets J from its distance to the old E and moves E by floor(d / 8); either way the Radio Offset is
−round(E / 16), the holds are judged by the new hold times, and nothing else changes (R11, R102, R103,
R108, R123). That an expiry found is kept for a step of its own is the model's choice (log entry 2).
-/
def Obligations.SkewSampleUpdatesEAndJ : Prop :=
  ∀ (s : State) (sample : Int), -8191 ≤ sample → sample ≤ 8191 →
    (s.skew.valid = false →
      let t := { s with
        skew := { s.skew with valid := true, e := 16 * sample, j := 0 }
        clock := { s.clock with radioOffset := some (-sample) } }
      s.skewSample sample = { t with expired := Tab.build t.holdExpired }) ∧
    (s.skew.valid = true →
      let d := 16 * sample - s.skew.e
      let e := s.skew.e + d.fdiv 8
      let t := { s with
        skew := { s.skew with e := e, j := max ((d.natAbs + 15) / 16) (s.skew.j - 1) }
        clock := { s.clock with
          radioOffset := some (-(if 0 ≤ e then (e + 8).fdiv 16 else -((8 - e).fdiv 16))) } }
      s.skewSample sample = { t with expired := Tab.build t.holdExpired })

/-- The hold time of a flow: margin and guard for FIBRE and RADIO, the skew term and J besides for the
other protections, clamped to 4..12,288; the skew term is ceil(|E| / 16) while E is VALID, and the
guard is the storm guard while STORM is ACTIVE (R106, R107). -/
def Obligations.HoldTimeByProtection : Prop :=
  ∀ (s : State) (x : EntryFields),
    let skewTerm := if s.skew.valid = true then (s.skew.e.natAbs + 15) / 16 else 0
    let guard := if s.strike.storm = true then s.mgmt.settings.stormGuard else 0
    (x.protection = .fibre ∨ x.protection = .radio →
      s.holdTimeOf x = max 4 (min 12288 (x.margin + guard))) ∧
    (x.protection = .both ∨ x.protection = .bothShed ∨ x.protection = .fibreSwitch →
      s.holdTimeOf x = max 4 (min 12288 (skewTerm + s.skew.j + x.margin + guard))) ∧
    4 ≤ s.holdTimeOf x ∧ s.holdTimeOf x ≤ 12288

/-- The five bands of an arrival's distance, of which each distance 0..65535 is in exactly one (R115),
and what an arrival in each does, its stale run with it. At an UNSET window it is released and N is
after it (R114). Expected, it is released with the run of held cells consecutive to it (R116). Ahead,
a sequence held already is redundant, a cell that finds no buffer is starved with POOL-EMPTY, and any
other is held in the buffer on top of the stack, a window that this fills being released by force
(R117, R118, R129). Stale, it is discarded, and the sixteenth in a row flushes the window with
WINDOW-JUMP (R120, R130). Behind by up to 8192, it is discarded as redundant (R121). Only a stale
arrival lengthens the stale run, and any other ends it. -/
def Obligations.BandsOfAnArrival : Prop :=
  (∀ depth d : Nat, 4 ≤ depth → depth ≤ 1024 → d ≤ 65535 →
    (bandOf depth d = .expected ↔ d = 0) ∧
    (bandOf depth d = .ahead ↔ 1 ≤ d ∧ d ≤ depth - 1) ∧
    (bandOf depth d = .jump ↔ depth ≤ d ∧ d ≤ 32767) ∧
    (bandOf depth d = .stale ↔ 32768 ≤ d ∧ d ≤ 57343) ∧
    (bandOf depth d = .behind ↔ 57344 ≤ d ∧ d ≤ 65535)) ∧
  ∀ (m : MergeTurn) (f : Flow) (rule : FlowRule) (a : Arrival), 4 ≤ rule.depth →
    rule.depth ≤ 1024 →
    let d := m.window.distance a.sequence
    (m.window.running = false →
      m.arrive f rule a = ({ m with
        window := { m.window with running := true, next := a.sequence + 1, staleRun := 0 }
        counts := m.counts.released a.bearer
        out := m.out ++ [.cell a.data] }, none)) ∧
    (m.window.running = true → d = 0 → ∀ run rest : List HeldRecord,
      m.window.held = run ++ rest →
      (∀ (i : Nat) (r : HeldRecord), run[i]? = some r →
        r.sequence = a.sequence + 1 + BitVec.ofNat 16 i) →
      (∀ r : HeldRecord, rest.head? = some r →
        r.sequence ≠ a.sequence + 1 + BitVec.ofNat 16 run.length) →
      m.arrive f rule a = ({ m with
        window := { m.window with
          next := a.sequence + 1 + BitVec.ofNat 16 run.length, held := rest, staleRun := 0 }
        counts := run.foldl (fun c r => c.released r.bearer) (m.counts.released a.bearer)
        free := (run.map HeldRecord.buffer).reverse ++ m.free
        out := m.out ++ [.cell a.data] ++
          run.map fun r => .cell (poolRead m.pool r.buffer.val) }, none)) ∧
    (m.window.running = true → 1 ≤ d → d ≤ rule.depth - 1 →
      ((∃ r ∈ m.window.held, r.sequence = a.sequence) →
        m.arrive f rule a = ({ m with
          window := { m.window with staleRun := 0 }
          counts := { m.counts with redundant := satInc m.counts.redundant } }, none)) ∧
      ((∀ r ∈ m.window.held, r.sequence ≠ a.sequence) →
        (m.free = [] → m.arrive f rule a = ({ m with
          window := { m.window with staleRun := 0 }
          counts := { m.counts with starved := satInc m.counts.starved } },
          some (.poolEmpty, .flow f))) ∧
        (∀ (b : BufferNo) (rest : List BufferNo), m.free = b :: rest →
          ∃ held : List HeldRecord,
            held.Perm (⟨a.sequence, b, a.stamp, a.bearer⟩ :: m.window.held) ∧
            ((m.window.held.map fun r => m.window.distance r.sequence).Pairwise (· < ·) →
              (held.map fun r => m.window.distance r.sequence).Pairwise (· < ·)) ∧
            let t := { m with
              window := { m.window with held := held, staleRun := 0 }
              pool := poolWrite m.pool b.val a.data
              free := rest }
            m.arrive f rule a =
              (if rule.depth ≤ m.window.held.length + 2 then t.forcedRelease rule else t,
                none)))) ∧
    (m.window.running = true → rule.depth ≤ d → d ≤ 32767 →
      (m.arrive f rule a).1.window.staleRun = 0) ∧
    (m.window.running = true → 32768 ≤ d → d ≤ 57343 →
      (m.window.staleRun + 1 < 16 → m.arrive f rule a = ({ m with
        window := { m.window with staleRun := m.window.staleRun + 1 }
        counts := { m.counts with stale := satInc m.counts.stale } }, none)) ∧
      (16 ≤ m.window.staleRun + 1 → m.arrive f rule a = ({ m with
        window := { m.window with running := false, held := [], staleRun := 0 }
        counts := { m.counts with
          stale := satInc m.counts.stale
          flushed := satAdd m.counts.flushed m.window.held.length
          staleFlush := satInc m.counts.staleFlush }
        free := (m.window.held.map HeldRecord.buffer).reverse ++ m.free },
        some (.windowJump, .jump f .stale)))) ∧
    (m.window.running = true → 57344 ≤ d →
      m.arrive f rule a = ({ m with
        window := { m.window with staleRun := 0 }
        counts := { m.counts with redundant := satInc m.counts.redundant } }, none))

/-- A jump arrival at distance d declares lost exactly d minus the number of cells held, releases
those cells and its own, leaves N after it with nothing held, and returns every buffer (R119, R126).
-/
def Obligations.JumpLosesWhatWasNotHeld : Prop :=
  ∀ (m : MergeTurn) (f : Flow) (x : EntryFields) (a : Arrival),
    m.window.running = true → m.window.lawful (some x) → 1 ≤ x.depth →
    x.depth ≤ m.window.distance a.sequence → m.window.distance a.sequence ≤ 32767 →
    let k := m.window.distance a.sequence - m.window.held.length
    ∃ t : MergeTurn, m.arrive f x.rule a = (t, some (.windowJump, .jump f .jump)) ∧
      t.window = ⟨true, a.sequence + 1, [], 0⟩ ∧
      t.counts.lost = satAdd m.counts.lost k ∧
      t.counts.fill = (if x.cls.fills = true then satAdd m.counts.fill k else m.counts.fill) ∧
      t.counts.jump = satInc m.counts.jump ∧
      t.free = (m.window.held.map HeldRecord.buffer).reverse ++ m.free ∧
      t.out.length = m.out.length + m.window.held.length + 1 +
        (if x.cls.fills = true then k else 0) ∧
      t.pool = m.pool

/-- The forced release of a lawful window that holds depth − 1 cells: one sequence is lost, all held
cells are released and their buffers returned in order, and N is the old N plus depth (R118). -/
def Obligations.ForcedReleaseEmptiesAFullWindow : Prop :=
  ∀ (m : MergeTurn) (x : EntryFields), m.window.lawful (some x) → 2 ≤ x.depth →
    x.depth ≤ 1024 → m.window.held.length = x.depth - 1 →
    let t := m.forcedRelease x.rule
    t.window.next = m.window.next + BitVec.ofNat 16 x.depth ∧ t.window.held = [] ∧
    t.window.running = m.window.running ∧
    t.counts.lost = satInc m.counts.lost ∧ t.counts.forced = satInc m.counts.forced ∧
    t.free = (m.window.held.map HeldRecord.buffer).reverse ++ m.free ∧
    t.out.length = m.out.length + m.window.held.length + (if x.cls.fills = true then 1 else 0)

/-- HOLD_EXPIRY completes where a flow's lowest held cell has waited its hold time, or was found to
have whatever its hold time has become since, said for one held cell and a tributary with room: the
gap before it is declared lost, with loss fills for PICTURE and SOUND, the cell is released after
them, its buffer is on top of the free stack and N is after it. A hold that has not expired is left
(R123, R124, R126, R127). That a found expiry waits for this row, a step of its own, is the model's
choice (log entry 2). -/
def Obligations.HoldExpiryEndsTheGap : Prop :=
  (∀ (f : Flow) (x : EntryFields) (n : Trib) (r : HeldRecord) (s : State), s.inReset = false →
    f ≠ 0 → s.activeEntry f = .used .inbound x → x.endpoint = .trib n →
    (s.merge.window.read f).running = true → (s.merge.window.read f).held = [r] →
    r.sequence ≠ (s.merge.window.read f).next →
    s.holdTimeOf x ≤ age s.clock.time r.stamp ∨ s.expired.read f = true →
    let w := s.merge.window.read f
    let c := s.merge.counts.read f
    let gap := w.distance r.sequence
    let fills := if x.cls.fills = true then gap else 0
    (s.egress.fifo.read n).length + fills + 1 ≤ 64 →
    exec (.holdExpiry f) s = .next { s with
      merge := { s.merge with
        window := s.merge.window.write f { w with next := r.sequence + 1, held := [] }
        counts := s.merge.counts.write f (MergeCounts.released
          { c with
            lost := satAdd c.lost gap
            fill := if x.cls.fills = true then satAdd c.fill gap else c.fill } r.bearer)
        free := r.buffer :: s.merge.free }
      egress := { s.egress with
        fifo := s.egress.fifo.write n (s.egress.fifo.read n ++ List.replicate fills .fill ++
          [.cell (poolRead s.merge.pool r.buffer.val)]) }
      expired := s.expired.write f false }) ∧
  (∀ (f : Flow) (s : State), s.expired.read f = false →
    (∀ (x : EntryFields) (r : HeldRecord), s.receiving f = some x →
      (s.merge.window.read f).running = true → (s.merge.window.read f).held.head? = some r →
      age s.clock.time r.stamp < s.holdTimeOf x) →
    exec (.holdExpiry f) s = .next s)

/-! ### Responses and reading commands -/

/-- IDENTIFY from either origin completes: it is answered OK with part code 4120, revision code 1, the
role, 64 flows, 8 tributaries, 16384 buffers, 1536 fibre slots and grade 15, and changes nothing else
(R164). -/
def Obligations.IdentifyReturnsTheIdentity : Prop :=
  ∀ (o : Origin) (tag : Byte) (s : State), s.inReset = false →
    ∃ t : State, exec (.identify o tag) s = .next t ∧
      Answered s t o (okRecord tag 1 [16, 24, 1, if s.role = .mast then 0 else 1, 64, 8, 64, 0, 6, 0,
        15])

/-- The reading commands complete from either origin and change nothing but the queue of the response:
READ-ENTRY returns the entry and the active bank, CHECK-SHADOW the demand and the numbers of entries
when the check passes, READ-LINK 119 bytes, READ-SETTINGS 80 and READ-EVENTS 102 (R25, R30, R165,
R167, R178, R187). -/
def Obligations.ReadingCommandsOnlyAnswer : Prop :=
  ∀ (o : Origin) (tag : Byte) (s : State), s.inReset = false →
    (∀ (bank : BankNo) (f : Flow), ∃ t : State,
      exec (.readEntry o tag bank.number (BitVec.ofNat 8 f.val)) s = .next t ∧
      Answered s t o (okRecord tag 2 ([bank.number, BitVec.ofNat 8 f.val, s.table.active.number] ++
        ((s.table.bank bank).read f).record))) ∧
    (consistencyCheck s.table.shadowBank = .pass → ∃ t : State,
      exec (.checkShadow o tag) s = .next t ∧
      Answered s t o (okRecord tag 6 (bytesOf 2 (fibreDemand s.table.shadowBank) ++
        [BitVec.ofNat 8 (countEntries s.table.shadowBank fun e => e.outbound.isSome),
         BitVec.ofNat 8 (countEntries s.table.shadowBank fun e => e.inbound.isSome)]))) ∧
    (s.linkRecord.length = 119 ∧ ∃ t : State, exec (.readLink o tag) s = .next t ∧
      Answered s t o (okRecord tag 11 s.linkRecord)) ∧
    (s.mgmt.settingsBytes.length = 80 ∧ ∃ t : State, exec (.readSettings o tag) s = .next t ∧
      Answered s t o (okRecord tag 13 s.mgmt.settingsBytes)) ∧
    ∃ (results : List Byte) (t : State), results.length = 102 ∧
      results.drop 100 = bytesOf 2 s.events.routineCount ∧
      (∀ e : Fin 20, (results.drop (5 * e.val)).take 5 = s.eventBytes e) ∧
      exec (.readEvents o tag) s = .next t ∧ Answered s t o (okRecord tag 20 results)

/-- READ-FLOW-COUNTS and READ-BEARER complete from either origin: the response carries the 88-byte
count record, or the 17 bytes of the receiver's state, as they stood before any zeroing; with clear
YES every block's counts of the flow, or the bad-header count, are then 0 and nothing else is zeroed.
A flow above 63 is refused RANGE, and an undefined bearer or clear FIELD (R94, R132, R166, R167, R186,
R187). -/
def Obligations.ReadAndClearCounts : Prop :=
  ∀ (o : Origin) (tag : Byte) (s : State), s.inReset = false →
    (∀ f : Flow, (s.countRecord f).length = 88 ∧
      (∃ t : State, exec (.readFlowCounts o tag (BitVec.ofNat 8 f.val) 0) s = .next t ∧
        Answered s t o (okRecord tag 9 (s.countRecord f))) ∧
      ∃ t : State, exec (.readFlowCounts o tag (BitVec.ofNat 8 f.val) 1) s = .next t ∧
        Answered { s with
          ingress := { s.ingress with dropCount := s.ingress.dropCount.write f 0 }
          batch := { s.batch with
            flow := s.batch.flow.write f { s.batch.flow.read f with batched := 0 } }
          fibreTx := { s.fibreTx with
            sentCount := s.fibreTx.sentCount.write f 0
            skippedCount := s.fibreTx.skippedCount.write f 0 }
          radioTx := { s.radioTx with
            sentCount := s.radioTx.sentCount.write f 0
            skippedCount := s.radioTx.skippedCount.write f 0 }
          merge := { s.merge with
            counts := s.merge.counts.write f ⟨0, 0, 0, 0, 0, 0, 0, 0, 0, 0, 0⟩ }
          egress := { s.egress with dropCount := s.egress.dropCount.write f 0 } } t o
          (okRecord tag 9 (s.countRecord f))) ∧
    (∀ b : Bearer, ((s.rx b).resultBytes b).length = 17 ∧
      (∃ t : State, exec (.readBearer o tag (bearerNumber b) 0) s = .next t ∧
        Answered s t o (okRecord tag 10 ((s.rx b).resultBytes b))) ∧
      ∃ t : State, exec (.readBearer o tag (bearerNumber b) 1) s = .next t ∧
        Answered (s.withRx b { s.rx b with badCount := 0 }) t o
          (okRecord tag 10 ((s.rx b).resultBytes b))) ∧
    (∀ flow clear : Byte, 63 < flow.toNat → clear.toNat ≤ 1 →
      ∃ t : State, exec (.readFlowCounts .near tag flow clear) s = .next t ∧
        Answered s t .near [2, tag, 9, 3, 0, 4, 0, 0, 0, 0]) ∧
    (∀ flow clear : Byte, flow.toNat ≤ 63 → 1 < clear.toNat →
      ∃ t : State, exec (.readFlowCounts .near tag flow clear) s = .next t ∧
        Answered s t .near [2, tag, 9, 2, 0, 5, 0, 0, 0, 0]) ∧
    (∀ bearer clear : Byte, 1 < bearer.toNat → clear.toNat ≤ 1 →
      ∃ t : State, exec (.readBearer .near tag bearer clear) s = .next t ∧
        Answered s t .near [2, tag, 10, 2, 0, 4, 0, 0, 0, 0]) ∧
    ∀ (b : Bearer) (clear : Byte), 1 < clear.toNat →
      ∃ t : State, exec (.readBearer .near tag (bearerNumber b) clear) s = .next t ∧
        Answered s t .near [2, tag, 10, 2, 0, 5, 0, 0, 0, 0]

/-! ### The Flow Table -/

/-- WRITE-ENTRY of an entry 1..63 of the shadow bank with no swap pending and its enumerated fields
defined completes: the numbers are brought into range, a margin or depth of 0 taking its written
default, the entry is stored, and the response carries it with CLAMPED when another number changed;
the other entries stand (R18, R21, R22). From the far end it needs the bar CLEAR and the entry in the
window (R161). -/
def Obligations.WriteEntryStoresInTheShadow : Prop :=
  ∀ (o : Origin) (tag : Byte) (f : Flow) (raw : RawEntry) (d : Direction) (ep : Endpoint)
    (c : FlowClass) (p : Protection) (s : State), s.inReset = false → f ≠ 0 →
    s.table.pendingSwap = none →
    (o = .far → s.mgmt.bar = false ∧ s.mgmt.windowLow ≤ f.val ∧ f.val ≤ s.mgmt.windowHigh) →
    (raw.state = 1 ∧ d = .outbound ∨ raw.state = 2 ∧ d = .inbound) →
    endpointOperand raw.endpoint = some ep → classOperand raw.cls = some c →
    protectionOperand raw.protection = some p →
    let x : EntryFields :=
      { endpoint := ep, cls := c, protection := p
        rate := max 1 (min 1527 raw.rate.toNat)
        rank := min 15 raw.rank.toNat
        margin := if raw.margin = 0 then 16 else raw.margin.toNat
        depth := if raw.depth = 0 then 256 else max 4 (min 1024 raw.depth.toNat) }
    let clamped := decide (raw.rate = 0 ∨ 1527 < raw.rate.toNat ∨ 15 < raw.rank.toNat ∨
      (raw.depth ≠ 0 ∧ raw.depth.toNat < 4) ∨ 1024 < raw.depth.toNat)
    ∃ t u : State,
      exec (.writeEntry o tag s.table.shadow.number (BitVec.ofNat 8 f.val) raw) s = .next t ∧
      u = s.withTable u.table ∧ u.table.active = s.table.active ∧
      u.table.activeBank = s.table.activeBank ∧ u.table.pendingSwap = none ∧
      u.table.shadowBank.read f = .used d x ∧
      (∀ g : Flow, g ≠ f → u.table.shadowBank.read g = s.table.shadowBank.read g) ∧
      Answered u t o (clampedRecord tag 3 clamped (BitVec.ofNat 8 f.val :: (Entry.used d x).record))

/-- CLEAR-ENTRY of an entry 1..63 of the shadow bank makes it UNUSED, and COPY-ENTRIES copies the
entries of its range but entry 0 from the source bank into the shadow and tells how many, with no swap
pending; each completes and leaves the other entries and the active bank as they stand (R21, R23,
R24). From the far end they need the bar CLEAR and the entries in the window (R161). -/
def Obligations.ClearAndCopyEditTheShadow : Prop :=
  ∀ (o : Origin) (tag : Byte) (s : State), s.inReset = false → s.table.pendingSwap = none →
    (o = .far → s.mgmt.bar = false) →
    (∀ f : Flow, f ≠ 0 →
      (o = .far → s.mgmt.windowLow ≤ f.val ∧ f.val ≤ s.mgmt.windowHigh) →
      ∃ t u : State,
        exec (.clearEntry o tag s.table.shadow.number (BitVec.ofNat 8 f.val)) s = .next t ∧
        u = s.withTable u.table ∧ u.table.active = s.table.active ∧
        u.table.activeBank = s.table.activeBank ∧ u.table.pendingSwap = none ∧
        u.table.shadowBank.read f = .unused ∧
        (∀ g : Flow, g ≠ f → u.table.shadowBank.read g = s.table.shadowBank.read g) ∧
        Answered u t o (okRecord tag 4 [])) ∧
    ∀ (source : BankNo) (first count : Byte), first.toNat ≤ 63 → 1 ≤ count.toNat →
      first.toNat + count.toNat ≤ 64 →
      (o = .far → s.mgmt.windowLow ≤ max 1 first.toNat ∧
        first.toNat + count.toNat - 1 ≤ s.mgmt.windowHigh) →
      ∃ t u : State,
        exec (.copyEntries o tag source.number s.table.shadow.number first count) s = .next t ∧
        u = s.withTable u.table ∧ u.table.active = s.table.active ∧
        u.table.activeBank = s.table.activeBank ∧ u.table.pendingSwap = none ∧
        (∀ g : Flow, u.table.shadowBank.read g =
          if g ≠ 0 ∧ first.toNat ≤ g.val ∧ g.val < first.toNat + count.toNat then
            (s.table.bank source).read g
          else s.table.shadowBank.read g) ∧
        Answered u t o (okRecord tag 5 [if first = 0 then count - 1 else count])

/-- SWAP-AT with no swap pending, a shadow that passes the check and a target 1..2047 superframes
ahead of the last started takes the target and is answered OK with it and that superframe; CANCEL-SWAP
clears a pending swap and is answered OK with its target, or is answered NONE. Each completes and
changes no entry (R32, R33). From the far end they need the bar CLEAR (R161). -/
def Obligations.SwapAtAndCancelSwap : Prop :=
  ∀ (o : Origin) (tag : Byte) (s : State), s.inReset = false →
    (o = .far → s.mgmt.bar = false) →
    (∀ x : BitVec 16, s.table.pendingSwap = none →
      consistencyCheck s.table.shadowBank = .pass →
      1 ≤ (x.truncate 12 - s.clock.lastStarted).toNat →
      (x.truncate 12 - s.clock.lastStarted).toNat ≤ 2047 →
      ∃ t : State, exec (.swapAt o tag x) s = .next t ∧
        Answered (s.withTable { s.table with pendingSwap := some (x.truncate 12) }) t o
          (okRecord tag 7 (bytesOf 2 (x.toNat % 4096) ++ bytesOf 2 s.clock.lastStarted.toNat))) ∧
    (∀ x : Superframe, s.table.pendingSwap = some x →
      ∃ t : State, exec (.cancelSwap o tag) s = .next t ∧
        Answered (s.withTable { s.table with pendingSwap := none }) t o
          (okRecord tag 8 (bytesOf 2 x.toNat))) ∧
    (s.table.pendingSwap = none →
      ∃ t : State, exec (.cancelSwap o tag) s = .next t ∧
        Answered s t o (plainRecord tag 8 1 0 []))

/-- A bank passes the consistency check exactly when no two OUTBOUND and no two INBOUND entries name
one endpoint, the fibre demand is at most 1527, and class TALLY and endpoint TALLY go together in
every entry, entry 0 apart (R26, R27, R28, R29). -/
def Obligations.ConsistencyCheckPasses : Prop :=
  ∀ entries : Tab 64 Entry,
    consistencyCheck entries = .pass ↔
      (∀ (f g : Flow) (d : Direction) (x y : EntryFields), f ≠ 0 → g ≠ 0 → f ≠ g →
        entries.read f = .used d x → entries.read g = .used d y → x.endpoint ≠ y.endpoint) ∧
      fibreDemand entries ≤ 1527 ∧
      (∀ (f : Flow) (d : Direction) (x : EntryFields), f ≠ 0 → entries.read f = .used d x →
        (x.cls = .tally ↔ x.endpoint = .tally))

/-- A flow is continuing when its old and its new entry have one direction, endpoint and depth; with
an entry in use before that does not continue it is ended, and with one in use after that does not
continue it is started (R37). The execution of a swap exchanges the banks, clears the pending swap and
raises SWAP-DONE; a flow 1..63 that starts as an outbound flow has its sequence counter at 0 and any
other keeps it; a flow that ends as an inbound flow has its window flushed and any other keeps it
whole; the tally-loss timer is STOPPED when the new active bank has no INBOUND TALLY entry (R34, R37,
R38, R39, R150). That an expiry which the new margins bring waits for a step of its own (log entry 2),
after the flushes of the swap (log entry 26), is the model's choice. -/
def Obligations.SwapActsFlowByFlow : Prop :=
  (∀ (old new : Tab 64 Entry) (f : Flow),
    let kept (d : Direction) := ∃ x y : EntryFields, old.read f = .used d x ∧
      new.read f = .used d y ∧ x.endpoint = y.endpoint ∧ x.depth = y.depth
    (∀ d : Direction, classifyFlow old new f = .continuing d ↔ kept d) ∧
    (classifyFlow old new f = .idle ↔ old.read f = .unused ∧ new.read f = .unused) ∧
    (∀ d : Direction, (∃ x : EntryFields, old.read f = .used d x) ∧ ¬kept d ↔
      classifyFlow old new f = .ended d ∨ ∃ e, classifyFlow old new f = .endedThenStarted d e) ∧
    (∀ d : Direction, (∃ y : EntryFields, new.read f = .used d y) ∧ ¬kept d ↔
      classifyFlow old new f = .started d ∨ ∃ e, classifyFlow old new f = .endedThenStarted e d) ∧
    ((classifyFlow old new f).startsOutbound = true ↔
      (∃ y : EntryFields, new.read f = .used .outbound y) ∧ ¬kept .outbound) ∧
    ((classifyFlow old new f).endsInbound = true ↔
      (∃ x : EntryFields, old.read f = .used .inbound x) ∧ ¬kept .inbound)) ∧
  ∀ (s : State) (x : Superframe),
    let change := classifyFlow s.table.activeBank s.table.shadowBank
    let t := s.executeSwap x
    t.table.active = s.table.active.other ∧ t.table.bank0 = s.table.bank0 ∧
    t.table.bank1 = s.table.bank1 ∧ t.table.pendingSwap = none ∧
    t.events = s.events.raise .swapDone (.superframe x) ∧
    (∀ f : Flow, (t.batch.flow.read f).sequence =
      if f ≠ 0 ∧ (change f).startsOutbound = true then 0 else (s.batch.flow.read f).sequence) ∧
    (∀ f : Flow, f ≠ 0 → (change f).endsInbound = true →
      t.merge.window.read f =
        ⟨false, (s.merge.window.read f).next, [], 0⟩ ∧
      t.merge.counts.read f = { s.merge.counts.read f with
        flushed := satAdd (s.merge.counts.read f).flushed (s.merge.window.read f).held.length }) ∧
    (∀ f : Flow, (f = 0 ∨ (change f).endsInbound = false) →
      t.merge.window.read f = s.merge.window.read f ∧
      t.merge.counts.read f = s.merge.counts.read f) ∧
    (hasInboundTally s.table.shadowBank = false → t.tally.timer = .stopped) ∧
    (hasInboundTally s.table.shadowBank = true → s.tally.timer = .stopped →
      t.tally.timer = .running s.mgmt.settings.tallyLoss) ∧
    t.tally.received = s.tally.received ∧ t.clock = s.clock ∧ t.egress = s.egress ∧
    t.ingress = s.ingress ∧ t.fibreTx = s.fibreTx

/-! ### Settings, protections, tally, events -/

/-- SET-SETTING of a numeric setting brings the value into range, stores it and is answered OK with
the stored value, CLAMPED when it was out of range; no other setting changes. A changed watermark has
its tributary's hold judged again at once: asserted at the watermark, released at the watermark minus
8, else as it was; a changed storm guard has the waiting holds judged by the new hold times. An
enumerated setting is stored, or refused FIELD when the value is undefined (R44, R108, R123, R161,
R168). It completes from the near end, and from the far end with the bar CLEAR. The numbers of ON and
OFF are the model's reading (log entry 8), and that an expiry found is kept for a step of its own is
its choice (log entry 2). -/
def Obligations.SetSettingClampsAndStores : Prop :=
  ∀ (o : Origin) (tag : Byte) (value : BitVec 16) (s : State), s.inReset = false →
    (o = .far → s.mgmt.bar = false) →
    let storing (st : Settings) : State := { s with mgmt := { s.mgmt with settings := st } }
    (∀ (name low high : Nat) (index : Byte),
      (name, low, high) ∈ [(1, 1, 8), (2, 4, 64), (3, 0, 1023), (4, 1, 255), (5, 10, 1000),
        (7, 16, 1024)] →
      let v := max low (min high value.toNat)
      let stored := storing (s.mgmt.settings.withNumber name v)
      ∃ t : State, exec (.setSetting o tag (BitVec.ofNat 8 name) index value) s = .next t ∧
        Answered (if name = 3 ∧ v ≠ s.mgmt.settings.stormGuard then
            { stored with expired := Tab.build stored.holdExpired }
          else stored) t o
          (clampedRecord tag 12 (decide (value.toNat < low) || decide (high < value.toNat))
            ([BitVec.ofNat 8 name, 0] ++ bytesOf 2 v))) ∧
    (∀ n : Trib,
      let w := max 8 (min 63 value.toNat)
      let count := (s.ingress.fifo.read n).length
      let hold : Bool :=
        if w = s.mgmt.settings.watermark.read n then s.ingress.hold.read n
        else if w ≤ count then true
        else if count + 8 ≤ w then false else s.ingress.hold.read n
      ∃ t u : State, exec (.setSetting o tag 0 (BitVec.ofNat 8 n.val) value) s = .next t ∧
        u = { s with
          mgmt := { s.mgmt with settings := { s.mgmt.settings with
            watermark := s.mgmt.settings.watermark.write n w } }
          ingress := { s.ingress with hold := s.ingress.hold.write n hold } } ∧
        Answered u t o (clampedRecord tag 12
          (decide (value.toNat < 8) || decide (63 < value.toNat))
          ([0, BitVec.ofNat 8 n.val] ++ bytesOf 2 w))) ∧
    (∀ (on : Bool) (index : Byte) (e : Fin 20), value = (if on = true then 0 else 1) →
      let st := s.mgmt.settings
      (∀ (name : Byte) (new : Settings),
        (name = 6 ∧ new = { st with tallyPolicy := if on = true then .hold else .dark }) ∨
        (name = 8 ∧ new = { st with reportEnable := on }) ∨
        (name = 9 ∧ new = { st with reportNear := on }) ∨
        (name = 10 ∧ new = { st with reportFar := on }) →
        ∃ t : State, exec (.setSetting o tag name index value) s = .next t ∧
          Answered (storing new) t o (okRecord tag 12 ([name, 0] ++ bytesOf 2 value.toNat))) ∧
      ∀ (name : Byte) (new : Settings),
        (name = 11 ∧ new = { st with eventEnable := st.eventEnable.write e on }) ∨
        (name = 12 ∧ new = { st with
          eventLevel := st.eventLevel.write e (if on = true then .urgent else .routine) }) →
        ∃ t : State, exec (.setSetting o tag name (BitVec.ofNat 8 e.val) value) s = .next t ∧
          Answered (storing new) t o
            (okRecord tag 12 ([name, BitVec.ofNat 8 e.val] ++ bytesOf 2 value.toNat))) ∧
    ∀ (name index : Byte), 1 < value.toNat →
      (name = 6 ∨ name = 8 ∨ name = 9 ∨ name = 10 ∨
        (name = 11 ∨ name = 12) ∧ index.toNat < 20) →
      ∃ t : State, exec (.setSetting .near tag name index value) s = .next t ∧
        Answered s t .near [2, tag, 12, 2, 0, 6, 0, 0, 0, 0]

/-- The far write protections: SET-BAR from either origin sets the bar; CLEAR-BAR clears it,
FREEZE-WINDOW freezes the window, and SET-WINDOW on an open window stores its bounds brought into
1..63, from the near end; a frozen window is answered FROZEN, and bounds that cross RANGE. Each
completes and changes nothing else (R169, R170, R171). -/
def Obligations.BarWindowAndFreeze : Prop :=
  ∀ (tag : Byte) (s : State), s.inReset = false →
    (∀ o : Origin, ∃ t : State, exec (.setBar o tag) s = .next t ∧
      Answered (s.withMgmt { s.mgmt with bar := true }) t o (okRecord tag 16 [])) ∧
    (∃ t : State, exec (.clearBar .near tag) s = .next t ∧
      Answered (s.withMgmt { s.mgmt with bar := false }) t .near (okRecord tag 17 [])) ∧
    (∃ t : State, exec (.freezeWindow .near tag) s = .next t ∧
      Answered (s.withMgmt { s.mgmt with frozen := true }) t .near (okRecord tag 15 [])) ∧
    ∀ low high : Byte,
      let l := max 1 (min 63 low.toNat)
      let h := max 1 (min 63 high.toNat)
      (s.mgmt.frozen = false → l ≤ h →
        ∃ t : State, exec (.setWindow .near tag low high) s = .next t ∧
          Answered (s.withMgmt { s.mgmt with windowLow := l, windowHigh := h }) t .near
            (clampedRecord tag 14 (decide (l ≠ low.toNat) || decide (h ≠ high.toNat))
              [BitVec.ofNat 8 l, BitVec.ofNat 8 h])) ∧
      (s.mgmt.frozen = true →
        ∃ t : State, exec (.setWindow .near tag low high) s = .next t ∧
          Answered s t .near (plainRecord tag 14 11 0 [])) ∧
      (s.mgmt.frozen = false → h < l →
        ∃ (t : State) (at_ : Byte), exec (.setWindow .near tag low high) s = .next t ∧
          (at_ = 4 ∨ at_ = 5) ∧
          Answered s t .near [2, tag, 14, 3, 0, at_, 0, 0, 0, 0])

/-- A far command that R161 turns away for its origin completes as its refusal: NEAR-ONLY for
SET-WINDOW, FREEZE-WINDOW, CLEAR-BAR and RESET-DATAPATH; BARRED, the bar SET, for a table write, a
swap command or a setting; WINDOW for a table write outside the window. FAR-REFUSED tells it, and
nothing but that and the response changes (R161, R163, R169, R170, R171). -/
def Obligations.FarRefusalChangesNothingElse : Prop :=
  ∀ (tag : Byte) (c : Command) (row : Instr) (status : Status) (s : State), s.inReset = false →
    c.row .far tag = some row →
    ((c.nearOnly = true ∧ status = .nearOnly) ∨
      (c.barred = true ∧ s.mgmt.bar = true ∧ status = .barred) ∨
      (s.mgmt.bar = false ∧ status = .window ∧
        c.windowPasses s.mgmt.windowLow s.mgmt.windowHigh = false)) →
    ∃ t : State, exec row s = .next t ∧
      Answered { s with events := s.events.raise .farRefused (.refused c.number status) } t .far
        (plainRecord tag c.number status.number 0 [])

/-- SET-TALLY with defined states for the lamps of its mask completes from either origin: naming the
source it sets those lamps of the Tally Source; naming the override it makes the mask the override's
and sets those lamps' override states; CLEAR-TALLY-OVERRIDE empties the mask. A lamp is then shown by
its override where the mask names it and by its received state elsewhere; nothing else changes (R51,
R152, R153). -/
def Obligations.TallyCommandsSetTheLamps : Prop :=
  ∀ (o : Origin) (tag mask : Byte) (lamps : Tab 8 Byte) (states : Tab 8 LampState) (s : State),
    s.inReset = false →
    (∀ n : Lamp, mask.getLsbD n.val = true → lamps.read n = (states.read n).number) →
    (∃ t u : State, exec (.setTallySource o tag mask lamps) s = .next t ∧
      u = s.withBatch { s.batch with tallySource := u.batch.tallySource } ∧
      (∀ n : Lamp, u.batch.tallySource.read n =
        if mask.getLsbD n.val = true then states.read n else s.batch.tallySource.read n) ∧
      Answered u t o (okRecord tag 18 [])) ∧
    (∃ t u : State, exec (.setTallyOverride o tag mask lamps) s = .next t ∧
      u = s.withTally { s.tally with
        overrideMask := u.tally.overrideMask, overrideStates := u.tally.overrideStates } ∧
      (∀ n : Lamp, u.tally.overrideMask.read n = mask.getLsbD n.val) ∧
      (∀ n : Lamp, u.tally.overrideStates.read n =
        if mask.getLsbD n.val = true then states.read n else s.tally.overrideStates.read n) ∧
      (∀ n : Lamp, u.tally.shown n =
        if mask.getLsbD n.val = true then states.read n else s.tally.received.read n) ∧
      Answered u t o (okRecord tag 18 [])) ∧
    (∃ t u : State, exec (.clearTallyOverride o tag) s = .next t ∧
      u = s.withTally { s.tally with overrideMask := u.tally.overrideMask } ∧
      (∀ n : Lamp, u.tally.overrideMask.read n = false ∧
        u.tally.shown n = s.tally.received.read n) ∧
      Answered u t o (okRecord tag 19 []))

/-- ACK-EVENTS of events 0..19 completes from either origin: each event named has its flag CLEAR and
is REPORTED with its detail kept, the others stand, and the response carries the flags as they then
are; a set that names a number above 19 is refused with RANGE. FLUSH-TRIBUTARY of a tributary 0..7
completes: both its FIFOs are emptied, uncounted, its hold is released, and the response tells what
they held (R45, R147, R178). -/
def Obligations.AckEventsAndFlushTributary : Prop :=
  ∀ (o : Origin) (tag : Byte) (s : State), s.inReset = false →
    (∀ events : BitVec 24, events.toNat < 2 ^ 20 →
      ∃ t u : State, exec (.ackEvents o tag events) s = .next t ∧
        u = s.withEvents u.events ∧ u.events.routineCount = s.events.routineCount ∧
        (∀ e : Fin 20, u.events.event.read e =
          if events.getLsbD e.val = true then
            { flag := false, detail := (s.events.event.read e).detail, unreported := false }
          else s.events.event.read e) ∧
        ∃ flags : BitVec 24, (∀ e : Fin 20, flags.getLsbD e.val = (u.events.event.read e).flag) ∧
          flags.toNat < 2 ^ 20 ∧ Answered u t o (okRecord tag 21 (bytesOf 3 flags.toNat))) ∧
    (∀ events : BitVec 24, 2 ^ 20 ≤ events.toNat →
      ∃ t : State, exec (.ackEvents .near tag events) s = .next t ∧
        Answered s t .near [2, tag, 21, 3, 0, 4, 0, 0, 0, 0]) ∧
    (∀ n : Trib, ∃ t : State,
      exec (.flushTributary o tag (BitVec.ofNat 8 n.val)) s = .next t ∧
      Answered { s with
        ingress := { s.ingress with
          fifo := s.ingress.fifo.write n [], hold := s.ingress.hold.write n false }
        egress := { s.egress with fifo := s.egress.fifo.write n [] } } t o
        (okRecord tag 22 [BitVec.ofNat 8 n.val, BitVec.ofNat 8 (s.ingress.fifo.read n).length,
          BitVec.ofNat 8 (s.egress.fifo.read n).length]))

/-- RESET-DATAPATH from the near end completes: the reset's OK is the only cell of the management
port's queue, and flow 0's queue, every FIFO, send list and Marker List is empty; receivers are in
HUNT, each that was TIMED having raised DOWN with RESET; every window is UNSET, its held cells counted
flushed, and the free stack is in power-on order; sequences are 0; link time, banks, grade with its
runs, settings, protections, the Strike Monitor and the Tally Unit stand, and so do every event's
flag, detail and mark but those of the DOWNs and of the SHED and RESTORE of a changed plan (R173 and
the rules its table cites). Each search begins with the first byte that arrives after the reset: none
that was told to have arrived, nor one after the cell in progress (R91, R92; the byte numbers are the
model's own and how many had arrived is free, log entry 14). That N is 0 in a window flushed so is the
model's reading (log entry 23), that the turn positions stand its choice (log entry 29). -/
def Obligations.ResetDatapathInEveryBlock : Prop :=
  ∀ (tag : Byte) (s : State), s.inReset = false →
    ∃ (t : State) (c : CellData), exec (.resetDatapath .near tag) s = .next t ∧
      c.record = okRecord tag 23 [] ∧
      t.mgmt = { s.mgmt with portQueue := [c], flow0Queue := [] } ∧
      t.clock.time = s.clock.time ∧ t.clock.lastStarted = s.clock.lastStarted ∧
      t.clock.radioOffset = none ∧ (s.sourceChosen → t.clock.source = none) ∧
      t.table = { s.table with pendingSwap := none } ∧
      (∀ n : Trib, t.ingress.fifo.read n = [] ∧ t.ingress.hold.read n = false ∧
        t.egress.fifo.read n = []) ∧
      t.ingress.dropCount = s.ingress.dropCount ∧ t.egress.dropCount = s.egress.dropCount ∧
      (∀ f : Flow, t.batch.flow.read f =
        { s.batch.flow.read f with sequence := 0, silentRun := 0, silentMark := false }) ∧
      t.batch.tallySource = s.batch.tallySource ∧
      t.fibreTx = { s.fibreTx with sendList := [] } ∧
      t.radioTx = { s.radioTx with sendList := [] } ∧
      t.planner.grade = s.planner.grade ∧ t.planner.awaiting = s.planner.awaiting ∧
      t.planner.farFibre = s.planner.farFibre ∧ t.planner.opposingRun = 0 ∧
      t.planner.markerAbsence = 0 ∧ t.planner.compute t.table.activeBank = t.planner ∧
      t.planner.downRun = s.planner.downRun ∧ t.planner.upRun = s.planner.upRun ∧
      t.planner.upLeast = s.planner.upLeast ∧
      (∀ e : Fin 20, (∀ b : Bearer, s.timed b = true → e ≠ (downEvent b).num) →
        (e ≠ EventId.shed.num ∧ e ≠ EventId.restore.num ∨ s.planFresh) →
        t.events.event.read e = s.events.event.read e) ∧
      (s.planFresh →
        t.planner = { s.planner with opposingRun := 0, markerAbsence := 0 }) ∧
      (∀ f : Flow, t.expired.read f = false) ∧
      (∀ b : Bearer, (t.rx b).state = .hunt ∧ (t.rx b).record = none ∧
        (t.rx b).badCount = (s.rx b).badCount ∧
        (s.rx b).arrived ≤ (t.rx b).searchFrom ∧ (t.rx b).arrived = (t.rx b).searchFrom ∧
        ((s.rx b).laneKept → (s.rx b).boundary ≠ none →
          (t.rx b).searchFrom < (s.rx b).cellBegin + 192) ∧
        (s.timed b = true →
          t.events.event.read (downEvent b).num = EventState.raised (.wayOut .reset))) ∧
      t.skew.valid = false ∧ t.skew.j = 0 ∧ t.skew.fibreList = [] ∧ t.skew.radioList = [] ∧
      (∀ f : Flow, t.merge.window.read f = ⟨false, 0, [], 0⟩ ∧
        t.merge.counts.read f = { s.merge.counts.read f with
          flushed :=
            satAdd (s.merge.counts.read f).flushed (s.merge.window.read f).held.length }) ∧
      t.merge.free = powerOnFree ∧ t.strike = s.strike ∧ t.tally = s.tally ∧
      t.events.routineCount = s.events.routineCount ∧ t.pending = s.pending

/-- The Event Unit's report at a superframe start: with the report enable OFF, or nothing that calls
for a report, nothing changes; otherwise each destination with something reportable has one notice
built, of tag 0 and the superframe number, that lists all of it by five bytes each, the URGENT events
first and each level in ascending number; the near notice joins the management port's queue, or is
dropped there, counted and told by MGMT-DROP; every event listed to a destination is REPORTED with its
flag and detail kept, the others stand, and the routine count is 0 when a ROUTINE event was listed and
else stands (R157, R179, R180). -/
def Obligations.JudgingMarksWhatItLists : Prop :=
  ∀ (s : State) (sf : Superframe),
    let st := s.mgmt.settings
    let listed := s.events.listing st .port ++ s.events.listing st .flow0
    let notice (q : MgmtQueue) (c : CellData) : Prop :=
      c.len = c.record.length ∧ c.payload.length = 180 ∧
      c.record = [3, 0] ++ bytesOf 2 sf.toNat ++
        [BitVec.ofNat 8 (s.events.listing st q).length] ++
        (s.events.listing st q).flatMap fun e =>
          BitVec.ofNat 8 e.val :: detailBytes (s.events.event.read e).detail
    let dropped := s.events.listing st .port ≠ [] ∧ 16 ≤ s.mgmt.portQueue.length
    (st.reportEnable = false ∨ (∀ e ∈ listed, s.events.callsForReport st e = false) →
      s.judge sf = (s, none)) ∧
    (st.reportEnable = true → (∃ e ∈ listed, s.events.callsForReport st e = true) →
      let t := (s.judge sf).1
      (∀ e : Fin 20, t.events.event.read e =
        if e = EventId.mgmtDrop.num ∧ dropped then EventState.raised (.dropped .port .notice)
        else { s.events.event.read e with
          unreported := (s.events.event.read e).unreported && !listed.contains e }) ∧
      t.events.routineCount =
        (if ∃ e ∈ listed, st.eventLevel.read e = .routine then 0 else s.events.routineCount) ∧
      (s.events.listing st .port = [] → t.mgmt = s.mgmt) ∧
      (s.events.listing st .port ≠ [] → s.mgmt.portQueue.length < 16 →
        ∃ c : CellData, notice .port c ∧
          t.mgmt = { s.mgmt with portQueue := s.mgmt.portQueue ++ [c] }) ∧
      (dropped → t.mgmt = { s.mgmt with portDrops := satInc s.mgmt.portDrops }) ∧
      (s.events.listing st .flow0 = [] → (s.judge sf).2 = none) ∧
      (s.events.listing st .flow0 ≠ [] →
        ∃ c : CellData, (s.judge sf).2 = some c ∧ notice .flow0 c) ∧
      t = { s with mgmt := t.mgmt, events := t.events, occasion := t.occasion }) ∧
    (∀ e : Fin 20, s.events.callsForReport st e = true ↔ st.eventLevel.read e = .urgent ∨
      st.routineInterval ≤ s.events.routineCount) ∧
    ∀ q : MgmtQueue,
      (∀ e : Fin 20, e ∈ s.events.listing st q ↔
        st.destinationOn q = true ∧ (s.events.event.read e).unreported = true ∧
        st.eventEnable.read e = true ∧
        ¬(e = EventId.mgmtDrop.num ∧
          ∃ kind : RecordKind, (s.events.event.read e).detail = some (.dropped q kind))) ∧
      (s.events.listing st q).Pairwise fun e e' =>
        (st.eventLevel.read e = .urgent ∧ st.eventLevel.read e' = .routine) ∨
        (st.eventLevel.read e = st.eventLevel.read e' ∧ e < e')

/-! ### Laws that every step keeps -/

/-- No step fills a FIFO, queue or list beyond its size, or puts the Buffer Pool's contents out of
canonical form (R42, R97, R143, R155). -/
def Obligations.StepKeepsQueuesWithinSize : Prop :=
  ∀ s t : State, step s = .next t →
    (s.queuesFit → t.queuesFit) ∧ (poolWf s.merge.pool = true → poolWf t.merge.pool = true)

/-- Every step keeps each of the 16384 buffers once on the free stack or once under a held cell
(R128). -/
def Obligations.StepKeepsEveryBuffer : Prop :=
  ∀ s t : State, step s = .next t → s.merge.buffersKept → t.merge.buffersKept

/-- Every step keeps the laws of every Merge Window: none holds two cells of one sequence, and every
held sequence lies 1 to depth − 1 ahead of N (R112). And every step that starts with each expired hold
known ends so: whatever makes a hold time shorter or an age longer has the waiting holds judged in the
same step, and no growth of a hold time takes back an expiry (R108, R123, R124). That a known expiry
is taken as a step of its own is the model's choice (log entry 2). -/
def Obligations.StepKeepsMergeWindows : Prop :=
  (∀ s t : State, step s = .next t → s.windowsLawful → t.windowsLawful) ∧
  (∀ s t : State, step s = .next t → s.windowsLawful → s.holdsJudged → t.holdsJudged)

/-- Every step keeps entry 0 fixed, every other entry in range, the active bank consistent and the
shadow bank consistent while a swap is pending, so that the active bank's fibre demand never exceeds
1527; and the tally-loss timer STOPPED exactly while no INBOUND TALLY entry is active (R20, R34,
R148). -/
def Obligations.StepKeepsTables : Prop :=
  (∀ s t : State, step s = .next t → s.table.lawful → t.table.lawful) ∧
  (∀ s t : State, step s = .next t → s.table.lawful → s.tallyTimerFollows →
    t.tallyTimerFollows) ∧
  (∀ s : State, s.table.lawful → fibreDemand s.table.activeBank ≤ 1527)

/-- Every step keeps the Radio Plan the one its inputs give (R71), with U, D and the overcommit of R72
and the candidates and their order of R73. First fit admits a run of the candidates in order, ends at
the start demand plus the rates admitted, never above the usable slots when it starts within them, and
admits none when it starts above them (R74). The inputs come of the GRADE samples, a run of which
accepts a lower or a higher grade, and of the far reports, the second opposing one in a row changing
the far fibre status, the plan and its SHED and RESTORE (R65, R66, R69, R75). -/
def Obligations.RadioPlanStaysFreshAndFits : Prop :=
  (∀ s t : State, step s = .next t → s.planFresh → t.planFresh) ∧
  (∀ (p : RadioPlanner) (entries : Tab 64 Entry),
    let q := p.compute entries
    let usable := if p.grade = 0 then 0 else 32 * p.grade.toNat - 9
    let demand := (userFlows.map fun f => match entries.read f with
      | .used .outbound x => if x.protection = .both ∨ x.protection = .radio then x.rate else 0
      | _ => 0).sum
    let fit := firstFit usable demand (candidates entries p.farFibre)
    q = { p with plan := q.plan, usable := usable, fixedDemand := demand,
                 plannedDemand := fit.2, overcommit := decide (usable < demand) } ∧
    (∀ f : Flow, f ∈ q.plan ↔ f ∈ fit.1) ∧ q.plan.Pairwise (· < ·)) ∧
  (∀ (entries : Tab 64 Entry) (far : FarFibre),
    (∀ (f : Flow) (x : EntryFields), (f, x) ∈ candidates entries far ↔
      f ≠ 0 ∧ entries.read f = .used .outbound x ∧
      (x.protection = .bothShed ∨ (x.protection = .fibreSwitch ∧ far = .lost))) ∧
    (candidates entries far).Pairwise fun a b =>
      a.2.rank < b.2.rank ∨ (a.2.rank = b.2.rank ∧ a.1 < b.1)) ∧
  (∀ (usable start : Nat) (cs : List (Flow × EntryFields)),
    (firstFit usable start cs).1.Sublist (cs.map Prod.fst) ∧
    (start ≤ usable → (firstFit usable start cs).2 ≤ usable) ∧
    (usable < start → firstFit usable start cs = ([], start)) ∧
    ((cs.map Prod.fst).Nodup → (firstFit usable start cs).2 =
      start + ((cs.filter fun c => (firstFit usable start cs).1.contains c.1).map
        fun c => c.2.rate).sum)) ∧
  (∀ (p : RadioPlanner) (down up : Nat) (storm : Bool) (sample : Grade),
    let q := p.takeSample down up storm sample
    let least := match p.upLeast with
      | none => sample
      | some l => if sample < l then sample else l
    (sample = p.grade ∨ (p.grade < sample ∧ storm = true) →
      q = { p with downRun := 0, upRun := 0, upLeast := none }) ∧
    (sample < p.grade → p.downRun + 1 < down →
      q = { p with downRun := p.downRun + 1, upRun := 0, upLeast := none }) ∧
    (sample < p.grade → down ≤ p.downRun + 1 →
      q = { p with awaiting := some sample, downRun := 0, upRun := 0, upLeast := none }) ∧
    (p.grade < sample → storm = false → p.upRun + 1 < up →
      q = { p with downRun := 0, upRun := p.upRun + 1, upLeast := some least }) ∧
    (p.grade < sample → storm = false → up ≤ p.upRun + 1 →
      q = { p with awaiting := some least, downRun := 0, upRun := 0, upLeast := none })) ∧
  ∀ (s : State) (farFibreTimed : Bool),
    let t := s.farReport farFibreTimed
    let p := { s.planner with markerAbsence := 0 }
    let confirms := farFibreTimed = true ↔ s.planner.farFibre = .present
    let leaving (xs ys : List Flow) := userFlows.filter fun f => xs.contains f && !ys.contains f
    let told (old : EventState) (flows : List Flow) := match flows with
      | [] => old
      | f :: _ => EventState.raised (.flows f flows.length)
    (confirms → t = s.withPlanner { p with opposingRun := 0 }) ∧
    (¬confirms → s.planner.opposingRun = 0 → t = s.withPlanner { p with opposingRun := 1 }) ∧
    (¬confirms → s.planner.opposingRun = 1 →
      t.planner = RadioPlanner.compute { p with
        farFibre := if s.planner.farFibre = .present then .lost else .present
        opposingRun := 0 } s.table.activeBank ∧
      t.events.event.read EventId.shed.num =
        told (s.events.event.read EventId.shed.num) (leaving s.planner.plan t.planner.plan) ∧
      t.events.event.read EventId.restore.num =
        told (s.events.event.read EventId.restore.num) (leaving t.planner.plan s.planner.plan) ∧
      t = { s with planner := t.planner, events := t.events })

/-- Every step keeps the settings, the timers, the routine count and the far write window in range,
and E, J and the Radio Offset within their bounds, and ends with no adjustment pending that it did not
begin with, the marker of a move being used up in its own step (R11, R98, R104, R134, R148, R155,
R168, R176). -/
def Obligations.StepKeepsRanges : Prop :=
  (∀ s t : State, step s = .next t → s.rangesKept → t.rangesKept) ∧
  (∀ s t : State, step s = .next t → s.skewBounded → t.skewBounded) ∧
  (∀ s t : State, step s = .next t → s.skew.adjustment = none → t.skew.adjustment = none)

/-- Every step keeps the receivers' runs in range, the source bearer the one that their states name,
and the radio slots used within 32 times the grade in effect; and a receiver has no cell boundary in
HUNT, and elsewhere a byte of the cell that it takes next still to arrive (R10, R59, R78, R79, R83).
The numbers of the lane's bytes are the model's own (log entry 14). -/
def Obligations.StepKeepsReceiversAndSource : Prop :=
  (∀ s t : State, step s = .next t → s.fibreRx.runsKept → s.radioRx.runsKept →
    t.fibreRx.runsKept ∧ t.radioRx.runsKept) ∧
  (∀ s t : State, step s = .next t → s.fibreRx.laneKept → s.radioRx.laneKept →
    t.fibreRx.laneKept ∧ t.radioRx.laneKept) ∧
  (∀ s t : State, step s = .next t → s.sourceChosen → t.sourceChosen) ∧
  (∀ s t : State, step s = .next t → s.radioWithinGrade → t.radioWithinGrade)

/-- Once the far write window is frozen, no step but RESET's changes its bounds or opens it (R171). -/
def Obligations.FrozenWindowStands : Prop :=
  ∀ (c : Instr) (rest : List Instr) (s t : State), s.pending = c :: rest →
    step s = .next t → s.mgmt.frozen = true → c ≠ .resetAssert →
    (∀ (role : Role) (pins : Pins), c = .resetRelease role pins → s.inReset = false) →
    t.mgmt.frozen = true ∧ t.mgmt.windowLow = s.mgmt.windowLow ∧
    t.mgmt.windowHigh = s.mgmt.windowHigh
end

