-- ==== Sys2Proof/Laws/State.lean ====
section
/-! SUPPORT. What each replacement of one block's state leaves in every field: one lemma a field and
replacement, true by unfolding. -/

namespace Sys2Proof.Machine

variable (s : State)

@[simp] theorem State.withReset_inReset (v : Bool) : (s.withReset v).inReset = v := rfl
@[simp] theorem State.withReset_role (v : Bool) : (s.withReset v).role = s.role := rfl
@[simp] theorem State.withReset_pins (v : Bool) : (s.withReset v).pins = s.pins := rfl
@[simp] theorem State.withReset_clock (v : Bool) : (s.withReset v).clock = s.clock := rfl
@[simp] theorem State.withReset_table (v : Bool) : (s.withReset v).table = s.table := rfl
@[simp] theorem State.withReset_ingress (v : Bool) : (s.withReset v).ingress = s.ingress := rfl
@[simp] theorem State.withReset_batch (v : Bool) : (s.withReset v).batch = s.batch := rfl
@[simp] theorem State.withReset_fibreTx (v : Bool) : (s.withReset v).fibreTx = s.fibreTx := rfl
@[simp] theorem State.withReset_radioTx (v : Bool) : (s.withReset v).radioTx = s.radioTx := rfl
@[simp] theorem State.withReset_planner (v : Bool) : (s.withReset v).planner = s.planner := rfl
@[simp] theorem State.withReset_fibreRx (v : Bool) : (s.withReset v).fibreRx = s.fibreRx := rfl
@[simp] theorem State.withReset_radioRx (v : Bool) : (s.withReset v).radioRx = s.radioRx := rfl
@[simp] theorem State.withReset_skew (v : Bool) : (s.withReset v).skew = s.skew := rfl
@[simp] theorem State.withReset_merge (v : Bool) : (s.withReset v).merge = s.merge := rfl
@[simp] theorem State.withReset_strike (v : Bool) : (s.withReset v).strike = s.strike := rfl
@[simp] theorem State.withReset_egress (v : Bool) : (s.withReset v).egress = s.egress := rfl
@[simp] theorem State.withReset_tally (v : Bool) : (s.withReset v).tally = s.tally := rfl
@[simp] theorem State.withReset_mgmt (v : Bool) : (s.withReset v).mgmt = s.mgmt := rfl
@[simp] theorem State.withReset_events (v : Bool) : (s.withReset v).events = s.events := rfl
@[simp] theorem State.withReset_owed (v : Bool) : (s.withReset v).owed = s.owed := rfl
@[simp] theorem State.withReset_expired (v : Bool) : (s.withReset v).expired = s.expired := rfl
@[simp] theorem State.withReset_occasion (v : Bool) : (s.withReset v).occasion = s.occasion := rfl
@[simp] theorem State.withReset_pending (v : Bool) : (s.withReset v).pending = s.pending := rfl

@[simp] theorem State.withPins_inReset (v : Pins) : (s.withPins v).inReset = s.inReset := rfl
@[simp] theorem State.withPins_role (v : Pins) : (s.withPins v).role = s.role := rfl
@[simp] theorem State.withPins_pins (v : Pins) : (s.withPins v).pins = v := rfl
@[simp] theorem State.withPins_clock (v : Pins) : (s.withPins v).clock = s.clock := rfl
@[simp] theorem State.withPins_table (v : Pins) : (s.withPins v).table = s.table := rfl
@[simp] theorem State.withPins_ingress (v : Pins) : (s.withPins v).ingress = s.ingress := rfl
@[simp] theorem State.withPins_batch (v : Pins) : (s.withPins v).batch = s.batch := rfl
@[simp] theorem State.withPins_fibreTx (v : Pins) : (s.withPins v).fibreTx = s.fibreTx := rfl
@[simp] theorem State.withPins_radioTx (v : Pins) : (s.withPins v).radioTx = s.radioTx := rfl
@[simp] theorem State.withPins_planner (v : Pins) : (s.withPins v).planner = s.planner := rfl
@[simp] theorem State.withPins_fibreRx (v : Pins) : (s.withPins v).fibreRx = s.fibreRx := rfl
@[simp] theorem State.withPins_radioRx (v : Pins) : (s.withPins v).radioRx = s.radioRx := rfl
@[simp] theorem State.withPins_skew (v : Pins) : (s.withPins v).skew = s.skew := rfl
@[simp] theorem State.withPins_merge (v : Pins) : (s.withPins v).merge = s.merge := rfl
@[simp] theorem State.withPins_strike (v : Pins) : (s.withPins v).strike = s.strike := rfl
@[simp] theorem State.withPins_egress (v : Pins) : (s.withPins v).egress = s.egress := rfl
@[simp] theorem State.withPins_tally (v : Pins) : (s.withPins v).tally = s.tally := rfl
@[simp] theorem State.withPins_mgmt (v : Pins) : (s.withPins v).mgmt = s.mgmt := rfl
@[simp] theorem State.withPins_events (v : Pins) : (s.withPins v).events = s.events := rfl
@[simp] theorem State.withPins_owed (v : Pins) : (s.withPins v).owed = s.owed := rfl
@[simp] theorem State.withPins_expired (v : Pins) : (s.withPins v).expired = s.expired := rfl
@[simp] theorem State.withPins_occasion (v : Pins) : (s.withPins v).occasion = s.occasion := rfl
@[simp] theorem State.withPins_pending (v : Pins) : (s.withPins v).pending = s.pending := rfl

@[simp] theorem State.withClock_inReset (v : LinkClock) : (s.withClock v).inReset = s.inReset := rfl
@[simp] theorem State.withClock_role (v : LinkClock) : (s.withClock v).role = s.role := rfl
@[simp] theorem State.withClock_pins (v : LinkClock) : (s.withClock v).pins = s.pins := rfl
@[simp] theorem State.withClock_clock (v : LinkClock) : (s.withClock v).clock = v := rfl
@[simp] theorem State.withClock_table (v : LinkClock) : (s.withClock v).table = s.table := rfl
@[simp] theorem State.withClock_ingress (v : LinkClock) : (s.withClock v).ingress = s.ingress := rfl
@[simp] theorem State.withClock_batch (v : LinkClock) : (s.withClock v).batch = s.batch := rfl
@[simp] theorem State.withClock_fibreTx (v : LinkClock) : (s.withClock v).fibreTx = s.fibreTx := rfl
@[simp] theorem State.withClock_radioTx (v : LinkClock) : (s.withClock v).radioTx = s.radioTx := rfl
@[simp] theorem State.withClock_planner (v : LinkClock) : (s.withClock v).planner = s.planner := rfl
@[simp] theorem State.withClock_fibreRx (v : LinkClock) : (s.withClock v).fibreRx = s.fibreRx := rfl
@[simp] theorem State.withClock_radioRx (v : LinkClock) : (s.withClock v).radioRx = s.radioRx := rfl
@[simp] theorem State.withClock_skew (v : LinkClock) : (s.withClock v).skew = s.skew := rfl
@[simp] theorem State.withClock_merge (v : LinkClock) : (s.withClock v).merge = s.merge := rfl
@[simp] theorem State.withClock_strike (v : LinkClock) : (s.withClock v).strike = s.strike := rfl
@[simp] theorem State.withClock_egress (v : LinkClock) : (s.withClock v).egress = s.egress := rfl
@[simp] theorem State.withClock_tally (v : LinkClock) : (s.withClock v).tally = s.tally := rfl
@[simp] theorem State.withClock_mgmt (v : LinkClock) : (s.withClock v).mgmt = s.mgmt := rfl
@[simp] theorem State.withClock_events (v : LinkClock) : (s.withClock v).events = s.events := rfl
@[simp] theorem State.withClock_owed (v : LinkClock) : (s.withClock v).owed = s.owed := rfl
@[simp] theorem State.withClock_expired (v : LinkClock) : (s.withClock v).expired = s.expired := rfl
@[simp] theorem State.withClock_occasion (v : LinkClock) :
    (s.withClock v).occasion = s.occasion := rfl
@[simp] theorem State.withClock_pending (v : LinkClock) : (s.withClock v).pending = s.pending := rfl

@[simp] theorem State.withTable_inReset (v : TableControl) :
    (s.withTable v).inReset = s.inReset := rfl
@[simp] theorem State.withTable_role (v : TableControl) : (s.withTable v).role = s.role := rfl
@[simp] theorem State.withTable_pins (v : TableControl) : (s.withTable v).pins = s.pins := rfl
@[simp] theorem State.withTable_clock (v : TableControl) : (s.withTable v).clock = s.clock := rfl
@[simp] theorem State.withTable_table (v : TableControl) : (s.withTable v).table = v := rfl
@[simp] theorem State.withTable_ingress (v : TableControl) :
    (s.withTable v).ingress = s.ingress := rfl
@[simp] theorem State.withTable_batch (v : TableControl) : (s.withTable v).batch = s.batch := rfl
@[simp] theorem State.withTable_fibreTx (v : TableControl) :
    (s.withTable v).fibreTx = s.fibreTx := rfl
@[simp] theorem State.withTable_radioTx (v : TableControl) :
    (s.withTable v).radioTx = s.radioTx := rfl
@[simp] theorem State.withTable_planner (v : TableControl) :
    (s.withTable v).planner = s.planner := rfl
@[simp] theorem State.withTable_fibreRx (v : TableControl) :
    (s.withTable v).fibreRx = s.fibreRx := rfl
@[simp] theorem State.withTable_radioRx (v : TableControl) :
    (s.withTable v).radioRx = s.radioRx := rfl
@[simp] theorem State.withTable_skew (v : TableControl) : (s.withTable v).skew = s.skew := rfl
@[simp] theorem State.withTable_merge (v : TableControl) : (s.withTable v).merge = s.merge := rfl
@[simp] theorem State.withTable_strike (v : TableControl) : (s.withTable v).strike = s.strike := rfl
@[simp] theorem State.withTable_egress (v : TableControl) : (s.withTable v).egress = s.egress := rfl
@[simp] theorem State.withTable_tally (v : TableControl) : (s.withTable v).tally = s.tally := rfl
@[simp] theorem State.withTable_mgmt (v : TableControl) : (s.withTable v).mgmt = s.mgmt := rfl
@[simp] theorem State.withTable_events (v : TableControl) : (s.withTable v).events = s.events := rfl
@[simp] theorem State.withTable_owed (v : TableControl) : (s.withTable v).owed = s.owed := rfl
@[simp] theorem State.withTable_expired (v : TableControl) :
    (s.withTable v).expired = s.expired := rfl
@[simp] theorem State.withTable_occasion (v : TableControl) :
    (s.withTable v).occasion = s.occasion := rfl
@[simp] theorem State.withTable_pending (v : TableControl) :
    (s.withTable v).pending = s.pending := rfl

@[simp] theorem State.withIngress_inReset (v : IngressPorts) :
    (s.withIngress v).inReset = s.inReset := rfl
@[simp] theorem State.withIngress_role (v : IngressPorts) : (s.withIngress v).role = s.role := rfl
@[simp] theorem State.withIngress_pins (v : IngressPorts) : (s.withIngress v).pins = s.pins := rfl
@[simp] theorem State.withIngress_clock (v : IngressPorts) :
    (s.withIngress v).clock = s.clock := rfl
@[simp] theorem State.withIngress_table (v : IngressPorts) :
    (s.withIngress v).table = s.table := rfl
@[simp] theorem State.withIngress_ingress (v : IngressPorts) : (s.withIngress v).ingress = v := rfl
@[simp] theorem State.withIngress_batch (v : IngressPorts) :
    (s.withIngress v).batch = s.batch := rfl
@[simp] theorem State.withIngress_fibreTx (v : IngressPorts) :
    (s.withIngress v).fibreTx = s.fibreTx := rfl
@[simp] theorem State.withIngress_radioTx (v : IngressPorts) :
    (s.withIngress v).radioTx = s.radioTx := rfl
@[simp] theorem State.withIngress_planner (v : IngressPorts) :
    (s.withIngress v).planner = s.planner := rfl
@[simp] theorem State.withIngress_fibreRx (v : IngressPorts) :
    (s.withIngress v).fibreRx = s.fibreRx := rfl
@[simp] theorem State.withIngress_radioRx (v : IngressPorts) :
    (s.withIngress v).radioRx = s.radioRx := rfl
@[simp] theorem State.withIngress_skew (v : IngressPorts) : (s.withIngress v).skew = s.skew := rfl
@[simp] theorem State.withIngress_merge (v : IngressPorts) :
    (s.withIngress v).merge = s.merge := rfl
@[simp] theorem State.withIngress_strike (v : IngressPorts) :
    (s.withIngress v).strike = s.strike := rfl
@[simp] theorem State.withIngress_egress (v : IngressPorts) :
    (s.withIngress v).egress = s.egress := rfl
@[simp] theorem State.withIngress_tally (v : IngressPorts) :
    (s.withIngress v).tally = s.tally := rfl
@[simp] theorem State.withIngress_mgmt (v : IngressPorts) : (s.withIngress v).mgmt = s.mgmt := rfl
@[simp] theorem State.withIngress_events (v : IngressPorts) :
    (s.withIngress v).events = s.events := rfl
@[simp] theorem State.withIngress_owed (v : IngressPorts) : (s.withIngress v).owed = s.owed := rfl
@[simp] theorem State.withIngress_expired (v : IngressPorts) :
    (s.withIngress v).expired = s.expired := rfl
@[simp] theorem State.withIngress_occasion (v : IngressPorts) :
    (s.withIngress v).occasion = s.occasion := rfl
@[simp] theorem State.withIngress_pending (v : IngressPorts) :
    (s.withIngress v).pending = s.pending := rfl

@[simp] theorem State.withBatch_inReset (v : BatchUnit) : (s.withBatch v).inReset = s.inReset := rfl
@[simp] theorem State.withBatch_role (v : BatchUnit) : (s.withBatch v).role = s.role := rfl
@[simp] theorem State.withBatch_pins (v : BatchUnit) : (s.withBatch v).pins = s.pins := rfl
@[simp] theorem State.withBatch_clock (v : BatchUnit) : (s.withBatch v).clock = s.clock := rfl
@[simp] theorem State.withBatch_table (v : BatchUnit) : (s.withBatch v).table = s.table := rfl
@[simp] theorem State.withBatch_ingress (v : BatchUnit) : (s.withBatch v).ingress = s.ingress := rfl
@[simp] theorem State.withBatch_batch (v : BatchUnit) : (s.withBatch v).batch = v := rfl
@[simp] theorem State.withBatch_fibreTx (v : BatchUnit) : (s.withBatch v).fibreTx = s.fibreTx := rfl
@[simp] theorem State.withBatch_radioTx (v : BatchUnit) : (s.withBatch v).radioTx = s.radioTx := rfl
@[simp] theorem State.withBatch_planner (v : BatchUnit) : (s.withBatch v).planner = s.planner := rfl
@[simp] theorem State.withBatch_fibreRx (v : BatchUnit) : (s.withBatch v).fibreRx = s.fibreRx := rfl
@[simp] theorem State.withBatch_radioRx (v : BatchUnit) : (s.withBatch v).radioRx = s.radioRx := rfl
@[simp] theorem State.withBatch_skew (v : BatchUnit) : (s.withBatch v).skew = s.skew := rfl
@[simp] theorem State.withBatch_merge (v : BatchUnit) : (s.withBatch v).merge = s.merge := rfl
@[simp] theorem State.withBatch_strike (v : BatchUnit) : (s.withBatch v).strike = s.strike := rfl
@[simp] theorem State.withBatch_egress (v : BatchUnit) : (s.withBatch v).egress = s.egress := rfl
@[simp] theorem State.withBatch_tally (v : BatchUnit) : (s.withBatch v).tally = s.tally := rfl
@[simp] theorem State.withBatch_mgmt (v : BatchUnit) : (s.withBatch v).mgmt = s.mgmt := rfl
@[simp] theorem State.withBatch_events (v : BatchUnit) : (s.withBatch v).events = s.events := rfl
@[simp] theorem State.withBatch_owed (v : BatchUnit) : (s.withBatch v).owed = s.owed := rfl
@[simp] theorem State.withBatch_expired (v : BatchUnit) : (s.withBatch v).expired = s.expired := rfl
@[simp] theorem State.withBatch_occasion (v : BatchUnit) :
    (s.withBatch v).occasion = s.occasion := rfl
@[simp] theorem State.withBatch_pending (v : BatchUnit) : (s.withBatch v).pending = s.pending := rfl

@[simp] theorem State.withFibreTx_inReset (v : Transmitter) :
    (s.withFibreTx v).inReset = s.inReset := rfl
@[simp] theorem State.withFibreTx_role (v : Transmitter) : (s.withFibreTx v).role = s.role := rfl
@[simp] theorem State.withFibreTx_pins (v : Transmitter) : (s.withFibreTx v).pins = s.pins := rfl
@[simp] theorem State.withFibreTx_clock (v : Transmitter) : (s.withFibreTx v).clock = s.clock := rfl
@[simp] theorem State.withFibreTx_table (v : Transmitter) : (s.withFibreTx v).table = s.table := rfl
@[simp] theorem State.withFibreTx_ingress (v : Transmitter) :
    (s.withFibreTx v).ingress = s.ingress := rfl
@[simp] theorem State.withFibreTx_batch (v : Transmitter) : (s.withFibreTx v).batch = s.batch := rfl
@[simp] theorem State.withFibreTx_fibreTx (v : Transmitter) : (s.withFibreTx v).fibreTx = v := rfl
@[simp] theorem State.withFibreTx_radioTx (v : Transmitter) :
    (s.withFibreTx v).radioTx = s.radioTx := rfl
@[simp] theorem State.withFibreTx_planner (v : Transmitter) :
    (s.withFibreTx v).planner = s.planner := rfl
@[simp] theorem State.withFibreTx_fibreRx (v : Transmitter) :
    (s.withFibreTx v).fibreRx = s.fibreRx := rfl
@[simp] theorem State.withFibreTx_radioRx (v : Transmitter) :
    (s.withFibreTx v).radioRx = s.radioRx := rfl
@[simp] theorem State.withFibreTx_skew (v : Transmitter) : (s.withFibreTx v).skew = s.skew := rfl
@[simp] theorem State.withFibreTx_merge (v : Transmitter) : (s.withFibreTx v).merge = s.merge := rfl
@[simp] theorem State.withFibreTx_strike (v : Transmitter) :
    (s.withFibreTx v).strike = s.strike := rfl
@[simp] theorem State.withFibreTx_egress (v : Transmitter) :
    (s.withFibreTx v).egress = s.egress := rfl
@[simp] theorem State.withFibreTx_tally (v : Transmitter) : (s.withFibreTx v).tally = s.tally := rfl
@[simp] theorem State.withFibreTx_mgmt (v : Transmitter) : (s.withFibreTx v).mgmt = s.mgmt := rfl
@[simp] theorem State.withFibreTx_events (v : Transmitter) :
    (s.withFibreTx v).events = s.events := rfl
@[simp] theorem State.withFibreTx_owed (v : Transmitter) : (s.withFibreTx v).owed = s.owed := rfl
@[simp] theorem State.withFibreTx_expired (v : Transmitter) :
    (s.withFibreTx v).expired = s.expired := rfl
@[simp] theorem State.withFibreTx_occasion (v : Transmitter) :
    (s.withFibreTx v).occasion = s.occasion := rfl
@[simp] theorem State.withFibreTx_pending (v : Transmitter) :
    (s.withFibreTx v).pending = s.pending := rfl

@[simp] theorem State.withRadioTx_inReset (v : Transmitter) :
    (s.withRadioTx v).inReset = s.inReset := rfl
@[simp] theorem State.withRadioTx_role (v : Transmitter) : (s.withRadioTx v).role = s.role := rfl
@[simp] theorem State.withRadioTx_pins (v : Transmitter) : (s.withRadioTx v).pins = s.pins := rfl
@[simp] theorem State.withRadioTx_clock (v : Transmitter) : (s.withRadioTx v).clock = s.clock := rfl
@[simp] theorem State.withRadioTx_table (v : Transmitter) : (s.withRadioTx v).table = s.table := rfl
@[simp] theorem State.withRadioTx_ingress (v : Transmitter) :
    (s.withRadioTx v).ingress = s.ingress := rfl
@[simp] theorem State.withRadioTx_batch (v : Transmitter) : (s.withRadioTx v).batch = s.batch := rfl
@[simp] theorem State.withRadioTx_fibreTx (v : Transmitter) :
    (s.withRadioTx v).fibreTx = s.fibreTx := rfl
@[simp] theorem State.withRadioTx_radioTx (v : Transmitter) : (s.withRadioTx v).radioTx = v := rfl
@[simp] theorem State.withRadioTx_planner (v : Transmitter) :
    (s.withRadioTx v).planner = s.planner := rfl
@[simp] theorem State.withRadioTx_fibreRx (v : Transmitter) :
    (s.withRadioTx v).fibreRx = s.fibreRx := rfl
@[simp] theorem State.withRadioTx_radioRx (v : Transmitter) :
    (s.withRadioTx v).radioRx = s.radioRx := rfl
@[simp] theorem State.withRadioTx_skew (v : Transmitter) : (s.withRadioTx v).skew = s.skew := rfl
@[simp] theorem State.withRadioTx_merge (v : Transmitter) : (s.withRadioTx v).merge = s.merge := rfl
@[simp] theorem State.withRadioTx_strike (v : Transmitter) :
    (s.withRadioTx v).strike = s.strike := rfl
@[simp] theorem State.withRadioTx_egress (v : Transmitter) :
    (s.withRadioTx v).egress = s.egress := rfl
@[simp] theorem State.withRadioTx_tally (v : Transmitter) : (s.withRadioTx v).tally = s.tally := rfl
@[simp] theorem State.withRadioTx_mgmt (v : Transmitter) : (s.withRadioTx v).mgmt = s.mgmt := rfl
@[simp] theorem State.withRadioTx_events (v : Transmitter) :
    (s.withRadioTx v).events = s.events := rfl
@[simp] theorem State.withRadioTx_owed (v : Transmitter) : (s.withRadioTx v).owed = s.owed := rfl
@[simp] theorem State.withRadioTx_expired (v : Transmitter) :
    (s.withRadioTx v).expired = s.expired := rfl
@[simp] theorem State.withRadioTx_occasion (v : Transmitter) :
    (s.withRadioTx v).occasion = s.occasion := rfl
@[simp] theorem State.withRadioTx_pending (v : Transmitter) :
    (s.withRadioTx v).pending = s.pending := rfl

@[simp] theorem State.withPlanner_inReset (v : RadioPlanner) :
    (s.withPlanner v).inReset = s.inReset := rfl
@[simp] theorem State.withPlanner_role (v : RadioPlanner) : (s.withPlanner v).role = s.role := rfl
@[simp] theorem State.withPlanner_pins (v : RadioPlanner) : (s.withPlanner v).pins = s.pins := rfl
@[simp] theorem State.withPlanner_clock (v : RadioPlanner) :
    (s.withPlanner v).clock = s.clock := rfl
@[simp] theorem State.withPlanner_table (v : RadioPlanner) :
    (s.withPlanner v).table = s.table := rfl
@[simp] theorem State.withPlanner_ingress (v : RadioPlanner) :
    (s.withPlanner v).ingress = s.ingress := rfl
@[simp] theorem State.withPlanner_batch (v : RadioPlanner) :
    (s.withPlanner v).batch = s.batch := rfl
@[simp] theorem State.withPlanner_fibreTx (v : RadioPlanner) :
    (s.withPlanner v).fibreTx = s.fibreTx := rfl
@[simp] theorem State.withPlanner_radioTx (v : RadioPlanner) :
    (s.withPlanner v).radioTx = s.radioTx := rfl
@[simp] theorem State.withPlanner_planner (v : RadioPlanner) : (s.withPlanner v).planner = v := rfl
@[simp] theorem State.withPlanner_fibreRx (v : RadioPlanner) :
    (s.withPlanner v).fibreRx = s.fibreRx := rfl
@[simp] theorem State.withPlanner_radioRx (v : RadioPlanner) :
    (s.withPlanner v).radioRx = s.radioRx := rfl
@[simp] theorem State.withPlanner_skew (v : RadioPlanner) : (s.withPlanner v).skew = s.skew := rfl
@[simp] theorem State.withPlanner_merge (v : RadioPlanner) :
    (s.withPlanner v).merge = s.merge := rfl
@[simp] theorem State.withPlanner_strike (v : RadioPlanner) :
    (s.withPlanner v).strike = s.strike := rfl
@[simp] theorem State.withPlanner_egress (v : RadioPlanner) :
    (s.withPlanner v).egress = s.egress := rfl
@[simp] theorem State.withPlanner_tally (v : RadioPlanner) :
    (s.withPlanner v).tally = s.tally := rfl
@[simp] theorem State.withPlanner_mgmt (v : RadioPlanner) : (s.withPlanner v).mgmt = s.mgmt := rfl
@[simp] theorem State.withPlanner_events (v : RadioPlanner) :
    (s.withPlanner v).events = s.events := rfl
@[simp] theorem State.withPlanner_owed (v : RadioPlanner) : (s.withPlanner v).owed = s.owed := rfl
@[simp] theorem State.withPlanner_expired (v : RadioPlanner) :
    (s.withPlanner v).expired = s.expired := rfl
@[simp] theorem State.withPlanner_occasion (v : RadioPlanner) :
    (s.withPlanner v).occasion = s.occasion := rfl
@[simp] theorem State.withPlanner_pending (v : RadioPlanner) :
    (s.withPlanner v).pending = s.pending := rfl

@[simp] theorem State.withFibreRx_inReset (v : Receiver) :
    (s.withFibreRx v).inReset = s.inReset := rfl
@[simp] theorem State.withFibreRx_role (v : Receiver) : (s.withFibreRx v).role = s.role := rfl
@[simp] theorem State.withFibreRx_pins (v : Receiver) : (s.withFibreRx v).pins = s.pins := rfl
@[simp] theorem State.withFibreRx_clock (v : Receiver) : (s.withFibreRx v).clock = s.clock := rfl
@[simp] theorem State.withFibreRx_table (v : Receiver) : (s.withFibreRx v).table = s.table := rfl
@[simp] theorem State.withFibreRx_ingress (v : Receiver) :
    (s.withFibreRx v).ingress = s.ingress := rfl
@[simp] theorem State.withFibreRx_batch (v : Receiver) : (s.withFibreRx v).batch = s.batch := rfl
@[simp] theorem State.withFibreRx_fibreTx (v : Receiver) :
    (s.withFibreRx v).fibreTx = s.fibreTx := rfl
@[simp] theorem State.withFibreRx_radioTx (v : Receiver) :
    (s.withFibreRx v).radioTx = s.radioTx := rfl
@[simp] theorem State.withFibreRx_planner (v : Receiver) :
    (s.withFibreRx v).planner = s.planner := rfl
@[simp] theorem State.withFibreRx_fibreRx (v : Receiver) : (s.withFibreRx v).fibreRx = v := rfl
@[simp] theorem State.withFibreRx_radioRx (v : Receiver) :
    (s.withFibreRx v).radioRx = s.radioRx := rfl
@[simp] theorem State.withFibreRx_skew (v : Receiver) : (s.withFibreRx v).skew = s.skew := rfl
@[simp] theorem State.withFibreRx_merge (v : Receiver) : (s.withFibreRx v).merge = s.merge := rfl
@[simp] theorem State.withFibreRx_strike (v : Receiver) : (s.withFibreRx v).strike = s.strike := rfl
@[simp] theorem State.withFibreRx_egress (v : Receiver) : (s.withFibreRx v).egress = s.egress := rfl
@[simp] theorem State.withFibreRx_tally (v : Receiver) : (s.withFibreRx v).tally = s.tally := rfl
@[simp] theorem State.withFibreRx_mgmt (v : Receiver) : (s.withFibreRx v).mgmt = s.mgmt := rfl
@[simp] theorem State.withFibreRx_events (v : Receiver) : (s.withFibreRx v).events = s.events := rfl
@[simp] theorem State.withFibreRx_owed (v : Receiver) : (s.withFibreRx v).owed = s.owed := rfl
@[simp] theorem State.withFibreRx_expired (v : Receiver) :
    (s.withFibreRx v).expired = s.expired := rfl
@[simp] theorem State.withFibreRx_occasion (v : Receiver) :
    (s.withFibreRx v).occasion = s.occasion := rfl
@[simp] theorem State.withFibreRx_pending (v : Receiver) :
    (s.withFibreRx v).pending = s.pending := rfl

@[simp] theorem State.withRadioRx_inReset (v : Receiver) :
    (s.withRadioRx v).inReset = s.inReset := rfl
@[simp] theorem State.withRadioRx_role (v : Receiver) : (s.withRadioRx v).role = s.role := rfl
@[simp] theorem State.withRadioRx_pins (v : Receiver) : (s.withRadioRx v).pins = s.pins := rfl
@[simp] theorem State.withRadioRx_clock (v : Receiver) : (s.withRadioRx v).clock = s.clock := rfl
@[simp] theorem State.withRadioRx_table (v : Receiver) : (s.withRadioRx v).table = s.table := rfl
@[simp] theorem State.withRadioRx_ingress (v : Receiver) :
    (s.withRadioRx v).ingress = s.ingress := rfl
@[simp] theorem State.withRadioRx_batch (v : Receiver) : (s.withRadioRx v).batch = s.batch := rfl
@[simp] theorem State.withRadioRx_fibreTx (v : Receiver) :
    (s.withRadioRx v).fibreTx = s.fibreTx := rfl
@[simp] theorem State.withRadioRx_radioTx (v : Receiver) :
    (s.withRadioRx v).radioTx = s.radioTx := rfl
@[simp] theorem State.withRadioRx_planner (v : Receiver) :
    (s.withRadioRx v).planner = s.planner := rfl
@[simp] theorem State.withRadioRx_fibreRx (v : Receiver) :
    (s.withRadioRx v).fibreRx = s.fibreRx := rfl
@[simp] theorem State.withRadioRx_radioRx (v : Receiver) : (s.withRadioRx v).radioRx = v := rfl
@[simp] theorem State.withRadioRx_skew (v : Receiver) : (s.withRadioRx v).skew = s.skew := rfl
@[simp] theorem State.withRadioRx_merge (v : Receiver) : (s.withRadioRx v).merge = s.merge := rfl
@[simp] theorem State.withRadioRx_strike (v : Receiver) : (s.withRadioRx v).strike = s.strike := rfl
@[simp] theorem State.withRadioRx_egress (v : Receiver) : (s.withRadioRx v).egress = s.egress := rfl
@[simp] theorem State.withRadioRx_tally (v : Receiver) : (s.withRadioRx v).tally = s.tally := rfl
@[simp] theorem State.withRadioRx_mgmt (v : Receiver) : (s.withRadioRx v).mgmt = s.mgmt := rfl
@[simp] theorem State.withRadioRx_events (v : Receiver) : (s.withRadioRx v).events = s.events := rfl
@[simp] theorem State.withRadioRx_owed (v : Receiver) : (s.withRadioRx v).owed = s.owed := rfl
@[simp] theorem State.withRadioRx_expired (v : Receiver) :
    (s.withRadioRx v).expired = s.expired := rfl
@[simp] theorem State.withRadioRx_occasion (v : Receiver) :
    (s.withRadioRx v).occasion = s.occasion := rfl
@[simp] theorem State.withRadioRx_pending (v : Receiver) :
    (s.withRadioRx v).pending = s.pending := rfl

@[simp] theorem State.withSkew_inReset (v : SkewUnit) : (s.withSkew v).inReset = s.inReset := rfl
@[simp] theorem State.withSkew_role (v : SkewUnit) : (s.withSkew v).role = s.role := rfl
@[simp] theorem State.withSkew_pins (v : SkewUnit) : (s.withSkew v).pins = s.pins := rfl
@[simp] theorem State.withSkew_clock (v : SkewUnit) : (s.withSkew v).clock = s.clock := rfl
@[simp] theorem State.withSkew_table (v : SkewUnit) : (s.withSkew v).table = s.table := rfl
@[simp] theorem State.withSkew_ingress (v : SkewUnit) : (s.withSkew v).ingress = s.ingress := rfl
@[simp] theorem State.withSkew_batch (v : SkewUnit) : (s.withSkew v).batch = s.batch := rfl
@[simp] theorem State.withSkew_fibreTx (v : SkewUnit) : (s.withSkew v).fibreTx = s.fibreTx := rfl
@[simp] theorem State.withSkew_radioTx (v : SkewUnit) : (s.withSkew v).radioTx = s.radioTx := rfl
@[simp] theorem State.withSkew_planner (v : SkewUnit) : (s.withSkew v).planner = s.planner := rfl
@[simp] theorem State.withSkew_fibreRx (v : SkewUnit) : (s.withSkew v).fibreRx = s.fibreRx := rfl
@[simp] theorem State.withSkew_radioRx (v : SkewUnit) : (s.withSkew v).radioRx = s.radioRx := rfl
@[simp] theorem State.withSkew_skew (v : SkewUnit) : (s.withSkew v).skew = v := rfl
@[simp] theorem State.withSkew_merge (v : SkewUnit) : (s.withSkew v).merge = s.merge := rfl
@[simp] theorem State.withSkew_strike (v : SkewUnit) : (s.withSkew v).strike = s.strike := rfl
@[simp] theorem State.withSkew_egress (v : SkewUnit) : (s.withSkew v).egress = s.egress := rfl
@[simp] theorem State.withSkew_tally (v : SkewUnit) : (s.withSkew v).tally = s.tally := rfl
@[simp] theorem State.withSkew_mgmt (v : SkewUnit) : (s.withSkew v).mgmt = s.mgmt := rfl
@[simp] theorem State.withSkew_events (v : SkewUnit) : (s.withSkew v).events = s.events := rfl
@[simp] theorem State.withSkew_owed (v : SkewUnit) : (s.withSkew v).owed = s.owed := rfl
@[simp] theorem State.withSkew_expired (v : SkewUnit) : (s.withSkew v).expired = s.expired := rfl
@[simp] theorem State.withSkew_occasion (v : SkewUnit) : (s.withSkew v).occasion = s.occasion := rfl
@[simp] theorem State.withSkew_pending (v : SkewUnit) : (s.withSkew v).pending = s.pending := rfl

@[simp] theorem State.withMerge_inReset (v : MergeUnit) : (s.withMerge v).inReset = s.inReset := rfl
@[simp] theorem State.withMerge_role (v : MergeUnit) : (s.withMerge v).role = s.role := rfl
@[simp] theorem State.withMerge_pins (v : MergeUnit) : (s.withMerge v).pins = s.pins := rfl
@[simp] theorem State.withMerge_clock (v : MergeUnit) : (s.withMerge v).clock = s.clock := rfl
@[simp] theorem State.withMerge_table (v : MergeUnit) : (s.withMerge v).table = s.table := rfl
@[simp] theorem State.withMerge_ingress (v : MergeUnit) : (s.withMerge v).ingress = s.ingress := rfl
@[simp] theorem State.withMerge_batch (v : MergeUnit) : (s.withMerge v).batch = s.batch := rfl
@[simp] theorem State.withMerge_fibreTx (v : MergeUnit) : (s.withMerge v).fibreTx = s.fibreTx := rfl
@[simp] theorem State.withMerge_radioTx (v : MergeUnit) : (s.withMerge v).radioTx = s.radioTx := rfl
@[simp] theorem State.withMerge_planner (v : MergeUnit) : (s.withMerge v).planner = s.planner := rfl
@[simp] theorem State.withMerge_fibreRx (v : MergeUnit) : (s.withMerge v).fibreRx = s.fibreRx := rfl
@[simp] theorem State.withMerge_radioRx (v : MergeUnit) : (s.withMerge v).radioRx = s.radioRx := rfl
@[simp] theorem State.withMerge_skew (v : MergeUnit) : (s.withMerge v).skew = s.skew := rfl
@[simp] theorem State.withMerge_merge (v : MergeUnit) : (s.withMerge v).merge = v := rfl
@[simp] theorem State.withMerge_strike (v : MergeUnit) : (s.withMerge v).strike = s.strike := rfl
@[simp] theorem State.withMerge_egress (v : MergeUnit) : (s.withMerge v).egress = s.egress := rfl
@[simp] theorem State.withMerge_tally (v : MergeUnit) : (s.withMerge v).tally = s.tally := rfl
@[simp] theorem State.withMerge_mgmt (v : MergeUnit) : (s.withMerge v).mgmt = s.mgmt := rfl
@[simp] theorem State.withMerge_events (v : MergeUnit) : (s.withMerge v).events = s.events := rfl
@[simp] theorem State.withMerge_owed (v : MergeUnit) : (s.withMerge v).owed = s.owed := rfl
@[simp] theorem State.withMerge_expired (v : MergeUnit) : (s.withMerge v).expired = s.expired := rfl
@[simp] theorem State.withMerge_occasion (v : MergeUnit) :
    (s.withMerge v).occasion = s.occasion := rfl
@[simp] theorem State.withMerge_pending (v : MergeUnit) : (s.withMerge v).pending = s.pending := rfl

@[simp] theorem State.withStrike_inReset (v : StrikeMonitor) :
    (s.withStrike v).inReset = s.inReset := rfl
@[simp] theorem State.withStrike_role (v : StrikeMonitor) : (s.withStrike v).role = s.role := rfl
@[simp] theorem State.withStrike_pins (v : StrikeMonitor) : (s.withStrike v).pins = s.pins := rfl
@[simp] theorem State.withStrike_clock (v : StrikeMonitor) : (s.withStrike v).clock = s.clock := rfl
@[simp] theorem State.withStrike_table (v : StrikeMonitor) : (s.withStrike v).table = s.table := rfl
@[simp] theorem State.withStrike_ingress (v : StrikeMonitor) :
    (s.withStrike v).ingress = s.ingress := rfl
@[simp] theorem State.withStrike_batch (v : StrikeMonitor) : (s.withStrike v).batch = s.batch := rfl
@[simp] theorem State.withStrike_fibreTx (v : StrikeMonitor) :
    (s.withStrike v).fibreTx = s.fibreTx := rfl
@[simp] theorem State.withStrike_radioTx (v : StrikeMonitor) :
    (s.withStrike v).radioTx = s.radioTx := rfl
@[simp] theorem State.withStrike_planner (v : StrikeMonitor) :
    (s.withStrike v).planner = s.planner := rfl
@[simp] theorem State.withStrike_fibreRx (v : StrikeMonitor) :
    (s.withStrike v).fibreRx = s.fibreRx := rfl
@[simp] theorem State.withStrike_radioRx (v : StrikeMonitor) :
    (s.withStrike v).radioRx = s.radioRx := rfl
@[simp] theorem State.withStrike_skew (v : StrikeMonitor) : (s.withStrike v).skew = s.skew := rfl
@[simp] theorem State.withStrike_merge (v : StrikeMonitor) : (s.withStrike v).merge = s.merge := rfl
@[simp] theorem State.withStrike_strike (v : StrikeMonitor) : (s.withStrike v).strike = v := rfl
@[simp] theorem State.withStrike_egress (v : StrikeMonitor) :
    (s.withStrike v).egress = s.egress := rfl
@[simp] theorem State.withStrike_tally (v : StrikeMonitor) : (s.withStrike v).tally = s.tally := rfl
@[simp] theorem State.withStrike_mgmt (v : StrikeMonitor) : (s.withStrike v).mgmt = s.mgmt := rfl
@[simp] theorem State.withStrike_events (v : StrikeMonitor) :
    (s.withStrike v).events = s.events := rfl
@[simp] theorem State.withStrike_owed (v : StrikeMonitor) : (s.withStrike v).owed = s.owed := rfl
@[simp] theorem State.withStrike_expired (v : StrikeMonitor) :
    (s.withStrike v).expired = s.expired := rfl
@[simp] theorem State.withStrike_occasion (v : StrikeMonitor) :
    (s.withStrike v).occasion = s.occasion := rfl
@[simp] theorem State.withStrike_pending (v : StrikeMonitor) :
    (s.withStrike v).pending = s.pending := rfl

@[simp] theorem State.withEgress_inReset (v : EgressPorts) :
    (s.withEgress v).inReset = s.inReset := rfl
@[simp] theorem State.withEgress_role (v : EgressPorts) : (s.withEgress v).role = s.role := rfl
@[simp] theorem State.withEgress_pins (v : EgressPorts) : (s.withEgress v).pins = s.pins := rfl
@[simp] theorem State.withEgress_clock (v : EgressPorts) : (s.withEgress v).clock = s.clock := rfl
@[simp] theorem State.withEgress_table (v : EgressPorts) : (s.withEgress v).table = s.table := rfl
@[simp] theorem State.withEgress_ingress (v : EgressPorts) :
    (s.withEgress v).ingress = s.ingress := rfl
@[simp] theorem State.withEgress_batch (v : EgressPorts) : (s.withEgress v).batch = s.batch := rfl
@[simp] theorem State.withEgress_fibreTx (v : EgressPorts) :
    (s.withEgress v).fibreTx = s.fibreTx := rfl
@[simp] theorem State.withEgress_radioTx (v : EgressPorts) :
    (s.withEgress v).radioTx = s.radioTx := rfl
@[simp] theorem State.withEgress_planner (v : EgressPorts) :
    (s.withEgress v).planner = s.planner := rfl
@[simp] theorem State.withEgress_fibreRx (v : EgressPorts) :
    (s.withEgress v).fibreRx = s.fibreRx := rfl
@[simp] theorem State.withEgress_radioRx (v : EgressPorts) :
    (s.withEgress v).radioRx = s.radioRx := rfl
@[simp] theorem State.withEgress_skew (v : EgressPorts) : (s.withEgress v).skew = s.skew := rfl
@[simp] theorem State.withEgress_merge (v : EgressPorts) : (s.withEgress v).merge = s.merge := rfl
@[simp] theorem State.withEgress_strike (v : EgressPorts) :
    (s.withEgress v).strike = s.strike := rfl
@[simp] theorem State.withEgress_egress (v : EgressPorts) : (s.withEgress v).egress = v := rfl
@[simp] theorem State.withEgress_tally (v : EgressPorts) : (s.withEgress v).tally = s.tally := rfl
@[simp] theorem State.withEgress_mgmt (v : EgressPorts) : (s.withEgress v).mgmt = s.mgmt := rfl
@[simp] theorem State.withEgress_events (v : EgressPorts) :
    (s.withEgress v).events = s.events := rfl
@[simp] theorem State.withEgress_owed (v : EgressPorts) : (s.withEgress v).owed = s.owed := rfl
@[simp] theorem State.withEgress_expired (v : EgressPorts) :
    (s.withEgress v).expired = s.expired := rfl
@[simp] theorem State.withEgress_occasion (v : EgressPorts) :
    (s.withEgress v).occasion = s.occasion := rfl
@[simp] theorem State.withEgress_pending (v : EgressPorts) :
    (s.withEgress v).pending = s.pending := rfl

@[simp] theorem State.withTally_inReset (v : TallyUnit) : (s.withTally v).inReset = s.inReset := rfl
@[simp] theorem State.withTally_role (v : TallyUnit) : (s.withTally v).role = s.role := rfl
@[simp] theorem State.withTally_pins (v : TallyUnit) : (s.withTally v).pins = s.pins := rfl
@[simp] theorem State.withTally_clock (v : TallyUnit) : (s.withTally v).clock = s.clock := rfl
@[simp] theorem State.withTally_table (v : TallyUnit) : (s.withTally v).table = s.table := rfl
@[simp] theorem State.withTally_ingress (v : TallyUnit) : (s.withTally v).ingress = s.ingress := rfl
@[simp] theorem State.withTally_batch (v : TallyUnit) : (s.withTally v).batch = s.batch := rfl
@[simp] theorem State.withTally_fibreTx (v : TallyUnit) : (s.withTally v).fibreTx = s.fibreTx := rfl
@[simp] theorem State.withTally_radioTx (v : TallyUnit) : (s.withTally v).radioTx = s.radioTx := rfl
@[simp] theorem State.withTally_planner (v : TallyUnit) : (s.withTally v).planner = s.planner := rfl
@[simp] theorem State.withTally_fibreRx (v : TallyUnit) : (s.withTally v).fibreRx = s.fibreRx := rfl
@[simp] theorem State.withTally_radioRx (v : TallyUnit) : (s.withTally v).radioRx = s.radioRx := rfl
@[simp] theorem State.withTally_skew (v : TallyUnit) : (s.withTally v).skew = s.skew := rfl
@[simp] theorem State.withTally_merge (v : TallyUnit) : (s.withTally v).merge = s.merge := rfl
@[simp] theorem State.withTally_strike (v : TallyUnit) : (s.withTally v).strike = s.strike := rfl
@[simp] theorem State.withTally_egress (v : TallyUnit) : (s.withTally v).egress = s.egress := rfl
@[simp] theorem State.withTally_tally (v : TallyUnit) : (s.withTally v).tally = v := rfl
@[simp] theorem State.withTally_mgmt (v : TallyUnit) : (s.withTally v).mgmt = s.mgmt := rfl
@[simp] theorem State.withTally_events (v : TallyUnit) : (s.withTally v).events = s.events := rfl
@[simp] theorem State.withTally_owed (v : TallyUnit) : (s.withTally v).owed = s.owed := rfl
@[simp] theorem State.withTally_expired (v : TallyUnit) : (s.withTally v).expired = s.expired := rfl
@[simp] theorem State.withTally_occasion (v : TallyUnit) :
    (s.withTally v).occasion = s.occasion := rfl
@[simp] theorem State.withTally_pending (v : TallyUnit) : (s.withTally v).pending = s.pending := rfl

@[simp] theorem State.withMgmt_inReset (v : ManagementUnit) :
    (s.withMgmt v).inReset = s.inReset := rfl
@[simp] theorem State.withMgmt_role (v : ManagementUnit) : (s.withMgmt v).role = s.role := rfl
@[simp] theorem State.withMgmt_pins (v : ManagementUnit) : (s.withMgmt v).pins = s.pins := rfl
@[simp] theorem State.withMgmt_clock (v : ManagementUnit) : (s.withMgmt v).clock = s.clock := rfl
@[simp] theorem State.withMgmt_table (v : ManagementUnit) : (s.withMgmt v).table = s.table := rfl
@[simp] theorem State.withMgmt_ingress (v : ManagementUnit) :
    (s.withMgmt v).ingress = s.ingress := rfl
@[simp] theorem State.withMgmt_batch (v : ManagementUnit) : (s.withMgmt v).batch = s.batch := rfl
@[simp] theorem State.withMgmt_fibreTx (v : ManagementUnit) :
    (s.withMgmt v).fibreTx = s.fibreTx := rfl
@[simp] theorem State.withMgmt_radioTx (v : ManagementUnit) :
    (s.withMgmt v).radioTx = s.radioTx := rfl
@[simp] theorem State.withMgmt_planner (v : ManagementUnit) :
    (s.withMgmt v).planner = s.planner := rfl
@[simp] theorem State.withMgmt_fibreRx (v : ManagementUnit) :
    (s.withMgmt v).fibreRx = s.fibreRx := rfl
@[simp] theorem State.withMgmt_radioRx (v : ManagementUnit) :
    (s.withMgmt v).radioRx = s.radioRx := rfl
@[simp] theorem State.withMgmt_skew (v : ManagementUnit) : (s.withMgmt v).skew = s.skew := rfl
@[simp] theorem State.withMgmt_merge (v : ManagementUnit) : (s.withMgmt v).merge = s.merge := rfl
@[simp] theorem State.withMgmt_strike (v : ManagementUnit) : (s.withMgmt v).strike = s.strike := rfl
@[simp] theorem State.withMgmt_egress (v : ManagementUnit) : (s.withMgmt v).egress = s.egress := rfl
@[simp] theorem State.withMgmt_tally (v : ManagementUnit) : (s.withMgmt v).tally = s.tally := rfl
@[simp] theorem State.withMgmt_mgmt (v : ManagementUnit) : (s.withMgmt v).mgmt = v := rfl
@[simp] theorem State.withMgmt_events (v : ManagementUnit) : (s.withMgmt v).events = s.events := rfl
@[simp] theorem State.withMgmt_owed (v : ManagementUnit) : (s.withMgmt v).owed = s.owed := rfl
@[simp] theorem State.withMgmt_expired (v : ManagementUnit) :
    (s.withMgmt v).expired = s.expired := rfl
@[simp] theorem State.withMgmt_occasion (v : ManagementUnit) :
    (s.withMgmt v).occasion = s.occasion := rfl
@[simp] theorem State.withMgmt_pending (v : ManagementUnit) :
    (s.withMgmt v).pending = s.pending := rfl

@[simp] theorem State.withEvents_inReset (v : EventUnit) :
    (s.withEvents v).inReset = s.inReset := rfl
@[simp] theorem State.withEvents_role (v : EventUnit) : (s.withEvents v).role = s.role := rfl
@[simp] theorem State.withEvents_pins (v : EventUnit) : (s.withEvents v).pins = s.pins := rfl
@[simp] theorem State.withEvents_clock (v : EventUnit) : (s.withEvents v).clock = s.clock := rfl
@[simp] theorem State.withEvents_table (v : EventUnit) : (s.withEvents v).table = s.table := rfl
@[simp] theorem State.withEvents_ingress (v : EventUnit) :
    (s.withEvents v).ingress = s.ingress := rfl
@[simp] theorem State.withEvents_batch (v : EventUnit) : (s.withEvents v).batch = s.batch := rfl
@[simp] theorem State.withEvents_fibreTx (v : EventUnit) :
    (s.withEvents v).fibreTx = s.fibreTx := rfl
@[simp] theorem State.withEvents_radioTx (v : EventUnit) :
    (s.withEvents v).radioTx = s.radioTx := rfl
@[simp] theorem State.withEvents_planner (v : EventUnit) :
    (s.withEvents v).planner = s.planner := rfl
@[simp] theorem State.withEvents_fibreRx (v : EventUnit) :
    (s.withEvents v).fibreRx = s.fibreRx := rfl
@[simp] theorem State.withEvents_radioRx (v : EventUnit) :
    (s.withEvents v).radioRx = s.radioRx := rfl
@[simp] theorem State.withEvents_skew (v : EventUnit) : (s.withEvents v).skew = s.skew := rfl
@[simp] theorem State.withEvents_merge (v : EventUnit) : (s.withEvents v).merge = s.merge := rfl
@[simp] theorem State.withEvents_strike (v : EventUnit) : (s.withEvents v).strike = s.strike := rfl
@[simp] theorem State.withEvents_egress (v : EventUnit) : (s.withEvents v).egress = s.egress := rfl
@[simp] theorem State.withEvents_tally (v : EventUnit) : (s.withEvents v).tally = s.tally := rfl
@[simp] theorem State.withEvents_mgmt (v : EventUnit) : (s.withEvents v).mgmt = s.mgmt := rfl
@[simp] theorem State.withEvents_events (v : EventUnit) : (s.withEvents v).events = v := rfl
@[simp] theorem State.withEvents_owed (v : EventUnit) : (s.withEvents v).owed = s.owed := rfl
@[simp] theorem State.withEvents_expired (v : EventUnit) :
    (s.withEvents v).expired = s.expired := rfl
@[simp] theorem State.withEvents_occasion (v : EventUnit) :
    (s.withEvents v).occasion = s.occasion := rfl
@[simp] theorem State.withEvents_pending (v : EventUnit) :
    (s.withEvents v).pending = s.pending := rfl

@[simp] theorem State.withOwed_inReset (v : List OwedStart) :
    (s.withOwed v).inReset = s.inReset := rfl
@[simp] theorem State.withOwed_role (v : List OwedStart) : (s.withOwed v).role = s.role := rfl
@[simp] theorem State.withOwed_pins (v : List OwedStart) : (s.withOwed v).pins = s.pins := rfl
@[simp] theorem State.withOwed_clock (v : List OwedStart) : (s.withOwed v).clock = s.clock := rfl
@[simp] theorem State.withOwed_table (v : List OwedStart) : (s.withOwed v).table = s.table := rfl
@[simp] theorem State.withOwed_ingress (v : List OwedStart) :
    (s.withOwed v).ingress = s.ingress := rfl
@[simp] theorem State.withOwed_batch (v : List OwedStart) : (s.withOwed v).batch = s.batch := rfl
@[simp] theorem State.withOwed_fibreTx (v : List OwedStart) :
    (s.withOwed v).fibreTx = s.fibreTx := rfl
@[simp] theorem State.withOwed_radioTx (v : List OwedStart) :
    (s.withOwed v).radioTx = s.radioTx := rfl
@[simp] theorem State.withOwed_planner (v : List OwedStart) :
    (s.withOwed v).planner = s.planner := rfl
@[simp] theorem State.withOwed_fibreRx (v : List OwedStart) :
    (s.withOwed v).fibreRx = s.fibreRx := rfl
@[simp] theorem State.withOwed_radioRx (v : List OwedStart) :
    (s.withOwed v).radioRx = s.radioRx := rfl
@[simp] theorem State.withOwed_skew (v : List OwedStart) : (s.withOwed v).skew = s.skew := rfl
@[simp] theorem State.withOwed_merge (v : List OwedStart) : (s.withOwed v).merge = s.merge := rfl
@[simp] theorem State.withOwed_strike (v : List OwedStart) : (s.withOwed v).strike = s.strike := rfl
@[simp] theorem State.withOwed_egress (v : List OwedStart) : (s.withOwed v).egress = s.egress := rfl
@[simp] theorem State.withOwed_tally (v : List OwedStart) : (s.withOwed v).tally = s.tally := rfl
@[simp] theorem State.withOwed_mgmt (v : List OwedStart) : (s.withOwed v).mgmt = s.mgmt := rfl
@[simp] theorem State.withOwed_events (v : List OwedStart) : (s.withOwed v).events = s.events := rfl
@[simp] theorem State.withOwed_owed (v : List OwedStart) : (s.withOwed v).owed = v := rfl
@[simp] theorem State.withOwed_expired (v : List OwedStart) :
    (s.withOwed v).expired = s.expired := rfl
@[simp] theorem State.withOwed_occasion (v : List OwedStart) :
    (s.withOwed v).occasion = s.occasion := rfl
@[simp] theorem State.withOwed_pending (v : List OwedStart) :
    (s.withOwed v).pending = s.pending := rfl

@[simp] theorem State.withExpired_inReset (v : Tab 64 Bool) :
    (s.withExpired v).inReset = s.inReset := rfl
@[simp] theorem State.withExpired_role (v : Tab 64 Bool) : (s.withExpired v).role = s.role := rfl
@[simp] theorem State.withExpired_pins (v : Tab 64 Bool) : (s.withExpired v).pins = s.pins := rfl
@[simp] theorem State.withExpired_clock (v : Tab 64 Bool) : (s.withExpired v).clock = s.clock := rfl
@[simp] theorem State.withExpired_table (v : Tab 64 Bool) : (s.withExpired v).table = s.table := rfl
@[simp] theorem State.withExpired_ingress (v : Tab 64 Bool) :
    (s.withExpired v).ingress = s.ingress := rfl
@[simp] theorem State.withExpired_batch (v : Tab 64 Bool) : (s.withExpired v).batch = s.batch := rfl
@[simp] theorem State.withExpired_fibreTx (v : Tab 64 Bool) :
    (s.withExpired v).fibreTx = s.fibreTx := rfl
@[simp] theorem State.withExpired_radioTx (v : Tab 64 Bool) :
    (s.withExpired v).radioTx = s.radioTx := rfl
@[simp] theorem State.withExpired_planner (v : Tab 64 Bool) :
    (s.withExpired v).planner = s.planner := rfl
@[simp] theorem State.withExpired_fibreRx (v : Tab 64 Bool) :
    (s.withExpired v).fibreRx = s.fibreRx := rfl
@[simp] theorem State.withExpired_radioRx (v : Tab 64 Bool) :
    (s.withExpired v).radioRx = s.radioRx := rfl
@[simp] theorem State.withExpired_skew (v : Tab 64 Bool) : (s.withExpired v).skew = s.skew := rfl
@[simp] theorem State.withExpired_merge (v : Tab 64 Bool) : (s.withExpired v).merge = s.merge := rfl
@[simp] theorem State.withExpired_strike (v : Tab 64 Bool) :
    (s.withExpired v).strike = s.strike := rfl
@[simp] theorem State.withExpired_egress (v : Tab 64 Bool) :
    (s.withExpired v).egress = s.egress := rfl
@[simp] theorem State.withExpired_tally (v : Tab 64 Bool) : (s.withExpired v).tally = s.tally := rfl
@[simp] theorem State.withExpired_mgmt (v : Tab 64 Bool) : (s.withExpired v).mgmt = s.mgmt := rfl
@[simp] theorem State.withExpired_events (v : Tab 64 Bool) :
    (s.withExpired v).events = s.events := rfl
@[simp] theorem State.withExpired_owed (v : Tab 64 Bool) : (s.withExpired v).owed = s.owed := rfl
@[simp] theorem State.withExpired_expired (v : Tab 64 Bool) : (s.withExpired v).expired = v := rfl
@[simp] theorem State.withExpired_occasion (v : Tab 64 Bool) :
    (s.withExpired v).occasion = s.occasion := rfl
@[simp] theorem State.withExpired_pending (v : Tab 64 Bool) :
    (s.withExpired v).pending = s.pending := rfl

@[simp] theorem State.withOccasion_inReset (v : Nat) : (s.withOccasion v).inReset = s.inReset := rfl
@[simp] theorem State.withOccasion_role (v : Nat) : (s.withOccasion v).role = s.role := rfl
@[simp] theorem State.withOccasion_pins (v : Nat) : (s.withOccasion v).pins = s.pins := rfl
@[simp] theorem State.withOccasion_clock (v : Nat) : (s.withOccasion v).clock = s.clock := rfl
@[simp] theorem State.withOccasion_table (v : Nat) : (s.withOccasion v).table = s.table := rfl
@[simp] theorem State.withOccasion_ingress (v : Nat) : (s.withOccasion v).ingress = s.ingress := rfl
@[simp] theorem State.withOccasion_batch (v : Nat) : (s.withOccasion v).batch = s.batch := rfl
@[simp] theorem State.withOccasion_fibreTx (v : Nat) : (s.withOccasion v).fibreTx = s.fibreTx := rfl
@[simp] theorem State.withOccasion_radioTx (v : Nat) : (s.withOccasion v).radioTx = s.radioTx := rfl
@[simp] theorem State.withOccasion_planner (v : Nat) : (s.withOccasion v).planner = s.planner := rfl
@[simp] theorem State.withOccasion_fibreRx (v : Nat) : (s.withOccasion v).fibreRx = s.fibreRx := rfl
@[simp] theorem State.withOccasion_radioRx (v : Nat) : (s.withOccasion v).radioRx = s.radioRx := rfl
@[simp] theorem State.withOccasion_skew (v : Nat) : (s.withOccasion v).skew = s.skew := rfl
@[simp] theorem State.withOccasion_merge (v : Nat) : (s.withOccasion v).merge = s.merge := rfl
@[simp] theorem State.withOccasion_strike (v : Nat) : (s.withOccasion v).strike = s.strike := rfl
@[simp] theorem State.withOccasion_egress (v : Nat) : (s.withOccasion v).egress = s.egress := rfl
@[simp] theorem State.withOccasion_tally (v : Nat) : (s.withOccasion v).tally = s.tally := rfl
@[simp] theorem State.withOccasion_mgmt (v : Nat) : (s.withOccasion v).mgmt = s.mgmt := rfl
@[simp] theorem State.withOccasion_events (v : Nat) : (s.withOccasion v).events = s.events := rfl
@[simp] theorem State.withOccasion_owed (v : Nat) : (s.withOccasion v).owed = s.owed := rfl
@[simp] theorem State.withOccasion_expired (v : Nat) : (s.withOccasion v).expired = s.expired := rfl
@[simp] theorem State.withOccasion_occasion (v : Nat) : (s.withOccasion v).occasion = v := rfl
@[simp] theorem State.withOccasion_pending (v : Nat) : (s.withOccasion v).pending = s.pending := rfl

@[simp] theorem State.withPending_inReset (v : List Instr) :
    (s.withPending v).inReset = s.inReset := rfl
@[simp] theorem State.withPending_role (v : List Instr) : (s.withPending v).role = s.role := rfl
@[simp] theorem State.withPending_pins (v : List Instr) : (s.withPending v).pins = s.pins := rfl
@[simp] theorem State.withPending_clock (v : List Instr) : (s.withPending v).clock = s.clock := rfl
@[simp] theorem State.withPending_table (v : List Instr) : (s.withPending v).table = s.table := rfl
@[simp] theorem State.withPending_ingress (v : List Instr) :
    (s.withPending v).ingress = s.ingress := rfl
@[simp] theorem State.withPending_batch (v : List Instr) : (s.withPending v).batch = s.batch := rfl
@[simp] theorem State.withPending_fibreTx (v : List Instr) :
    (s.withPending v).fibreTx = s.fibreTx := rfl
@[simp] theorem State.withPending_radioTx (v : List Instr) :
    (s.withPending v).radioTx = s.radioTx := rfl
@[simp] theorem State.withPending_planner (v : List Instr) :
    (s.withPending v).planner = s.planner := rfl
@[simp] theorem State.withPending_fibreRx (v : List Instr) :
    (s.withPending v).fibreRx = s.fibreRx := rfl
@[simp] theorem State.withPending_radioRx (v : List Instr) :
    (s.withPending v).radioRx = s.radioRx := rfl
@[simp] theorem State.withPending_skew (v : List Instr) : (s.withPending v).skew = s.skew := rfl
@[simp] theorem State.withPending_merge (v : List Instr) : (s.withPending v).merge = s.merge := rfl
@[simp] theorem State.withPending_strike (v : List Instr) :
    (s.withPending v).strike = s.strike := rfl
@[simp] theorem State.withPending_egress (v : List Instr) :
    (s.withPending v).egress = s.egress := rfl
@[simp] theorem State.withPending_tally (v : List Instr) : (s.withPending v).tally = s.tally := rfl
@[simp] theorem State.withPending_mgmt (v : List Instr) : (s.withPending v).mgmt = s.mgmt := rfl
@[simp] theorem State.withPending_events (v : List Instr) :
    (s.withPending v).events = s.events := rfl
@[simp] theorem State.withPending_owed (v : List Instr) : (s.withPending v).owed = s.owed := rfl
@[simp] theorem State.withPending_expired (v : List Instr) :
    (s.withPending v).expired = s.expired := rfl
@[simp] theorem State.withPending_occasion (v : List Instr) :
    (s.withPending v).occasion = s.occasion := rfl
@[simp] theorem State.withPending_pending (v : List Instr) : (s.withPending v).pending = v := rfl

end Sys2Proof.Machine
end

