-- ==== Sys2Proof/Laws/Frames.lean ====
section
/-! SUPPORT. What each shared operation leaves alone: one lemma a field that the operation does not
change. -/

namespace Sys2Proof.Machine

variable (s : State)

@[simp] theorem State.withRx_inReset (b : Bearer) (v : Receiver) :
    (s.withRx b v).inReset = s.inReset := by cases b <;> rfl
@[simp] theorem State.withRx_role (b : Bearer) (v : Receiver) :
    (s.withRx b v).role = s.role := by cases b <;> rfl
@[simp] theorem State.withRx_pins (b : Bearer) (v : Receiver) :
    (s.withRx b v).pins = s.pins := by cases b <;> rfl
@[simp] theorem State.withRx_clock (b : Bearer) (v : Receiver) :
    (s.withRx b v).clock = s.clock := by cases b <;> rfl
@[simp] theorem State.withRx_table (b : Bearer) (v : Receiver) :
    (s.withRx b v).table = s.table := by cases b <;> rfl
@[simp] theorem State.withRx_ingress (b : Bearer) (v : Receiver) :
    (s.withRx b v).ingress = s.ingress := by cases b <;> rfl
@[simp] theorem State.withRx_batch (b : Bearer) (v : Receiver) :
    (s.withRx b v).batch = s.batch := by cases b <;> rfl
@[simp] theorem State.withRx_fibreTx (b : Bearer) (v : Receiver) :
    (s.withRx b v).fibreTx = s.fibreTx := by cases b <;> rfl
@[simp] theorem State.withRx_radioTx (b : Bearer) (v : Receiver) :
    (s.withRx b v).radioTx = s.radioTx := by cases b <;> rfl
@[simp] theorem State.withRx_planner (b : Bearer) (v : Receiver) :
    (s.withRx b v).planner = s.planner := by cases b <;> rfl
@[simp] theorem State.withRx_skew (b : Bearer) (v : Receiver) :
    (s.withRx b v).skew = s.skew := by cases b <;> rfl
@[simp] theorem State.withRx_merge (b : Bearer) (v : Receiver) :
    (s.withRx b v).merge = s.merge := by cases b <;> rfl
@[simp] theorem State.withRx_strike (b : Bearer) (v : Receiver) :
    (s.withRx b v).strike = s.strike := by cases b <;> rfl
@[simp] theorem State.withRx_egress (b : Bearer) (v : Receiver) :
    (s.withRx b v).egress = s.egress := by cases b <;> rfl
@[simp] theorem State.withRx_tally (b : Bearer) (v : Receiver) :
    (s.withRx b v).tally = s.tally := by cases b <;> rfl
@[simp] theorem State.withRx_mgmt (b : Bearer) (v : Receiver) :
    (s.withRx b v).mgmt = s.mgmt := by cases b <;> rfl
@[simp] theorem State.withRx_events (b : Bearer) (v : Receiver) :
    (s.withRx b v).events = s.events := by cases b <;> rfl
@[simp] theorem State.withRx_owed (b : Bearer) (v : Receiver) :
    (s.withRx b v).owed = s.owed := by cases b <;> rfl
@[simp] theorem State.withRx_expired (b : Bearer) (v : Receiver) :
    (s.withRx b v).expired = s.expired := by cases b <;> rfl
@[simp] theorem State.withRx_occasion (b : Bearer) (v : Receiver) :
    (s.withRx b v).occasion = s.occasion := by cases b <;> rfl
@[simp] theorem State.withRx_pending (b : Bearer) (v : Receiver) :
    (s.withRx b v).pending = s.pending := by cases b <;> rfl

@[simp] theorem State.withTx_inReset (b : Bearer) (v : Transmitter) :
    (s.withTx b v).inReset = s.inReset := by cases b <;> rfl
@[simp] theorem State.withTx_role (b : Bearer) (v : Transmitter) :
    (s.withTx b v).role = s.role := by cases b <;> rfl
@[simp] theorem State.withTx_pins (b : Bearer) (v : Transmitter) :
    (s.withTx b v).pins = s.pins := by cases b <;> rfl
@[simp] theorem State.withTx_clock (b : Bearer) (v : Transmitter) :
    (s.withTx b v).clock = s.clock := by cases b <;> rfl
@[simp] theorem State.withTx_table (b : Bearer) (v : Transmitter) :
    (s.withTx b v).table = s.table := by cases b <;> rfl
@[simp] theorem State.withTx_ingress (b : Bearer) (v : Transmitter) :
    (s.withTx b v).ingress = s.ingress := by cases b <;> rfl
@[simp] theorem State.withTx_batch (b : Bearer) (v : Transmitter) :
    (s.withTx b v).batch = s.batch := by cases b <;> rfl
@[simp] theorem State.withTx_planner (b : Bearer) (v : Transmitter) :
    (s.withTx b v).planner = s.planner := by cases b <;> rfl
@[simp] theorem State.withTx_fibreRx (b : Bearer) (v : Transmitter) :
    (s.withTx b v).fibreRx = s.fibreRx := by cases b <;> rfl
@[simp] theorem State.withTx_radioRx (b : Bearer) (v : Transmitter) :
    (s.withTx b v).radioRx = s.radioRx := by cases b <;> rfl
@[simp] theorem State.withTx_skew (b : Bearer) (v : Transmitter) :
    (s.withTx b v).skew = s.skew := by cases b <;> rfl
@[simp] theorem State.withTx_merge (b : Bearer) (v : Transmitter) :
    (s.withTx b v).merge = s.merge := by cases b <;> rfl
@[simp] theorem State.withTx_strike (b : Bearer) (v : Transmitter) :
    (s.withTx b v).strike = s.strike := by cases b <;> rfl
@[simp] theorem State.withTx_egress (b : Bearer) (v : Transmitter) :
    (s.withTx b v).egress = s.egress := by cases b <;> rfl
@[simp] theorem State.withTx_tally (b : Bearer) (v : Transmitter) :
    (s.withTx b v).tally = s.tally := by cases b <;> rfl
@[simp] theorem State.withTx_mgmt (b : Bearer) (v : Transmitter) :
    (s.withTx b v).mgmt = s.mgmt := by cases b <;> rfl
@[simp] theorem State.withTx_events (b : Bearer) (v : Transmitter) :
    (s.withTx b v).events = s.events := by cases b <;> rfl
@[simp] theorem State.withTx_owed (b : Bearer) (v : Transmitter) :
    (s.withTx b v).owed = s.owed := by cases b <;> rfl
@[simp] theorem State.withTx_expired (b : Bearer) (v : Transmitter) :
    (s.withTx b v).expired = s.expired := by cases b <;> rfl
@[simp] theorem State.withTx_occasion (b : Bearer) (v : Transmitter) :
    (s.withTx b v).occasion = s.occasion := by cases b <;> rfl
@[simp] theorem State.withTx_pending (b : Bearer) (v : Transmitter) :
    (s.withTx b v).pending = s.pending := by cases b <;> rfl

@[simp] theorem State.raise_inReset (e : EventId) (d : EventDetail) :
    (s.raise e d).inReset = s.inReset := rfl
@[simp] theorem State.raise_role (e : EventId) (d : EventDetail) :
    (s.raise e d).role = s.role := rfl
@[simp] theorem State.raise_pins (e : EventId) (d : EventDetail) :
    (s.raise e d).pins = s.pins := rfl
@[simp] theorem State.raise_clock (e : EventId) (d : EventDetail) :
    (s.raise e d).clock = s.clock := rfl
@[simp] theorem State.raise_table (e : EventId) (d : EventDetail) :
    (s.raise e d).table = s.table := rfl
@[simp] theorem State.raise_ingress (e : EventId) (d : EventDetail) :
    (s.raise e d).ingress = s.ingress := rfl
@[simp] theorem State.raise_batch (e : EventId) (d : EventDetail) :
    (s.raise e d).batch = s.batch := rfl
@[simp] theorem State.raise_fibreTx (e : EventId) (d : EventDetail) :
    (s.raise e d).fibreTx = s.fibreTx := rfl
@[simp] theorem State.raise_radioTx (e : EventId) (d : EventDetail) :
    (s.raise e d).radioTx = s.radioTx := rfl
@[simp] theorem State.raise_planner (e : EventId) (d : EventDetail) :
    (s.raise e d).planner = s.planner := rfl
@[simp] theorem State.raise_fibreRx (e : EventId) (d : EventDetail) :
    (s.raise e d).fibreRx = s.fibreRx := rfl
@[simp] theorem State.raise_radioRx (e : EventId) (d : EventDetail) :
    (s.raise e d).radioRx = s.radioRx := rfl
@[simp] theorem State.raise_skew (e : EventId) (d : EventDetail) :
    (s.raise e d).skew = s.skew := rfl
@[simp] theorem State.raise_merge (e : EventId) (d : EventDetail) :
    (s.raise e d).merge = s.merge := rfl
@[simp] theorem State.raise_strike (e : EventId) (d : EventDetail) :
    (s.raise e d).strike = s.strike := rfl
@[simp] theorem State.raise_egress (e : EventId) (d : EventDetail) :
    (s.raise e d).egress = s.egress := rfl
@[simp] theorem State.raise_tally (e : EventId) (d : EventDetail) :
    (s.raise e d).tally = s.tally := rfl
@[simp] theorem State.raise_mgmt (e : EventId) (d : EventDetail) :
    (s.raise e d).mgmt = s.mgmt := rfl
@[simp] theorem State.raise_owed (e : EventId) (d : EventDetail) :
    (s.raise e d).owed = s.owed := rfl
@[simp] theorem State.raise_expired (e : EventId) (d : EventDetail) :
    (s.raise e d).expired = s.expired := rfl
@[simp] theorem State.raise_occasion (e : EventId) (d : EventDetail) :
    (s.raise e d).occasion = s.occasion := rfl
@[simp] theorem State.raise_pending (e : EventId) (d : EventDetail) :
    (s.raise e d).pending = s.pending := rfl

@[simp] theorem State.nextOccasion_inReset : s.nextOccasion.inReset = s.inReset := rfl
@[simp] theorem State.nextOccasion_role : s.nextOccasion.role = s.role := rfl
@[simp] theorem State.nextOccasion_pins : s.nextOccasion.pins = s.pins := rfl
@[simp] theorem State.nextOccasion_clock : s.nextOccasion.clock = s.clock := rfl
@[simp] theorem State.nextOccasion_table : s.nextOccasion.table = s.table := rfl
@[simp] theorem State.nextOccasion_ingress : s.nextOccasion.ingress = s.ingress := rfl
@[simp] theorem State.nextOccasion_batch : s.nextOccasion.batch = s.batch := rfl
@[simp] theorem State.nextOccasion_fibreTx : s.nextOccasion.fibreTx = s.fibreTx := rfl
@[simp] theorem State.nextOccasion_radioTx : s.nextOccasion.radioTx = s.radioTx := rfl
@[simp] theorem State.nextOccasion_planner : s.nextOccasion.planner = s.planner := rfl
@[simp] theorem State.nextOccasion_fibreRx : s.nextOccasion.fibreRx = s.fibreRx := rfl
@[simp] theorem State.nextOccasion_radioRx : s.nextOccasion.radioRx = s.radioRx := rfl
@[simp] theorem State.nextOccasion_skew : s.nextOccasion.skew = s.skew := rfl
@[simp] theorem State.nextOccasion_merge : s.nextOccasion.merge = s.merge := rfl
@[simp] theorem State.nextOccasion_strike : s.nextOccasion.strike = s.strike := rfl
@[simp] theorem State.nextOccasion_egress : s.nextOccasion.egress = s.egress := rfl
@[simp] theorem State.nextOccasion_tally : s.nextOccasion.tally = s.tally := rfl
@[simp] theorem State.nextOccasion_mgmt : s.nextOccasion.mgmt = s.mgmt := rfl
@[simp] theorem State.nextOccasion_events : s.nextOccasion.events = s.events := rfl
@[simp] theorem State.nextOccasion_owed : s.nextOccasion.owed = s.owed := rfl
@[simp] theorem State.nextOccasion_expired : s.nextOccasion.expired = s.expired := rfl
@[simp] theorem State.nextOccasion_pending : s.nextOccasion.pending = s.pending := rfl

@[simp] theorem State.raiseSome_inReset (e : Option (EventId × EventDetail)) :
    (s.raiseSome e).inReset = s.inReset := by cases e <;> rfl
@[simp] theorem State.raiseSome_role (e : Option (EventId × EventDetail)) :
    (s.raiseSome e).role = s.role := by cases e <;> rfl
@[simp] theorem State.raiseSome_pins (e : Option (EventId × EventDetail)) :
    (s.raiseSome e).pins = s.pins := by cases e <;> rfl
@[simp] theorem State.raiseSome_clock (e : Option (EventId × EventDetail)) :
    (s.raiseSome e).clock = s.clock := by cases e <;> rfl
@[simp] theorem State.raiseSome_table (e : Option (EventId × EventDetail)) :
    (s.raiseSome e).table = s.table := by cases e <;> rfl
@[simp] theorem State.raiseSome_ingress (e : Option (EventId × EventDetail)) :
    (s.raiseSome e).ingress = s.ingress := by cases e <;> rfl
@[simp] theorem State.raiseSome_batch (e : Option (EventId × EventDetail)) :
    (s.raiseSome e).batch = s.batch := by cases e <;> rfl
@[simp] theorem State.raiseSome_fibreTx (e : Option (EventId × EventDetail)) :
    (s.raiseSome e).fibreTx = s.fibreTx := by cases e <;> rfl
@[simp] theorem State.raiseSome_radioTx (e : Option (EventId × EventDetail)) :
    (s.raiseSome e).radioTx = s.radioTx := by cases e <;> rfl
@[simp] theorem State.raiseSome_planner (e : Option (EventId × EventDetail)) :
    (s.raiseSome e).planner = s.planner := by cases e <;> rfl
@[simp] theorem State.raiseSome_fibreRx (e : Option (EventId × EventDetail)) :
    (s.raiseSome e).fibreRx = s.fibreRx := by cases e <;> rfl
@[simp] theorem State.raiseSome_radioRx (e : Option (EventId × EventDetail)) :
    (s.raiseSome e).radioRx = s.radioRx := by cases e <;> rfl
@[simp] theorem State.raiseSome_skew (e : Option (EventId × EventDetail)) :
    (s.raiseSome e).skew = s.skew := by cases e <;> rfl
@[simp] theorem State.raiseSome_merge (e : Option (EventId × EventDetail)) :
    (s.raiseSome e).merge = s.merge := by cases e <;> rfl
@[simp] theorem State.raiseSome_strike (e : Option (EventId × EventDetail)) :
    (s.raiseSome e).strike = s.strike := by cases e <;> rfl
@[simp] theorem State.raiseSome_egress (e : Option (EventId × EventDetail)) :
    (s.raiseSome e).egress = s.egress := by cases e <;> rfl
@[simp] theorem State.raiseSome_tally (e : Option (EventId × EventDetail)) :
    (s.raiseSome e).tally = s.tally := by cases e <;> rfl
@[simp] theorem State.raiseSome_mgmt (e : Option (EventId × EventDetail)) :
    (s.raiseSome e).mgmt = s.mgmt := by cases e <;> rfl
@[simp] theorem State.raiseSome_owed (e : Option (EventId × EventDetail)) :
    (s.raiseSome e).owed = s.owed := by cases e <;> rfl
@[simp] theorem State.raiseSome_expired (e : Option (EventId × EventDetail)) :
    (s.raiseSome e).expired = s.expired := by cases e <;> rfl
@[simp] theorem State.raiseSome_occasion (e : Option (EventId × EventDetail)) :
    (s.raiseSome e).occasion = s.occasion := by cases e <;> rfl
@[simp] theorem State.raiseSome_pending (e : Option (EventId × EventDetail)) :
    (s.raiseSome e).pending = s.pending := by cases e <;> rfl

@[simp] theorem State.setTime_inReset (t : LinkTime) : (s.setTime t).inReset = s.inReset := rfl
@[simp] theorem State.setTime_role (t : LinkTime) : (s.setTime t).role = s.role := rfl
@[simp] theorem State.setTime_pins (t : LinkTime) : (s.setTime t).pins = s.pins := rfl
@[simp] theorem State.setTime_table (t : LinkTime) : (s.setTime t).table = s.table := rfl
@[simp] theorem State.setTime_ingress (t : LinkTime) : (s.setTime t).ingress = s.ingress := rfl
@[simp] theorem State.setTime_batch (t : LinkTime) : (s.setTime t).batch = s.batch := rfl
@[simp] theorem State.setTime_fibreTx (t : LinkTime) : (s.setTime t).fibreTx = s.fibreTx := rfl
@[simp] theorem State.setTime_radioTx (t : LinkTime) : (s.setTime t).radioTx = s.radioTx := rfl
@[simp] theorem State.setTime_planner (t : LinkTime) : (s.setTime t).planner = s.planner := rfl
@[simp] theorem State.setTime_fibreRx (t : LinkTime) : (s.setTime t).fibreRx = s.fibreRx := rfl
@[simp] theorem State.setTime_radioRx (t : LinkTime) : (s.setTime t).radioRx = s.radioRx := rfl
@[simp] theorem State.setTime_skew (t : LinkTime) : (s.setTime t).skew = s.skew := rfl
@[simp] theorem State.setTime_merge (t : LinkTime) : (s.setTime t).merge = s.merge := rfl
@[simp] theorem State.setTime_strike (t : LinkTime) : (s.setTime t).strike = s.strike := rfl
@[simp] theorem State.setTime_egress (t : LinkTime) : (s.setTime t).egress = s.egress := rfl
@[simp] theorem State.setTime_tally (t : LinkTime) : (s.setTime t).tally = s.tally := rfl
@[simp] theorem State.setTime_mgmt (t : LinkTime) : (s.setTime t).mgmt = s.mgmt := rfl
@[simp] theorem State.setTime_events (t : LinkTime) : (s.setTime t).events = s.events := rfl
@[simp] theorem State.setTime_owed (t : LinkTime) : (s.setTime t).owed = s.owed := rfl
@[simp] theorem State.setTime_expired (t : LinkTime) : (s.setTime t).expired = s.expired := rfl
@[simp] theorem State.setTime_occasion (t : LinkTime) : (s.setTime t).occasion = s.occasion := rfl
@[simp] theorem State.setTime_pending (t : LinkTime) : (s.setTime t).pending = s.pending := rfl

@[simp] theorem State.judgeHolds_inReset : s.judgeHolds.inReset = s.inReset := rfl
@[simp] theorem State.judgeHolds_role : s.judgeHolds.role = s.role := rfl
@[simp] theorem State.judgeHolds_pins : s.judgeHolds.pins = s.pins := rfl
@[simp] theorem State.judgeHolds_clock : s.judgeHolds.clock = s.clock := rfl
@[simp] theorem State.judgeHolds_table : s.judgeHolds.table = s.table := rfl
@[simp] theorem State.judgeHolds_ingress : s.judgeHolds.ingress = s.ingress := rfl
@[simp] theorem State.judgeHolds_batch : s.judgeHolds.batch = s.batch := rfl
@[simp] theorem State.judgeHolds_fibreTx : s.judgeHolds.fibreTx = s.fibreTx := rfl
@[simp] theorem State.judgeHolds_radioTx : s.judgeHolds.radioTx = s.radioTx := rfl
@[simp] theorem State.judgeHolds_planner : s.judgeHolds.planner = s.planner := rfl
@[simp] theorem State.judgeHolds_fibreRx : s.judgeHolds.fibreRx = s.fibreRx := rfl
@[simp] theorem State.judgeHolds_radioRx : s.judgeHolds.radioRx = s.radioRx := rfl
@[simp] theorem State.judgeHolds_skew : s.judgeHolds.skew = s.skew := rfl
@[simp] theorem State.judgeHolds_merge : s.judgeHolds.merge = s.merge := rfl
@[simp] theorem State.judgeHolds_strike : s.judgeHolds.strike = s.strike := rfl
@[simp] theorem State.judgeHolds_egress : s.judgeHolds.egress = s.egress := rfl
@[simp] theorem State.judgeHolds_tally : s.judgeHolds.tally = s.tally := rfl
@[simp] theorem State.judgeHolds_mgmt : s.judgeHolds.mgmt = s.mgmt := rfl
@[simp] theorem State.judgeHolds_events : s.judgeHolds.events = s.events := rfl
@[simp] theorem State.judgeHolds_owed : s.judgeHolds.owed = s.owed := rfl
@[simp] theorem State.judgeHolds_occasion : s.judgeHolds.occasion = s.occasion := rfl
@[simp] theorem State.judgeHolds_pending : s.judgeHolds.pending = s.pending := rfl

@[simp] theorem State.followHold_inReset (u : MergeUnit) (f : Flow) :
    (s.followHold u f).inReset = s.inReset := rfl
@[simp] theorem State.followHold_role (u : MergeUnit) (f : Flow) :
    (s.followHold u f).role = s.role := rfl
@[simp] theorem State.followHold_pins (u : MergeUnit) (f : Flow) :
    (s.followHold u f).pins = s.pins := rfl
@[simp] theorem State.followHold_clock (u : MergeUnit) (f : Flow) :
    (s.followHold u f).clock = s.clock := rfl
@[simp] theorem State.followHold_table (u : MergeUnit) (f : Flow) :
    (s.followHold u f).table = s.table := rfl
@[simp] theorem State.followHold_ingress (u : MergeUnit) (f : Flow) :
    (s.followHold u f).ingress = s.ingress := rfl
@[simp] theorem State.followHold_batch (u : MergeUnit) (f : Flow) :
    (s.followHold u f).batch = s.batch := rfl
@[simp] theorem State.followHold_fibreTx (u : MergeUnit) (f : Flow) :
    (s.followHold u f).fibreTx = s.fibreTx := rfl
@[simp] theorem State.followHold_radioTx (u : MergeUnit) (f : Flow) :
    (s.followHold u f).radioTx = s.radioTx := rfl
@[simp] theorem State.followHold_planner (u : MergeUnit) (f : Flow) :
    (s.followHold u f).planner = s.planner := rfl
@[simp] theorem State.followHold_fibreRx (u : MergeUnit) (f : Flow) :
    (s.followHold u f).fibreRx = s.fibreRx := rfl
@[simp] theorem State.followHold_radioRx (u : MergeUnit) (f : Flow) :
    (s.followHold u f).radioRx = s.radioRx := rfl
@[simp] theorem State.followHold_skew (u : MergeUnit) (f : Flow) :
    (s.followHold u f).skew = s.skew := rfl
@[simp] theorem State.followHold_merge (u : MergeUnit) (f : Flow) :
    (s.followHold u f).merge = s.merge := rfl
@[simp] theorem State.followHold_strike (u : MergeUnit) (f : Flow) :
    (s.followHold u f).strike = s.strike := rfl
@[simp] theorem State.followHold_egress (u : MergeUnit) (f : Flow) :
    (s.followHold u f).egress = s.egress := rfl
@[simp] theorem State.followHold_tally (u : MergeUnit) (f : Flow) :
    (s.followHold u f).tally = s.tally := rfl
@[simp] theorem State.followHold_mgmt (u : MergeUnit) (f : Flow) :
    (s.followHold u f).mgmt = s.mgmt := rfl
@[simp] theorem State.followHold_events (u : MergeUnit) (f : Flow) :
    (s.followHold u f).events = s.events := rfl
@[simp] theorem State.followHold_owed (u : MergeUnit) (f : Flow) :
    (s.followHold u f).owed = s.owed := rfl
@[simp] theorem State.followHold_occasion (u : MergeUnit) (f : Flow) :
    (s.followHold u f).occasion = s.occasion := rfl
@[simp] theorem State.followHold_pending (u : MergeUnit) (f : Flow) :
    (s.followHold u f).pending = s.pending := rfl

@[simp] theorem State.followHolds_inReset (u : MergeUnit) :
    (s.followHolds u).inReset = s.inReset := rfl
@[simp] theorem State.followHolds_role (u : MergeUnit) : (s.followHolds u).role = s.role := rfl
@[simp] theorem State.followHolds_pins (u : MergeUnit) : (s.followHolds u).pins = s.pins := rfl
@[simp] theorem State.followHolds_clock (u : MergeUnit) : (s.followHolds u).clock = s.clock := rfl
@[simp] theorem State.followHolds_table (u : MergeUnit) : (s.followHolds u).table = s.table := rfl
@[simp] theorem State.followHolds_ingress (u : MergeUnit) :
    (s.followHolds u).ingress = s.ingress := rfl
@[simp] theorem State.followHolds_batch (u : MergeUnit) : (s.followHolds u).batch = s.batch := rfl
@[simp] theorem State.followHolds_fibreTx (u : MergeUnit) :
    (s.followHolds u).fibreTx = s.fibreTx := rfl
@[simp] theorem State.followHolds_radioTx (u : MergeUnit) :
    (s.followHolds u).radioTx = s.radioTx := rfl
@[simp] theorem State.followHolds_planner (u : MergeUnit) :
    (s.followHolds u).planner = s.planner := rfl
@[simp] theorem State.followHolds_fibreRx (u : MergeUnit) :
    (s.followHolds u).fibreRx = s.fibreRx := rfl
@[simp] theorem State.followHolds_radioRx (u : MergeUnit) :
    (s.followHolds u).radioRx = s.radioRx := rfl
@[simp] theorem State.followHolds_skew (u : MergeUnit) : (s.followHolds u).skew = s.skew := rfl
@[simp] theorem State.followHolds_merge (u : MergeUnit) : (s.followHolds u).merge = s.merge := rfl
@[simp] theorem State.followHolds_strike (u : MergeUnit) :
    (s.followHolds u).strike = s.strike := rfl
@[simp] theorem State.followHolds_egress (u : MergeUnit) :
    (s.followHolds u).egress = s.egress := rfl
@[simp] theorem State.followHolds_tally (u : MergeUnit) : (s.followHolds u).tally = s.tally := rfl
@[simp] theorem State.followHolds_mgmt (u : MergeUnit) : (s.followHolds u).mgmt = s.mgmt := rfl
@[simp] theorem State.followHolds_events (u : MergeUnit) :
    (s.followHolds u).events = s.events := rfl
@[simp] theorem State.followHolds_owed (u : MergeUnit) : (s.followHolds u).owed = s.owed := rfl
@[simp] theorem State.followHolds_occasion (u : MergeUnit) :
    (s.followHolds u).occasion = s.occasion := rfl
@[simp] theorem State.followHolds_pending (u : MergeUnit) :
    (s.followHolds u).pending = s.pending := rfl

@[simp] theorem State.judgeGuard_inReset (old : Settings) :
    (s.judgeGuard old).inReset = s.inReset := by unfold State.judgeGuard; (repeat' split) <;> simp
@[simp] theorem State.judgeGuard_role (old : Settings) :
    (s.judgeGuard old).role = s.role := by unfold State.judgeGuard; (repeat' split) <;> simp
@[simp] theorem State.judgeGuard_pins (old : Settings) :
    (s.judgeGuard old).pins = s.pins := by unfold State.judgeGuard; (repeat' split) <;> simp
@[simp] theorem State.judgeGuard_clock (old : Settings) :
    (s.judgeGuard old).clock = s.clock := by unfold State.judgeGuard; (repeat' split) <;> simp
@[simp] theorem State.judgeGuard_table (old : Settings) :
    (s.judgeGuard old).table = s.table := by unfold State.judgeGuard; (repeat' split) <;> simp
@[simp] theorem State.judgeGuard_ingress (old : Settings) :
    (s.judgeGuard old).ingress = s.ingress := by unfold State.judgeGuard; (repeat' split) <;> simp
@[simp] theorem State.judgeGuard_batch (old : Settings) :
    (s.judgeGuard old).batch = s.batch := by unfold State.judgeGuard; (repeat' split) <;> simp
@[simp] theorem State.judgeGuard_fibreTx (old : Settings) :
    (s.judgeGuard old).fibreTx = s.fibreTx := by unfold State.judgeGuard; (repeat' split) <;> simp
@[simp] theorem State.judgeGuard_radioTx (old : Settings) :
    (s.judgeGuard old).radioTx = s.radioTx := by unfold State.judgeGuard; (repeat' split) <;> simp
@[simp] theorem State.judgeGuard_planner (old : Settings) :
    (s.judgeGuard old).planner = s.planner := by unfold State.judgeGuard; (repeat' split) <;> simp
@[simp] theorem State.judgeGuard_fibreRx (old : Settings) :
    (s.judgeGuard old).fibreRx = s.fibreRx := by unfold State.judgeGuard; (repeat' split) <;> simp
@[simp] theorem State.judgeGuard_radioRx (old : Settings) :
    (s.judgeGuard old).radioRx = s.radioRx := by unfold State.judgeGuard; (repeat' split) <;> simp
@[simp] theorem State.judgeGuard_skew (old : Settings) :
    (s.judgeGuard old).skew = s.skew := by unfold State.judgeGuard; (repeat' split) <;> simp
@[simp] theorem State.judgeGuard_merge (old : Settings) :
    (s.judgeGuard old).merge = s.merge := by unfold State.judgeGuard; (repeat' split) <;> simp
@[simp] theorem State.judgeGuard_strike (old : Settings) :
    (s.judgeGuard old).strike = s.strike := by unfold State.judgeGuard; (repeat' split) <;> simp
@[simp] theorem State.judgeGuard_egress (old : Settings) :
    (s.judgeGuard old).egress = s.egress := by unfold State.judgeGuard; (repeat' split) <;> simp
@[simp] theorem State.judgeGuard_tally (old : Settings) :
    (s.judgeGuard old).tally = s.tally := by unfold State.judgeGuard; (repeat' split) <;> simp
@[simp] theorem State.judgeGuard_mgmt (old : Settings) :
    (s.judgeGuard old).mgmt = s.mgmt := by unfold State.judgeGuard; (repeat' split) <;> simp
@[simp] theorem State.judgeGuard_events (old : Settings) :
    (s.judgeGuard old).events = s.events := by unfold State.judgeGuard; (repeat' split) <;> simp
@[simp] theorem State.judgeGuard_owed (old : Settings) :
    (s.judgeGuard old).owed = s.owed := by unfold State.judgeGuard; (repeat' split) <;> simp
@[simp] theorem State.judgeGuard_occasion (old : Settings) :
    (s.judgeGuard old).occasion = s.occasion := by unfold State.judgeGuard; (repeat' split) <;> simp
@[simp] theorem State.judgeGuard_pending (old : Settings) :
    (s.judgeGuard old).pending = s.pending := by unfold State.judgeGuard; (repeat' split) <;> simp

@[simp] theorem State.dropIngress_inReset (n : Trib) :
    (s.dropIngress n).inReset = s.inReset := by unfold State.dropIngress; (repeat' split) <;> simp
@[simp] theorem State.dropIngress_role (n : Trib) :
    (s.dropIngress n).role = s.role := by unfold State.dropIngress; (repeat' split) <;> simp
@[simp] theorem State.dropIngress_pins (n : Trib) :
    (s.dropIngress n).pins = s.pins := by unfold State.dropIngress; (repeat' split) <;> simp
@[simp] theorem State.dropIngress_clock (n : Trib) :
    (s.dropIngress n).clock = s.clock := by unfold State.dropIngress; (repeat' split) <;> simp
@[simp] theorem State.dropIngress_table (n : Trib) :
    (s.dropIngress n).table = s.table := by unfold State.dropIngress; (repeat' split) <;> simp
@[simp] theorem State.dropIngress_batch (n : Trib) :
    (s.dropIngress n).batch = s.batch := by unfold State.dropIngress; (repeat' split) <;> simp
@[simp] theorem State.dropIngress_fibreTx (n : Trib) :
    (s.dropIngress n).fibreTx = s.fibreTx := by unfold State.dropIngress; (repeat' split) <;> simp
@[simp] theorem State.dropIngress_radioTx (n : Trib) :
    (s.dropIngress n).radioTx = s.radioTx := by unfold State.dropIngress; (repeat' split) <;> simp
@[simp] theorem State.dropIngress_planner (n : Trib) :
    (s.dropIngress n).planner = s.planner := by unfold State.dropIngress; (repeat' split) <;> simp
@[simp] theorem State.dropIngress_fibreRx (n : Trib) :
    (s.dropIngress n).fibreRx = s.fibreRx := by unfold State.dropIngress; (repeat' split) <;> simp
@[simp] theorem State.dropIngress_radioRx (n : Trib) :
    (s.dropIngress n).radioRx = s.radioRx := by unfold State.dropIngress; (repeat' split) <;> simp
@[simp] theorem State.dropIngress_skew (n : Trib) :
    (s.dropIngress n).skew = s.skew := by unfold State.dropIngress; (repeat' split) <;> simp
@[simp] theorem State.dropIngress_merge (n : Trib) :
    (s.dropIngress n).merge = s.merge := by unfold State.dropIngress; (repeat' split) <;> simp
@[simp] theorem State.dropIngress_strike (n : Trib) :
    (s.dropIngress n).strike = s.strike := by unfold State.dropIngress; (repeat' split) <;> simp
@[simp] theorem State.dropIngress_egress (n : Trib) :
    (s.dropIngress n).egress = s.egress := by unfold State.dropIngress; (repeat' split) <;> simp
@[simp] theorem State.dropIngress_tally (n : Trib) :
    (s.dropIngress n).tally = s.tally := by unfold State.dropIngress; (repeat' split) <;> simp
@[simp] theorem State.dropIngress_mgmt (n : Trib) :
    (s.dropIngress n).mgmt = s.mgmt := by unfold State.dropIngress; (repeat' split) <;> simp
@[simp] theorem State.dropIngress_owed (n : Trib) :
    (s.dropIngress n).owed = s.owed := by unfold State.dropIngress; (repeat' split) <;> simp
@[simp] theorem State.dropIngress_expired (n : Trib) :
    (s.dropIngress n).expired = s.expired := by unfold State.dropIngress; (repeat' split) <;> simp
@[simp] theorem State.dropIngress_occasion (n : Trib) :
    (s.dropIngress n).occasion = s.occasion := by unfold State.dropIngress; (repeat' split) <;> simp
@[simp] theorem State.dropIngress_pending (n : Trib) :
    (s.dropIngress n).pending = s.pending := by unfold State.dropIngress; (repeat' split) <;> simp

@[simp] theorem State.ingressArrival_inReset (n : Trib) (c : CellData) :
    (s.ingressArrival n c).inReset = s.inReset := by unfold State.ingressArrival; (repeat' split) <;> simp
@[simp] theorem State.ingressArrival_role (n : Trib) (c : CellData) :
    (s.ingressArrival n c).role = s.role := by unfold State.ingressArrival; (repeat' split) <;> simp
@[simp] theorem State.ingressArrival_pins (n : Trib) (c : CellData) :
    (s.ingressArrival n c).pins = s.pins := by unfold State.ingressArrival; (repeat' split) <;> simp
@[simp] theorem State.ingressArrival_clock (n : Trib) (c : CellData) :
    (s.ingressArrival n c).clock = s.clock := by unfold State.ingressArrival; (repeat' split) <;> simp
@[simp] theorem State.ingressArrival_table (n : Trib) (c : CellData) :
    (s.ingressArrival n c).table = s.table := by unfold State.ingressArrival; (repeat' split) <;> simp
@[simp] theorem State.ingressArrival_batch (n : Trib) (c : CellData) :
    (s.ingressArrival n c).batch = s.batch := by unfold State.ingressArrival; (repeat' split) <;> simp
@[simp] theorem State.ingressArrival_fibreTx (n : Trib) (c : CellData) :
    (s.ingressArrival n c).fibreTx = s.fibreTx := by unfold State.ingressArrival; (repeat' split) <;> simp
@[simp] theorem State.ingressArrival_radioTx (n : Trib) (c : CellData) :
    (s.ingressArrival n c).radioTx = s.radioTx := by unfold State.ingressArrival; (repeat' split) <;> simp
@[simp] theorem State.ingressArrival_planner (n : Trib) (c : CellData) :
    (s.ingressArrival n c).planner = s.planner := by unfold State.ingressArrival; (repeat' split) <;> simp
@[simp] theorem State.ingressArrival_fibreRx (n : Trib) (c : CellData) :
    (s.ingressArrival n c).fibreRx = s.fibreRx := by unfold State.ingressArrival; (repeat' split) <;> simp
@[simp] theorem State.ingressArrival_radioRx (n : Trib) (c : CellData) :
    (s.ingressArrival n c).radioRx = s.radioRx := by unfold State.ingressArrival; (repeat' split) <;> simp
@[simp] theorem State.ingressArrival_skew (n : Trib) (c : CellData) :
    (s.ingressArrival n c).skew = s.skew := by unfold State.ingressArrival; (repeat' split) <;> simp
@[simp] theorem State.ingressArrival_merge (n : Trib) (c : CellData) :
    (s.ingressArrival n c).merge = s.merge := by unfold State.ingressArrival; (repeat' split) <;> simp
@[simp] theorem State.ingressArrival_strike (n : Trib) (c : CellData) :
    (s.ingressArrival n c).strike = s.strike := by unfold State.ingressArrival; (repeat' split) <;> simp
@[simp] theorem State.ingressArrival_egress (n : Trib) (c : CellData) :
    (s.ingressArrival n c).egress = s.egress := by unfold State.ingressArrival; (repeat' split) <;> simp
@[simp] theorem State.ingressArrival_tally (n : Trib) (c : CellData) :
    (s.ingressArrival n c).tally = s.tally := by unfold State.ingressArrival; (repeat' split) <;> simp
@[simp] theorem State.ingressArrival_mgmt (n : Trib) (c : CellData) :
    (s.ingressArrival n c).mgmt = s.mgmt := by unfold State.ingressArrival; (repeat' split) <;> simp
@[simp] theorem State.ingressArrival_owed (n : Trib) (c : CellData) :
    (s.ingressArrival n c).owed = s.owed := by unfold State.ingressArrival; (repeat' split) <;> simp
@[simp] theorem State.ingressArrival_expired (n : Trib) (c : CellData) :
    (s.ingressArrival n c).expired = s.expired := by unfold State.ingressArrival; (repeat' split) <;> simp
@[simp] theorem State.ingressArrival_occasion (n : Trib) (c : CellData) :
    (s.ingressArrival n c).occasion = s.occasion := by unfold State.ingressArrival; (repeat' split) <;> simp
@[simp] theorem State.ingressArrival_pending (n : Trib) (c : CellData) :
    (s.ingressArrival n c).pending = s.pending := by unfold State.ingressArrival; (repeat' split) <;> simp

@[simp] theorem State.batchCells_inReset (f : Flow) (p : Protection) (ds : List CellData) :
    (s.batchCells f p ds).inReset = s.inReset := by simp [State.batchCells]
@[simp] theorem State.batchCells_role (f : Flow) (p : Protection) (ds : List CellData) :
    (s.batchCells f p ds).role = s.role := by simp [State.batchCells]
@[simp] theorem State.batchCells_pins (f : Flow) (p : Protection) (ds : List CellData) :
    (s.batchCells f p ds).pins = s.pins := by simp [State.batchCells]
@[simp] theorem State.batchCells_clock (f : Flow) (p : Protection) (ds : List CellData) :
    (s.batchCells f p ds).clock = s.clock := by simp [State.batchCells]
@[simp] theorem State.batchCells_table (f : Flow) (p : Protection) (ds : List CellData) :
    (s.batchCells f p ds).table = s.table := by simp [State.batchCells]
@[simp] theorem State.batchCells_ingress (f : Flow) (p : Protection) (ds : List CellData) :
    (s.batchCells f p ds).ingress = s.ingress := by simp [State.batchCells]
@[simp] theorem State.batchCells_planner (f : Flow) (p : Protection) (ds : List CellData) :
    (s.batchCells f p ds).planner = s.planner := by simp [State.batchCells]
@[simp] theorem State.batchCells_fibreRx (f : Flow) (p : Protection) (ds : List CellData) :
    (s.batchCells f p ds).fibreRx = s.fibreRx := by simp [State.batchCells]
@[simp] theorem State.batchCells_radioRx (f : Flow) (p : Protection) (ds : List CellData) :
    (s.batchCells f p ds).radioRx = s.radioRx := by simp [State.batchCells]
@[simp] theorem State.batchCells_skew (f : Flow) (p : Protection) (ds : List CellData) :
    (s.batchCells f p ds).skew = s.skew := by simp [State.batchCells]
@[simp] theorem State.batchCells_merge (f : Flow) (p : Protection) (ds : List CellData) :
    (s.batchCells f p ds).merge = s.merge := by simp [State.batchCells]
@[simp] theorem State.batchCells_strike (f : Flow) (p : Protection) (ds : List CellData) :
    (s.batchCells f p ds).strike = s.strike := by simp [State.batchCells]
@[simp] theorem State.batchCells_egress (f : Flow) (p : Protection) (ds : List CellData) :
    (s.batchCells f p ds).egress = s.egress := by simp [State.batchCells]
@[simp] theorem State.batchCells_tally (f : Flow) (p : Protection) (ds : List CellData) :
    (s.batchCells f p ds).tally = s.tally := by simp [State.batchCells]
@[simp] theorem State.batchCells_mgmt (f : Flow) (p : Protection) (ds : List CellData) :
    (s.batchCells f p ds).mgmt = s.mgmt := by simp [State.batchCells]
@[simp] theorem State.batchCells_events (f : Flow) (p : Protection) (ds : List CellData) :
    (s.batchCells f p ds).events = s.events := by simp [State.batchCells]
@[simp] theorem State.batchCells_owed (f : Flow) (p : Protection) (ds : List CellData) :
    (s.batchCells f p ds).owed = s.owed := by simp [State.batchCells]
@[simp] theorem State.batchCells_expired (f : Flow) (p : Protection) (ds : List CellData) :
    (s.batchCells f p ds).expired = s.expired := by simp [State.batchCells]
@[simp] theorem State.batchCells_occasion (f : Flow) (p : Protection) (ds : List CellData) :
    (s.batchCells f p ds).occasion = s.occasion := by simp [State.batchCells]
@[simp] theorem State.batchCells_pending (f : Flow) (p : Protection) (ds : List CellData) :
    (s.batchCells f p ds).pending = s.pending := by simp [State.batchCells]

@[simp] theorem State.raiseSilent_inReset (f : Flow) :
    (s.raiseSilent f).inReset = s.inReset := by unfold State.raiseSilent; (repeat' split) <;> simp
@[simp] theorem State.raiseSilent_role (f : Flow) :
    (s.raiseSilent f).role = s.role := by unfold State.raiseSilent; (repeat' split) <;> simp
@[simp] theorem State.raiseSilent_pins (f : Flow) :
    (s.raiseSilent f).pins = s.pins := by unfold State.raiseSilent; (repeat' split) <;> simp
@[simp] theorem State.raiseSilent_clock (f : Flow) :
    (s.raiseSilent f).clock = s.clock := by unfold State.raiseSilent; (repeat' split) <;> simp
@[simp] theorem State.raiseSilent_table (f : Flow) :
    (s.raiseSilent f).table = s.table := by unfold State.raiseSilent; (repeat' split) <;> simp
@[simp] theorem State.raiseSilent_ingress (f : Flow) :
    (s.raiseSilent f).ingress = s.ingress := by unfold State.raiseSilent; (repeat' split) <;> simp
@[simp] theorem State.raiseSilent_batch (f : Flow) :
    (s.raiseSilent f).batch = s.batch := by unfold State.raiseSilent; (repeat' split) <;> simp
@[simp] theorem State.raiseSilent_fibreTx (f : Flow) :
    (s.raiseSilent f).fibreTx = s.fibreTx := by unfold State.raiseSilent; (repeat' split) <;> simp
@[simp] theorem State.raiseSilent_radioTx (f : Flow) :
    (s.raiseSilent f).radioTx = s.radioTx := by unfold State.raiseSilent; (repeat' split) <;> simp
@[simp] theorem State.raiseSilent_planner (f : Flow) :
    (s.raiseSilent f).planner = s.planner := by unfold State.raiseSilent; (repeat' split) <;> simp
@[simp] theorem State.raiseSilent_fibreRx (f : Flow) :
    (s.raiseSilent f).fibreRx = s.fibreRx := by unfold State.raiseSilent; (repeat' split) <;> simp
@[simp] theorem State.raiseSilent_radioRx (f : Flow) :
    (s.raiseSilent f).radioRx = s.radioRx := by unfold State.raiseSilent; (repeat' split) <;> simp
@[simp] theorem State.raiseSilent_skew (f : Flow) :
    (s.raiseSilent f).skew = s.skew := by unfold State.raiseSilent; (repeat' split) <;> simp
@[simp] theorem State.raiseSilent_merge (f : Flow) :
    (s.raiseSilent f).merge = s.merge := by unfold State.raiseSilent; (repeat' split) <;> simp
@[simp] theorem State.raiseSilent_strike (f : Flow) :
    (s.raiseSilent f).strike = s.strike := by unfold State.raiseSilent; (repeat' split) <;> simp
@[simp] theorem State.raiseSilent_egress (f : Flow) :
    (s.raiseSilent f).egress = s.egress := by unfold State.raiseSilent; (repeat' split) <;> simp
@[simp] theorem State.raiseSilent_tally (f : Flow) :
    (s.raiseSilent f).tally = s.tally := by unfold State.raiseSilent; (repeat' split) <;> simp
@[simp] theorem State.raiseSilent_mgmt (f : Flow) :
    (s.raiseSilent f).mgmt = s.mgmt := by unfold State.raiseSilent; (repeat' split) <;> simp
@[simp] theorem State.raiseSilent_owed (f : Flow) :
    (s.raiseSilent f).owed = s.owed := by unfold State.raiseSilent; (repeat' split) <;> simp
@[simp] theorem State.raiseSilent_expired (f : Flow) :
    (s.raiseSilent f).expired = s.expired := by unfold State.raiseSilent; (repeat' split) <;> simp
@[simp] theorem State.raiseSilent_occasion (f : Flow) :
    (s.raiseSilent f).occasion = s.occasion := by unfold State.raiseSilent; (repeat' split) <;> simp
@[simp] theorem State.raiseSilent_pending (f : Flow) :
    (s.raiseSilent f).pending = s.pending := by unfold State.raiseSilent; (repeat' split) <;> simp

@[simp] theorem State.judgeSilence_inReset (f : Flow) (e : Bool) :
    (s.judgeSilence f e).inReset = s.inReset := by unfold State.judgeSilence; dsimp only; (repeat' split) <;> simp
@[simp] theorem State.judgeSilence_role (f : Flow) (e : Bool) :
    (s.judgeSilence f e).role = s.role := by unfold State.judgeSilence; dsimp only; (repeat' split) <;> simp
@[simp] theorem State.judgeSilence_pins (f : Flow) (e : Bool) :
    (s.judgeSilence f e).pins = s.pins := by unfold State.judgeSilence; dsimp only; (repeat' split) <;> simp
@[simp] theorem State.judgeSilence_clock (f : Flow) (e : Bool) :
    (s.judgeSilence f e).clock = s.clock := by unfold State.judgeSilence; dsimp only; (repeat' split) <;> simp
@[simp] theorem State.judgeSilence_table (f : Flow) (e : Bool) :
    (s.judgeSilence f e).table = s.table := by unfold State.judgeSilence; dsimp only; (repeat' split) <;> simp
@[simp] theorem State.judgeSilence_ingress (f : Flow) (e : Bool) :
    (s.judgeSilence f e).ingress = s.ingress := by unfold State.judgeSilence; dsimp only; (repeat' split) <;> simp
@[simp] theorem State.judgeSilence_fibreTx (f : Flow) (e : Bool) :
    (s.judgeSilence f e).fibreTx = s.fibreTx := by unfold State.judgeSilence; dsimp only; (repeat' split) <;> simp
@[simp] theorem State.judgeSilence_radioTx (f : Flow) (e : Bool) :
    (s.judgeSilence f e).radioTx = s.radioTx := by unfold State.judgeSilence; dsimp only; (repeat' split) <;> simp
@[simp] theorem State.judgeSilence_planner (f : Flow) (e : Bool) :
    (s.judgeSilence f e).planner = s.planner := by unfold State.judgeSilence; dsimp only; (repeat' split) <;> simp
@[simp] theorem State.judgeSilence_fibreRx (f : Flow) (e : Bool) :
    (s.judgeSilence f e).fibreRx = s.fibreRx := by unfold State.judgeSilence; dsimp only; (repeat' split) <;> simp
@[simp] theorem State.judgeSilence_radioRx (f : Flow) (e : Bool) :
    (s.judgeSilence f e).radioRx = s.radioRx := by unfold State.judgeSilence; dsimp only; (repeat' split) <;> simp
@[simp] theorem State.judgeSilence_skew (f : Flow) (e : Bool) :
    (s.judgeSilence f e).skew = s.skew := by unfold State.judgeSilence; dsimp only; (repeat' split) <;> simp
@[simp] theorem State.judgeSilence_merge (f : Flow) (e : Bool) :
    (s.judgeSilence f e).merge = s.merge := by unfold State.judgeSilence; dsimp only; (repeat' split) <;> simp
@[simp] theorem State.judgeSilence_strike (f : Flow) (e : Bool) :
    (s.judgeSilence f e).strike = s.strike := by unfold State.judgeSilence; dsimp only; (repeat' split) <;> simp
@[simp] theorem State.judgeSilence_egress (f : Flow) (e : Bool) :
    (s.judgeSilence f e).egress = s.egress := by unfold State.judgeSilence; dsimp only; (repeat' split) <;> simp
@[simp] theorem State.judgeSilence_tally (f : Flow) (e : Bool) :
    (s.judgeSilence f e).tally = s.tally := by unfold State.judgeSilence; dsimp only; (repeat' split) <;> simp
@[simp] theorem State.judgeSilence_mgmt (f : Flow) (e : Bool) :
    (s.judgeSilence f e).mgmt = s.mgmt := by unfold State.judgeSilence; dsimp only; (repeat' split) <;> simp
@[simp] theorem State.judgeSilence_owed (f : Flow) (e : Bool) :
    (s.judgeSilence f e).owed = s.owed := by unfold State.judgeSilence; dsimp only; (repeat' split) <;> simp
@[simp] theorem State.judgeSilence_expired (f : Flow) (e : Bool) :
    (s.judgeSilence f e).expired = s.expired := by unfold State.judgeSilence; dsimp only; (repeat' split) <;> simp
@[simp] theorem State.judgeSilence_occasion (f : Flow) (e : Bool) :
    (s.judgeSilence f e).occasion = s.occasion := by unfold State.judgeSilence; dsimp only; (repeat' split) <;> simp
@[simp] theorem State.judgeSilence_pending (f : Flow) (e : Bool) :
    (s.judgeSilence f e).pending = s.pending := by unfold State.judgeSilence; dsimp only; (repeat' split) <;> simp

@[simp] theorem State.tributaryBatch_inReset (f : Flow) (x : EntryFields) (n : Trib) :
    (s.tributaryBatch f x n).inReset = s.inReset := by simp [State.tributaryBatch]
@[simp] theorem State.tributaryBatch_role (f : Flow) (x : EntryFields) (n : Trib) :
    (s.tributaryBatch f x n).role = s.role := by simp [State.tributaryBatch]
@[simp] theorem State.tributaryBatch_pins (f : Flow) (x : EntryFields) (n : Trib) :
    (s.tributaryBatch f x n).pins = s.pins := by simp [State.tributaryBatch]
@[simp] theorem State.tributaryBatch_clock (f : Flow) (x : EntryFields) (n : Trib) :
    (s.tributaryBatch f x n).clock = s.clock := by simp [State.tributaryBatch]
@[simp] theorem State.tributaryBatch_table (f : Flow) (x : EntryFields) (n : Trib) :
    (s.tributaryBatch f x n).table = s.table := by simp [State.tributaryBatch]
@[simp] theorem State.tributaryBatch_planner (f : Flow) (x : EntryFields) (n : Trib) :
    (s.tributaryBatch f x n).planner = s.planner := by simp [State.tributaryBatch]
@[simp] theorem State.tributaryBatch_fibreRx (f : Flow) (x : EntryFields) (n : Trib) :
    (s.tributaryBatch f x n).fibreRx = s.fibreRx := by simp [State.tributaryBatch]
@[simp] theorem State.tributaryBatch_radioRx (f : Flow) (x : EntryFields) (n : Trib) :
    (s.tributaryBatch f x n).radioRx = s.radioRx := by simp [State.tributaryBatch]
@[simp] theorem State.tributaryBatch_skew (f : Flow) (x : EntryFields) (n : Trib) :
    (s.tributaryBatch f x n).skew = s.skew := by simp [State.tributaryBatch]
@[simp] theorem State.tributaryBatch_merge (f : Flow) (x : EntryFields) (n : Trib) :
    (s.tributaryBatch f x n).merge = s.merge := by simp [State.tributaryBatch]
@[simp] theorem State.tributaryBatch_strike (f : Flow) (x : EntryFields) (n : Trib) :
    (s.tributaryBatch f x n).strike = s.strike := by simp [State.tributaryBatch]
@[simp] theorem State.tributaryBatch_egress (f : Flow) (x : EntryFields) (n : Trib) :
    (s.tributaryBatch f x n).egress = s.egress := by simp [State.tributaryBatch]
@[simp] theorem State.tributaryBatch_tally (f : Flow) (x : EntryFields) (n : Trib) :
    (s.tributaryBatch f x n).tally = s.tally := by simp [State.tributaryBatch]
@[simp] theorem State.tributaryBatch_mgmt (f : Flow) (x : EntryFields) (n : Trib) :
    (s.tributaryBatch f x n).mgmt = s.mgmt := by simp [State.tributaryBatch]
@[simp] theorem State.tributaryBatch_owed (f : Flow) (x : EntryFields) (n : Trib) :
    (s.tributaryBatch f x n).owed = s.owed := by simp [State.tributaryBatch]
@[simp] theorem State.tributaryBatch_expired (f : Flow) (x : EntryFields) (n : Trib) :
    (s.tributaryBatch f x n).expired = s.expired := by simp [State.tributaryBatch]
@[simp] theorem State.tributaryBatch_occasion (f : Flow) (x : EntryFields) (n : Trib) :
    (s.tributaryBatch f x n).occasion = s.occasion := by simp [State.tributaryBatch]
@[simp] theorem State.tributaryBatch_pending (f : Flow) (x : EntryFields) (n : Trib) :
    (s.tributaryBatch f x n).pending = s.pending := by simp [State.tributaryBatch]

@[simp] theorem State.tallyBatch_inReset (f : Flow) (x : EntryFields) :
    (s.tallyBatch f x).inReset = s.inReset := by simp [State.tallyBatch]
@[simp] theorem State.tallyBatch_role (f : Flow) (x : EntryFields) :
    (s.tallyBatch f x).role = s.role := by simp [State.tallyBatch]
@[simp] theorem State.tallyBatch_pins (f : Flow) (x : EntryFields) :
    (s.tallyBatch f x).pins = s.pins := by simp [State.tallyBatch]
@[simp] theorem State.tallyBatch_clock (f : Flow) (x : EntryFields) :
    (s.tallyBatch f x).clock = s.clock := by simp [State.tallyBatch]
@[simp] theorem State.tallyBatch_table (f : Flow) (x : EntryFields) :
    (s.tallyBatch f x).table = s.table := by simp [State.tallyBatch]
@[simp] theorem State.tallyBatch_ingress (f : Flow) (x : EntryFields) :
    (s.tallyBatch f x).ingress = s.ingress := by simp [State.tallyBatch]
@[simp] theorem State.tallyBatch_planner (f : Flow) (x : EntryFields) :
    (s.tallyBatch f x).planner = s.planner := by simp [State.tallyBatch]
@[simp] theorem State.tallyBatch_fibreRx (f : Flow) (x : EntryFields) :
    (s.tallyBatch f x).fibreRx = s.fibreRx := by simp [State.tallyBatch]
@[simp] theorem State.tallyBatch_radioRx (f : Flow) (x : EntryFields) :
    (s.tallyBatch f x).radioRx = s.radioRx := by simp [State.tallyBatch]
@[simp] theorem State.tallyBatch_skew (f : Flow) (x : EntryFields) :
    (s.tallyBatch f x).skew = s.skew := by simp [State.tallyBatch]
@[simp] theorem State.tallyBatch_merge (f : Flow) (x : EntryFields) :
    (s.tallyBatch f x).merge = s.merge := by simp [State.tallyBatch]
@[simp] theorem State.tallyBatch_strike (f : Flow) (x : EntryFields) :
    (s.tallyBatch f x).strike = s.strike := by simp [State.tallyBatch]
@[simp] theorem State.tallyBatch_egress (f : Flow) (x : EntryFields) :
    (s.tallyBatch f x).egress = s.egress := by simp [State.tallyBatch]
@[simp] theorem State.tallyBatch_tally (f : Flow) (x : EntryFields) :
    (s.tallyBatch f x).tally = s.tally := by simp [State.tallyBatch]
@[simp] theorem State.tallyBatch_mgmt (f : Flow) (x : EntryFields) :
    (s.tallyBatch f x).mgmt = s.mgmt := by simp [State.tallyBatch]
@[simp] theorem State.tallyBatch_events (f : Flow) (x : EntryFields) :
    (s.tallyBatch f x).events = s.events := by simp [State.tallyBatch]
@[simp] theorem State.tallyBatch_owed (f : Flow) (x : EntryFields) :
    (s.tallyBatch f x).owed = s.owed := by simp [State.tallyBatch]
@[simp] theorem State.tallyBatch_expired (f : Flow) (x : EntryFields) :
    (s.tallyBatch f x).expired = s.expired := by simp [State.tallyBatch]
@[simp] theorem State.tallyBatch_pending (f : Flow) (x : EntryFields) :
    (s.tallyBatch f x).pending = s.pending := by simp [State.tallyBatch]

@[simp] theorem State.formBatch_inReset (f : Flow) :
    (s.formBatch f).inReset = s.inReset := by unfold State.formBatch; (repeat' split) <;> simp
@[simp] theorem State.formBatch_role (f : Flow) :
    (s.formBatch f).role = s.role := by unfold State.formBatch; (repeat' split) <;> simp
@[simp] theorem State.formBatch_pins (f : Flow) :
    (s.formBatch f).pins = s.pins := by unfold State.formBatch; (repeat' split) <;> simp
@[simp] theorem State.formBatch_clock (f : Flow) :
    (s.formBatch f).clock = s.clock := by unfold State.formBatch; (repeat' split) <;> simp
@[simp] theorem State.formBatch_table (f : Flow) :
    (s.formBatch f).table = s.table := by unfold State.formBatch; (repeat' split) <;> simp
@[simp] theorem State.formBatch_planner (f : Flow) :
    (s.formBatch f).planner = s.planner := by unfold State.formBatch; (repeat' split) <;> simp
@[simp] theorem State.formBatch_fibreRx (f : Flow) :
    (s.formBatch f).fibreRx = s.fibreRx := by unfold State.formBatch; (repeat' split) <;> simp
@[simp] theorem State.formBatch_radioRx (f : Flow) :
    (s.formBatch f).radioRx = s.radioRx := by unfold State.formBatch; (repeat' split) <;> simp
@[simp] theorem State.formBatch_skew (f : Flow) :
    (s.formBatch f).skew = s.skew := by unfold State.formBatch; (repeat' split) <;> simp
@[simp] theorem State.formBatch_merge (f : Flow) :
    (s.formBatch f).merge = s.merge := by unfold State.formBatch; (repeat' split) <;> simp
@[simp] theorem State.formBatch_strike (f : Flow) :
    (s.formBatch f).strike = s.strike := by unfold State.formBatch; (repeat' split) <;> simp
@[simp] theorem State.formBatch_egress (f : Flow) :
    (s.formBatch f).egress = s.egress := by unfold State.formBatch; (repeat' split) <;> simp
@[simp] theorem State.formBatch_tally (f : Flow) :
    (s.formBatch f).tally = s.tally := by unfold State.formBatch; (repeat' split) <;> simp
@[simp] theorem State.formBatch_mgmt (f : Flow) :
    (s.formBatch f).mgmt = s.mgmt := by unfold State.formBatch; (repeat' split) <;> simp
@[simp] theorem State.formBatch_owed (f : Flow) :
    (s.formBatch f).owed = s.owed := by unfold State.formBatch; (repeat' split) <;> simp
@[simp] theorem State.formBatch_expired (f : Flow) :
    (s.formBatch f).expired = s.expired := by unfold State.formBatch; (repeat' split) <;> simp
@[simp] theorem State.formBatch_pending (f : Flow) :
    (s.formBatch f).pending = s.pending := by unfold State.formBatch; (repeat' split) <;> simp

@[simp] theorem State.formBatches_inReset : s.formBatches.inReset = s.inReset := by
  unfold State.formBatches
  induction userFlows generalizing s with
  | nil => rfl
  | cons a l ih => simp [ih]
@[simp] theorem State.formBatches_role : s.formBatches.role = s.role := by
  unfold State.formBatches
  induction userFlows generalizing s with
  | nil => rfl
  | cons a l ih => simp [ih]
@[simp] theorem State.formBatches_pins : s.formBatches.pins = s.pins := by
  unfold State.formBatches
  induction userFlows generalizing s with
  | nil => rfl
  | cons a l ih => simp [ih]
@[simp] theorem State.formBatches_clock : s.formBatches.clock = s.clock := by
  unfold State.formBatches
  induction userFlows generalizing s with
  | nil => rfl
  | cons a l ih => simp [ih]
@[simp] theorem State.formBatches_table : s.formBatches.table = s.table := by
  unfold State.formBatches
  induction userFlows generalizing s with
  | nil => rfl
  | cons a l ih => simp [ih]
@[simp] theorem State.formBatches_planner : s.formBatches.planner = s.planner := by
  unfold State.formBatches
  induction userFlows generalizing s with
  | nil => rfl
  | cons a l ih => simp [ih]
@[simp] theorem State.formBatches_fibreRx : s.formBatches.fibreRx = s.fibreRx := by
  unfold State.formBatches
  induction userFlows generalizing s with
  | nil => rfl
  | cons a l ih => simp [ih]
@[simp] theorem State.formBatches_radioRx : s.formBatches.radioRx = s.radioRx := by
  unfold State.formBatches
  induction userFlows generalizing s with
  | nil => rfl
  | cons a l ih => simp [ih]
@[simp] theorem State.formBatches_skew : s.formBatches.skew = s.skew := by
  unfold State.formBatches
  induction userFlows generalizing s with
  | nil => rfl
  | cons a l ih => simp [ih]
@[simp] theorem State.formBatches_merge : s.formBatches.merge = s.merge := by
  unfold State.formBatches
  induction userFlows generalizing s with
  | nil => rfl
  | cons a l ih => simp [ih]
@[simp] theorem State.formBatches_strike : s.formBatches.strike = s.strike := by
  unfold State.formBatches
  induction userFlows generalizing s with
  | nil => rfl
  | cons a l ih => simp [ih]
@[simp] theorem State.formBatches_egress : s.formBatches.egress = s.egress := by
  unfold State.formBatches
  induction userFlows generalizing s with
  | nil => rfl
  | cons a l ih => simp [ih]
@[simp] theorem State.formBatches_tally : s.formBatches.tally = s.tally := by
  unfold State.formBatches
  induction userFlows generalizing s with
  | nil => rfl
  | cons a l ih => simp [ih]
@[simp] theorem State.formBatches_mgmt : s.formBatches.mgmt = s.mgmt := by
  unfold State.formBatches
  induction userFlows generalizing s with
  | nil => rfl
  | cons a l ih => simp [ih]
@[simp] theorem State.formBatches_owed : s.formBatches.owed = s.owed := by
  unfold State.formBatches
  induction userFlows generalizing s with
  | nil => rfl
  | cons a l ih => simp [ih]
@[simp] theorem State.formBatches_expired : s.formBatches.expired = s.expired := by
  unfold State.formBatches
  induction userFlows generalizing s with
  | nil => rfl
  | cons a l ih => simp [ih]
@[simp] theorem State.formBatches_pending : s.formBatches.pending = s.pending := by
  unfold State.formBatches
  induction userFlows generalizing s with
  | nil => rfl
  | cons a l ih => simp [ih]

@[simp] theorem State.flow0Batch_inReset :
    s.flow0Batch.inReset = s.inReset := by simp [State.flow0Batch]
@[simp] theorem State.flow0Batch_role : s.flow0Batch.role = s.role := by simp [State.flow0Batch]
@[simp] theorem State.flow0Batch_pins : s.flow0Batch.pins = s.pins := by simp [State.flow0Batch]
@[simp] theorem State.flow0Batch_clock : s.flow0Batch.clock = s.clock := by simp [State.flow0Batch]
@[simp] theorem State.flow0Batch_table : s.flow0Batch.table = s.table := by simp [State.flow0Batch]
@[simp] theorem State.flow0Batch_ingress :
    s.flow0Batch.ingress = s.ingress := by simp [State.flow0Batch]
@[simp] theorem State.flow0Batch_planner :
    s.flow0Batch.planner = s.planner := by simp [State.flow0Batch]
@[simp] theorem State.flow0Batch_fibreRx :
    s.flow0Batch.fibreRx = s.fibreRx := by simp [State.flow0Batch]
@[simp] theorem State.flow0Batch_radioRx :
    s.flow0Batch.radioRx = s.radioRx := by simp [State.flow0Batch]
@[simp] theorem State.flow0Batch_skew : s.flow0Batch.skew = s.skew := by simp [State.flow0Batch]
@[simp] theorem State.flow0Batch_merge : s.flow0Batch.merge = s.merge := by simp [State.flow0Batch]
@[simp] theorem State.flow0Batch_strike :
    s.flow0Batch.strike = s.strike := by simp [State.flow0Batch]
@[simp] theorem State.flow0Batch_egress :
    s.flow0Batch.egress = s.egress := by simp [State.flow0Batch]
@[simp] theorem State.flow0Batch_tally : s.flow0Batch.tally = s.tally := by simp [State.flow0Batch]
@[simp] theorem State.flow0Batch_events :
    s.flow0Batch.events = s.events := by simp [State.flow0Batch]
@[simp] theorem State.flow0Batch_owed : s.flow0Batch.owed = s.owed := by simp [State.flow0Batch]
@[simp] theorem State.flow0Batch_expired :
    s.flow0Batch.expired = s.expired := by simp [State.flow0Batch]
@[simp] theorem State.flow0Batch_occasion :
    s.flow0Batch.occasion = s.occasion := by simp [State.flow0Batch]
@[simp] theorem State.flow0Batch_pending :
    s.flow0Batch.pending = s.pending := by simp [State.flow0Batch]

@[simp] theorem State.openTransmitters_inReset (n : Superframe) :
    (s.openTransmitters n).inReset = s.inReset := by unfold State.openTransmitters; (repeat' split) <;> simp
@[simp] theorem State.openTransmitters_role (n : Superframe) :
    (s.openTransmitters n).role = s.role := by unfold State.openTransmitters; (repeat' split) <;> simp
@[simp] theorem State.openTransmitters_pins (n : Superframe) :
    (s.openTransmitters n).pins = s.pins := by unfold State.openTransmitters; (repeat' split) <;> simp
@[simp] theorem State.openTransmitters_clock (n : Superframe) :
    (s.openTransmitters n).clock = s.clock := by unfold State.openTransmitters; (repeat' split) <;> simp
@[simp] theorem State.openTransmitters_table (n : Superframe) :
    (s.openTransmitters n).table = s.table := by unfold State.openTransmitters; (repeat' split) <;> simp
@[simp] theorem State.openTransmitters_ingress (n : Superframe) :
    (s.openTransmitters n).ingress = s.ingress := by unfold State.openTransmitters; (repeat' split) <;> simp
@[simp] theorem State.openTransmitters_batch (n : Superframe) :
    (s.openTransmitters n).batch = s.batch := by unfold State.openTransmitters; (repeat' split) <;> simp
@[simp] theorem State.openTransmitters_planner (n : Superframe) :
    (s.openTransmitters n).planner = s.planner := by unfold State.openTransmitters; (repeat' split) <;> simp
@[simp] theorem State.openTransmitters_fibreRx (n : Superframe) :
    (s.openTransmitters n).fibreRx = s.fibreRx := by unfold State.openTransmitters; (repeat' split) <;> simp
@[simp] theorem State.openTransmitters_radioRx (n : Superframe) :
    (s.openTransmitters n).radioRx = s.radioRx := by unfold State.openTransmitters; (repeat' split) <;> simp
@[simp] theorem State.openTransmitters_skew (n : Superframe) :
    (s.openTransmitters n).skew = s.skew := by unfold State.openTransmitters; (repeat' split) <;> simp
@[simp] theorem State.openTransmitters_merge (n : Superframe) :
    (s.openTransmitters n).merge = s.merge := by unfold State.openTransmitters; (repeat' split) <;> simp
@[simp] theorem State.openTransmitters_strike (n : Superframe) :
    (s.openTransmitters n).strike = s.strike := by unfold State.openTransmitters; (repeat' split) <;> simp
@[simp] theorem State.openTransmitters_egress (n : Superframe) :
    (s.openTransmitters n).egress = s.egress := by unfold State.openTransmitters; (repeat' split) <;> simp
@[simp] theorem State.openTransmitters_tally (n : Superframe) :
    (s.openTransmitters n).tally = s.tally := by unfold State.openTransmitters; (repeat' split) <;> simp
@[simp] theorem State.openTransmitters_mgmt (n : Superframe) :
    (s.openTransmitters n).mgmt = s.mgmt := by unfold State.openTransmitters; (repeat' split) <;> simp
@[simp] theorem State.openTransmitters_events (n : Superframe) :
    (s.openTransmitters n).events = s.events := by unfold State.openTransmitters; (repeat' split) <;> simp
@[simp] theorem State.openTransmitters_owed (n : Superframe) :
    (s.openTransmitters n).owed = s.owed := by unfold State.openTransmitters; (repeat' split) <;> simp
@[simp] theorem State.openTransmitters_expired (n : Superframe) :
    (s.openTransmitters n).expired = s.expired := by unfold State.openTransmitters; (repeat' split) <;> simp
@[simp] theorem State.openTransmitters_occasion (n : Superframe) :
    (s.openTransmitters n).occasion = s.occasion := by unfold State.openTransmitters; (repeat' split) <;> simp
@[simp] theorem State.openTransmitters_pending (n : Superframe) :
    (s.openTransmitters n).pending = s.pending := by unfold State.openTransmitters; (repeat' split) <;> simp

@[simp] theorem State.sendSlot_inReset :
    s.sendSlot.inReset = s.inReset := by unfold State.sendSlot; (repeat' split) <;> simp
@[simp] theorem State.sendSlot_role :
    s.sendSlot.role = s.role := by unfold State.sendSlot; (repeat' split) <;> simp
@[simp] theorem State.sendSlot_pins :
    s.sendSlot.pins = s.pins := by unfold State.sendSlot; (repeat' split) <;> simp
@[simp] theorem State.sendSlot_clock :
    s.sendSlot.clock = s.clock := by unfold State.sendSlot; (repeat' split) <;> simp
@[simp] theorem State.sendSlot_table :
    s.sendSlot.table = s.table := by unfold State.sendSlot; (repeat' split) <;> simp
@[simp] theorem State.sendSlot_ingress :
    s.sendSlot.ingress = s.ingress := by unfold State.sendSlot; (repeat' split) <;> simp
@[simp] theorem State.sendSlot_batch :
    s.sendSlot.batch = s.batch := by unfold State.sendSlot; (repeat' split) <;> simp
@[simp] theorem State.sendSlot_planner :
    s.sendSlot.planner = s.planner := by unfold State.sendSlot; (repeat' split) <;> simp
@[simp] theorem State.sendSlot_fibreRx :
    s.sendSlot.fibreRx = s.fibreRx := by unfold State.sendSlot; (repeat' split) <;> simp
@[simp] theorem State.sendSlot_radioRx :
    s.sendSlot.radioRx = s.radioRx := by unfold State.sendSlot; (repeat' split) <;> simp
@[simp] theorem State.sendSlot_skew :
    s.sendSlot.skew = s.skew := by unfold State.sendSlot; (repeat' split) <;> simp
@[simp] theorem State.sendSlot_merge :
    s.sendSlot.merge = s.merge := by unfold State.sendSlot; (repeat' split) <;> simp
@[simp] theorem State.sendSlot_strike :
    s.sendSlot.strike = s.strike := by unfold State.sendSlot; (repeat' split) <;> simp
@[simp] theorem State.sendSlot_egress :
    s.sendSlot.egress = s.egress := by unfold State.sendSlot; (repeat' split) <;> simp
@[simp] theorem State.sendSlot_tally :
    s.sendSlot.tally = s.tally := by unfold State.sendSlot; (repeat' split) <;> simp
@[simp] theorem State.sendSlot_mgmt :
    s.sendSlot.mgmt = s.mgmt := by unfold State.sendSlot; (repeat' split) <;> simp
@[simp] theorem State.sendSlot_events :
    s.sendSlot.events = s.events := by unfold State.sendSlot; (repeat' split) <;> simp
@[simp] theorem State.sendSlot_owed :
    s.sendSlot.owed = s.owed := by unfold State.sendSlot; (repeat' split) <;> simp
@[simp] theorem State.sendSlot_expired :
    s.sendSlot.expired = s.expired := by unfold State.sendSlot; (repeat' split) <;> simp
@[simp] theorem State.sendSlot_occasion :
    s.sendSlot.occasion = s.occasion := by unfold State.sendSlot; (repeat' split) <;> simp
@[simp] theorem State.sendSlot_pending :
    s.sendSlot.pending = s.pending := by unfold State.sendSlot; (repeat' split) <;> simp

@[simp] theorem State.sampleGrade_inReset : s.sampleGrade.inReset = s.inReset := rfl
@[simp] theorem State.sampleGrade_role : s.sampleGrade.role = s.role := rfl
@[simp] theorem State.sampleGrade_pins : s.sampleGrade.pins = s.pins := rfl
@[simp] theorem State.sampleGrade_clock : s.sampleGrade.clock = s.clock := rfl
@[simp] theorem State.sampleGrade_table : s.sampleGrade.table = s.table := rfl
@[simp] theorem State.sampleGrade_ingress : s.sampleGrade.ingress = s.ingress := rfl
@[simp] theorem State.sampleGrade_batch : s.sampleGrade.batch = s.batch := rfl
@[simp] theorem State.sampleGrade_fibreTx : s.sampleGrade.fibreTx = s.fibreTx := rfl
@[simp] theorem State.sampleGrade_radioTx : s.sampleGrade.radioTx = s.radioTx := rfl
@[simp] theorem State.sampleGrade_fibreRx : s.sampleGrade.fibreRx = s.fibreRx := rfl
@[simp] theorem State.sampleGrade_radioRx : s.sampleGrade.radioRx = s.radioRx := rfl
@[simp] theorem State.sampleGrade_skew : s.sampleGrade.skew = s.skew := rfl
@[simp] theorem State.sampleGrade_merge : s.sampleGrade.merge = s.merge := rfl
@[simp] theorem State.sampleGrade_strike : s.sampleGrade.strike = s.strike := rfl
@[simp] theorem State.sampleGrade_egress : s.sampleGrade.egress = s.egress := rfl
@[simp] theorem State.sampleGrade_tally : s.sampleGrade.tally = s.tally := rfl
@[simp] theorem State.sampleGrade_mgmt : s.sampleGrade.mgmt = s.mgmt := rfl
@[simp] theorem State.sampleGrade_events : s.sampleGrade.events = s.events := rfl
@[simp] theorem State.sampleGrade_owed : s.sampleGrade.owed = s.owed := rfl
@[simp] theorem State.sampleGrade_expired : s.sampleGrade.expired = s.expired := rfl
@[simp] theorem State.sampleGrade_occasion : s.sampleGrade.occasion = s.occasion := rfl
@[simp] theorem State.sampleGrade_pending : s.sampleGrade.pending = s.pending := rfl

@[simp] theorem State.gradeTakesEffect_inReset :
    s.gradeTakesEffect.1.inReset = s.inReset := by unfold State.gradeTakesEffect; (repeat' split) <;> simp
@[simp] theorem State.gradeTakesEffect_role :
    s.gradeTakesEffect.1.role = s.role := by unfold State.gradeTakesEffect; (repeat' split) <;> simp
@[simp] theorem State.gradeTakesEffect_pins :
    s.gradeTakesEffect.1.pins = s.pins := by unfold State.gradeTakesEffect; (repeat' split) <;> simp
@[simp] theorem State.gradeTakesEffect_clock :
    s.gradeTakesEffect.1.clock = s.clock := by unfold State.gradeTakesEffect; (repeat' split) <;> simp
@[simp] theorem State.gradeTakesEffect_table :
    s.gradeTakesEffect.1.table = s.table := by unfold State.gradeTakesEffect; (repeat' split) <;> simp
@[simp] theorem State.gradeTakesEffect_ingress :
    s.gradeTakesEffect.1.ingress = s.ingress := by unfold State.gradeTakesEffect; (repeat' split) <;> simp
@[simp] theorem State.gradeTakesEffect_batch :
    s.gradeTakesEffect.1.batch = s.batch := by unfold State.gradeTakesEffect; (repeat' split) <;> simp
@[simp] theorem State.gradeTakesEffect_fibreTx :
    s.gradeTakesEffect.1.fibreTx = s.fibreTx := by unfold State.gradeTakesEffect; (repeat' split) <;> simp
@[simp] theorem State.gradeTakesEffect_radioTx :
    s.gradeTakesEffect.1.radioTx = s.radioTx := by unfold State.gradeTakesEffect; (repeat' split) <;> simp
@[simp] theorem State.gradeTakesEffect_fibreRx :
    s.gradeTakesEffect.1.fibreRx = s.fibreRx := by unfold State.gradeTakesEffect; (repeat' split) <;> simp
@[simp] theorem State.gradeTakesEffect_radioRx :
    s.gradeTakesEffect.1.radioRx = s.radioRx := by unfold State.gradeTakesEffect; (repeat' split) <;> simp
@[simp] theorem State.gradeTakesEffect_skew :
    s.gradeTakesEffect.1.skew = s.skew := by unfold State.gradeTakesEffect; (repeat' split) <;> simp
@[simp] theorem State.gradeTakesEffect_merge :
    s.gradeTakesEffect.1.merge = s.merge := by unfold State.gradeTakesEffect; (repeat' split) <;> simp
@[simp] theorem State.gradeTakesEffect_strike :
    s.gradeTakesEffect.1.strike = s.strike := by unfold State.gradeTakesEffect; (repeat' split) <;> simp
@[simp] theorem State.gradeTakesEffect_egress :
    s.gradeTakesEffect.1.egress = s.egress := by unfold State.gradeTakesEffect; (repeat' split) <;> simp
@[simp] theorem State.gradeTakesEffect_tally :
    s.gradeTakesEffect.1.tally = s.tally := by unfold State.gradeTakesEffect; (repeat' split) <;> simp
@[simp] theorem State.gradeTakesEffect_mgmt :
    s.gradeTakesEffect.1.mgmt = s.mgmt := by unfold State.gradeTakesEffect; (repeat' split) <;> simp
@[simp] theorem State.gradeTakesEffect_owed :
    s.gradeTakesEffect.1.owed = s.owed := by unfold State.gradeTakesEffect; (repeat' split) <;> simp
@[simp] theorem State.gradeTakesEffect_expired :
    s.gradeTakesEffect.1.expired = s.expired := by unfold State.gradeTakesEffect; (repeat' split) <;> simp
@[simp] theorem State.gradeTakesEffect_occasion :
    s.gradeTakesEffect.1.occasion = s.occasion := by unfold State.gradeTakesEffect; (repeat' split) <;> simp
@[simp] theorem State.gradeTakesEffect_pending :
    s.gradeTakesEffect.1.pending = s.pending := by unfold State.gradeTakesEffect; (repeat' split) <;> simp

@[simp] theorem State.raiseFlows_inReset (e : EventId) (fs : List Flow) :
    (s.raiseFlows e fs).inReset = s.inReset := by unfold State.raiseFlows; (repeat' split) <;> simp
@[simp] theorem State.raiseFlows_role (e : EventId) (fs : List Flow) :
    (s.raiseFlows e fs).role = s.role := by unfold State.raiseFlows; (repeat' split) <;> simp
@[simp] theorem State.raiseFlows_pins (e : EventId) (fs : List Flow) :
    (s.raiseFlows e fs).pins = s.pins := by unfold State.raiseFlows; (repeat' split) <;> simp
@[simp] theorem State.raiseFlows_clock (e : EventId) (fs : List Flow) :
    (s.raiseFlows e fs).clock = s.clock := by unfold State.raiseFlows; (repeat' split) <;> simp
@[simp] theorem State.raiseFlows_table (e : EventId) (fs : List Flow) :
    (s.raiseFlows e fs).table = s.table := by unfold State.raiseFlows; (repeat' split) <;> simp
@[simp] theorem State.raiseFlows_ingress (e : EventId) (fs : List Flow) :
    (s.raiseFlows e fs).ingress = s.ingress := by unfold State.raiseFlows; (repeat' split) <;> simp
@[simp] theorem State.raiseFlows_batch (e : EventId) (fs : List Flow) :
    (s.raiseFlows e fs).batch = s.batch := by unfold State.raiseFlows; (repeat' split) <;> simp
@[simp] theorem State.raiseFlows_fibreTx (e : EventId) (fs : List Flow) :
    (s.raiseFlows e fs).fibreTx = s.fibreTx := by unfold State.raiseFlows; (repeat' split) <;> simp
@[simp] theorem State.raiseFlows_radioTx (e : EventId) (fs : List Flow) :
    (s.raiseFlows e fs).radioTx = s.radioTx := by unfold State.raiseFlows; (repeat' split) <;> simp
@[simp] theorem State.raiseFlows_planner (e : EventId) (fs : List Flow) :
    (s.raiseFlows e fs).planner = s.planner := by unfold State.raiseFlows; (repeat' split) <;> simp
@[simp] theorem State.raiseFlows_fibreRx (e : EventId) (fs : List Flow) :
    (s.raiseFlows e fs).fibreRx = s.fibreRx := by unfold State.raiseFlows; (repeat' split) <;> simp
@[simp] theorem State.raiseFlows_radioRx (e : EventId) (fs : List Flow) :
    (s.raiseFlows e fs).radioRx = s.radioRx := by unfold State.raiseFlows; (repeat' split) <;> simp
@[simp] theorem State.raiseFlows_skew (e : EventId) (fs : List Flow) :
    (s.raiseFlows e fs).skew = s.skew := by unfold State.raiseFlows; (repeat' split) <;> simp
@[simp] theorem State.raiseFlows_merge (e : EventId) (fs : List Flow) :
    (s.raiseFlows e fs).merge = s.merge := by unfold State.raiseFlows; (repeat' split) <;> simp
@[simp] theorem State.raiseFlows_strike (e : EventId) (fs : List Flow) :
    (s.raiseFlows e fs).strike = s.strike := by unfold State.raiseFlows; (repeat' split) <;> simp
@[simp] theorem State.raiseFlows_egress (e : EventId) (fs : List Flow) :
    (s.raiseFlows e fs).egress = s.egress := by unfold State.raiseFlows; (repeat' split) <;> simp
@[simp] theorem State.raiseFlows_tally (e : EventId) (fs : List Flow) :
    (s.raiseFlows e fs).tally = s.tally := by unfold State.raiseFlows; (repeat' split) <;> simp
@[simp] theorem State.raiseFlows_mgmt (e : EventId) (fs : List Flow) :
    (s.raiseFlows e fs).mgmt = s.mgmt := by unfold State.raiseFlows; (repeat' split) <;> simp
@[simp] theorem State.raiseFlows_owed (e : EventId) (fs : List Flow) :
    (s.raiseFlows e fs).owed = s.owed := by unfold State.raiseFlows; (repeat' split) <;> simp
@[simp] theorem State.raiseFlows_expired (e : EventId) (fs : List Flow) :
    (s.raiseFlows e fs).expired = s.expired := by unfold State.raiseFlows; (repeat' split) <;> simp
@[simp] theorem State.raiseFlows_occasion (e : EventId) (fs : List Flow) :
    (s.raiseFlows e fs).occasion = s.occasion := by unfold State.raiseFlows; (repeat' split) <;> simp
@[simp] theorem State.raiseFlows_pending (e : EventId) (fs : List Flow) :
    (s.raiseFlows e fs).pending = s.pending := by unfold State.raiseFlows; (repeat' split) <;> simp

@[simp] theorem State.recomputePlan_inReset :
    s.recomputePlan.inReset = s.inReset := by simp [State.recomputePlan]
@[simp] theorem State.recomputePlan_role :
    s.recomputePlan.role = s.role := by simp [State.recomputePlan]
@[simp] theorem State.recomputePlan_pins :
    s.recomputePlan.pins = s.pins := by simp [State.recomputePlan]
@[simp] theorem State.recomputePlan_clock :
    s.recomputePlan.clock = s.clock := by simp [State.recomputePlan]
@[simp] theorem State.recomputePlan_table :
    s.recomputePlan.table = s.table := by simp [State.recomputePlan]
@[simp] theorem State.recomputePlan_ingress :
    s.recomputePlan.ingress = s.ingress := by simp [State.recomputePlan]
@[simp] theorem State.recomputePlan_batch :
    s.recomputePlan.batch = s.batch := by simp [State.recomputePlan]
@[simp] theorem State.recomputePlan_fibreTx :
    s.recomputePlan.fibreTx = s.fibreTx := by simp [State.recomputePlan]
@[simp] theorem State.recomputePlan_radioTx :
    s.recomputePlan.radioTx = s.radioTx := by simp [State.recomputePlan]
@[simp] theorem State.recomputePlan_fibreRx :
    s.recomputePlan.fibreRx = s.fibreRx := by simp [State.recomputePlan]
@[simp] theorem State.recomputePlan_radioRx :
    s.recomputePlan.radioRx = s.radioRx := by simp [State.recomputePlan]
@[simp] theorem State.recomputePlan_skew :
    s.recomputePlan.skew = s.skew := by simp [State.recomputePlan]
@[simp] theorem State.recomputePlan_merge :
    s.recomputePlan.merge = s.merge := by simp [State.recomputePlan]
@[simp] theorem State.recomputePlan_strike :
    s.recomputePlan.strike = s.strike := by simp [State.recomputePlan]
@[simp] theorem State.recomputePlan_egress :
    s.recomputePlan.egress = s.egress := by simp [State.recomputePlan]
@[simp] theorem State.recomputePlan_tally :
    s.recomputePlan.tally = s.tally := by simp [State.recomputePlan]
@[simp] theorem State.recomputePlan_mgmt :
    s.recomputePlan.mgmt = s.mgmt := by simp [State.recomputePlan]
@[simp] theorem State.recomputePlan_owed :
    s.recomputePlan.owed = s.owed := by simp [State.recomputePlan]
@[simp] theorem State.recomputePlan_expired :
    s.recomputePlan.expired = s.expired := by simp [State.recomputePlan]
@[simp] theorem State.recomputePlan_occasion :
    s.recomputePlan.occasion = s.occasion := by simp [State.recomputePlan]
@[simp] theorem State.recomputePlan_pending :
    s.recomputePlan.pending = s.pending := by simp [State.recomputePlan]

@[simp] theorem State.recomputeIf_inReset (due : Bool) :
    (s.recomputeIf due).inReset = s.inReset := by unfold State.recomputeIf; (repeat' split) <;> simp
@[simp] theorem State.recomputeIf_role (due : Bool) :
    (s.recomputeIf due).role = s.role := by unfold State.recomputeIf; (repeat' split) <;> simp
@[simp] theorem State.recomputeIf_pins (due : Bool) :
    (s.recomputeIf due).pins = s.pins := by unfold State.recomputeIf; (repeat' split) <;> simp
@[simp] theorem State.recomputeIf_clock (due : Bool) :
    (s.recomputeIf due).clock = s.clock := by unfold State.recomputeIf; (repeat' split) <;> simp
@[simp] theorem State.recomputeIf_table (due : Bool) :
    (s.recomputeIf due).table = s.table := by unfold State.recomputeIf; (repeat' split) <;> simp
@[simp] theorem State.recomputeIf_ingress (due : Bool) :
    (s.recomputeIf due).ingress = s.ingress := by unfold State.recomputeIf; (repeat' split) <;> simp
@[simp] theorem State.recomputeIf_batch (due : Bool) :
    (s.recomputeIf due).batch = s.batch := by unfold State.recomputeIf; (repeat' split) <;> simp
@[simp] theorem State.recomputeIf_fibreTx (due : Bool) :
    (s.recomputeIf due).fibreTx = s.fibreTx := by unfold State.recomputeIf; (repeat' split) <;> simp
@[simp] theorem State.recomputeIf_radioTx (due : Bool) :
    (s.recomputeIf due).radioTx = s.radioTx := by unfold State.recomputeIf; (repeat' split) <;> simp
@[simp] theorem State.recomputeIf_fibreRx (due : Bool) :
    (s.recomputeIf due).fibreRx = s.fibreRx := by unfold State.recomputeIf; (repeat' split) <;> simp
@[simp] theorem State.recomputeIf_radioRx (due : Bool) :
    (s.recomputeIf due).radioRx = s.radioRx := by unfold State.recomputeIf; (repeat' split) <;> simp
@[simp] theorem State.recomputeIf_skew (due : Bool) :
    (s.recomputeIf due).skew = s.skew := by unfold State.recomputeIf; (repeat' split) <;> simp
@[simp] theorem State.recomputeIf_merge (due : Bool) :
    (s.recomputeIf due).merge = s.merge := by unfold State.recomputeIf; (repeat' split) <;> simp
@[simp] theorem State.recomputeIf_strike (due : Bool) :
    (s.recomputeIf due).strike = s.strike := by unfold State.recomputeIf; (repeat' split) <;> simp
@[simp] theorem State.recomputeIf_egress (due : Bool) :
    (s.recomputeIf due).egress = s.egress := by unfold State.recomputeIf; (repeat' split) <;> simp
@[simp] theorem State.recomputeIf_tally (due : Bool) :
    (s.recomputeIf due).tally = s.tally := by unfold State.recomputeIf; (repeat' split) <;> simp
@[simp] theorem State.recomputeIf_mgmt (due : Bool) :
    (s.recomputeIf due).mgmt = s.mgmt := by unfold State.recomputeIf; (repeat' split) <;> simp
@[simp] theorem State.recomputeIf_owed (due : Bool) :
    (s.recomputeIf due).owed = s.owed := by unfold State.recomputeIf; (repeat' split) <;> simp
@[simp] theorem State.recomputeIf_expired (due : Bool) :
    (s.recomputeIf due).expired = s.expired := by unfold State.recomputeIf; (repeat' split) <;> simp
@[simp] theorem State.recomputeIf_occasion (due : Bool) :
    (s.recomputeIf due).occasion = s.occasion := by unfold State.recomputeIf; (repeat' split) <;> simp
@[simp] theorem State.recomputeIf_pending (due : Bool) :
    (s.recomputeIf due).pending = s.pending := by unfold State.recomputeIf; (repeat' split) <;> simp

@[simp] theorem State.farReport_inReset (v : Bool) :
    (s.farReport v).inReset = s.inReset := by unfold State.farReport; dsimp only; (repeat' split) <;> simp
@[simp] theorem State.farReport_role (v : Bool) :
    (s.farReport v).role = s.role := by unfold State.farReport; dsimp only; (repeat' split) <;> simp
@[simp] theorem State.farReport_pins (v : Bool) :
    (s.farReport v).pins = s.pins := by unfold State.farReport; dsimp only; (repeat' split) <;> simp
@[simp] theorem State.farReport_clock (v : Bool) :
    (s.farReport v).clock = s.clock := by unfold State.farReport; dsimp only; (repeat' split) <;> simp
@[simp] theorem State.farReport_table (v : Bool) :
    (s.farReport v).table = s.table := by unfold State.farReport; dsimp only; (repeat' split) <;> simp
@[simp] theorem State.farReport_ingress (v : Bool) :
    (s.farReport v).ingress = s.ingress := by unfold State.farReport; dsimp only; (repeat' split) <;> simp
@[simp] theorem State.farReport_batch (v : Bool) :
    (s.farReport v).batch = s.batch := by unfold State.farReport; dsimp only; (repeat' split) <;> simp
@[simp] theorem State.farReport_fibreTx (v : Bool) :
    (s.farReport v).fibreTx = s.fibreTx := by unfold State.farReport; dsimp only; (repeat' split) <;> simp
@[simp] theorem State.farReport_radioTx (v : Bool) :
    (s.farReport v).radioTx = s.radioTx := by unfold State.farReport; dsimp only; (repeat' split) <;> simp
@[simp] theorem State.farReport_fibreRx (v : Bool) :
    (s.farReport v).fibreRx = s.fibreRx := by unfold State.farReport; dsimp only; (repeat' split) <;> simp
@[simp] theorem State.farReport_radioRx (v : Bool) :
    (s.farReport v).radioRx = s.radioRx := by unfold State.farReport; dsimp only; (repeat' split) <;> simp
@[simp] theorem State.farReport_skew (v : Bool) :
    (s.farReport v).skew = s.skew := by unfold State.farReport; dsimp only; (repeat' split) <;> simp
@[simp] theorem State.farReport_merge (v : Bool) :
    (s.farReport v).merge = s.merge := by unfold State.farReport; dsimp only; (repeat' split) <;> simp
@[simp] theorem State.farReport_strike (v : Bool) :
    (s.farReport v).strike = s.strike := by unfold State.farReport; dsimp only; (repeat' split) <;> simp
@[simp] theorem State.farReport_egress (v : Bool) :
    (s.farReport v).egress = s.egress := by unfold State.farReport; dsimp only; (repeat' split) <;> simp
@[simp] theorem State.farReport_tally (v : Bool) :
    (s.farReport v).tally = s.tally := by unfold State.farReport; dsimp only; (repeat' split) <;> simp
@[simp] theorem State.farReport_mgmt (v : Bool) :
    (s.farReport v).mgmt = s.mgmt := by unfold State.farReport; dsimp only; (repeat' split) <;> simp
@[simp] theorem State.farReport_owed (v : Bool) :
    (s.farReport v).owed = s.owed := by unfold State.farReport; dsimp only; (repeat' split) <;> simp
@[simp] theorem State.farReport_expired (v : Bool) :
    (s.farReport v).expired = s.expired := by unfold State.farReport; dsimp only; (repeat' split) <;> simp
@[simp] theorem State.farReport_occasion (v : Bool) :
    (s.farReport v).occasion = s.occasion := by unfold State.farReport; dsimp only; (repeat' split) <;> simp
@[simp] theorem State.farReport_pending (v : Bool) :
    (s.farReport v).pending = s.pending := by unfold State.farReport; dsimp only; (repeat' split) <;> simp

@[simp] theorem State.reportIf_inReset (now v : Bool) :
    (s.reportIf now v).inReset = s.inReset := by unfold State.reportIf; (repeat' split) <;> simp
@[simp] theorem State.reportIf_role (now v : Bool) :
    (s.reportIf now v).role = s.role := by unfold State.reportIf; (repeat' split) <;> simp
@[simp] theorem State.reportIf_pins (now v : Bool) :
    (s.reportIf now v).pins = s.pins := by unfold State.reportIf; (repeat' split) <;> simp
@[simp] theorem State.reportIf_clock (now v : Bool) :
    (s.reportIf now v).clock = s.clock := by unfold State.reportIf; (repeat' split) <;> simp
@[simp] theorem State.reportIf_table (now v : Bool) :
    (s.reportIf now v).table = s.table := by unfold State.reportIf; (repeat' split) <;> simp
@[simp] theorem State.reportIf_ingress (now v : Bool) :
    (s.reportIf now v).ingress = s.ingress := by unfold State.reportIf; (repeat' split) <;> simp
@[simp] theorem State.reportIf_batch (now v : Bool) :
    (s.reportIf now v).batch = s.batch := by unfold State.reportIf; (repeat' split) <;> simp
@[simp] theorem State.reportIf_fibreTx (now v : Bool) :
    (s.reportIf now v).fibreTx = s.fibreTx := by unfold State.reportIf; (repeat' split) <;> simp
@[simp] theorem State.reportIf_radioTx (now v : Bool) :
    (s.reportIf now v).radioTx = s.radioTx := by unfold State.reportIf; (repeat' split) <;> simp
@[simp] theorem State.reportIf_fibreRx (now v : Bool) :
    (s.reportIf now v).fibreRx = s.fibreRx := by unfold State.reportIf; (repeat' split) <;> simp
@[simp] theorem State.reportIf_radioRx (now v : Bool) :
    (s.reportIf now v).radioRx = s.radioRx := by unfold State.reportIf; (repeat' split) <;> simp
@[simp] theorem State.reportIf_skew (now v : Bool) :
    (s.reportIf now v).skew = s.skew := by unfold State.reportIf; (repeat' split) <;> simp
@[simp] theorem State.reportIf_merge (now v : Bool) :
    (s.reportIf now v).merge = s.merge := by unfold State.reportIf; (repeat' split) <;> simp
@[simp] theorem State.reportIf_strike (now v : Bool) :
    (s.reportIf now v).strike = s.strike := by unfold State.reportIf; (repeat' split) <;> simp
@[simp] theorem State.reportIf_egress (now v : Bool) :
    (s.reportIf now v).egress = s.egress := by unfold State.reportIf; (repeat' split) <;> simp
@[simp] theorem State.reportIf_tally (now v : Bool) :
    (s.reportIf now v).tally = s.tally := by unfold State.reportIf; (repeat' split) <;> simp
@[simp] theorem State.reportIf_mgmt (now v : Bool) :
    (s.reportIf now v).mgmt = s.mgmt := by unfold State.reportIf; (repeat' split) <;> simp
@[simp] theorem State.reportIf_owed (now v : Bool) :
    (s.reportIf now v).owed = s.owed := by unfold State.reportIf; (repeat' split) <;> simp
@[simp] theorem State.reportIf_expired (now v : Bool) :
    (s.reportIf now v).expired = s.expired := by unfold State.reportIf; (repeat' split) <;> simp
@[simp] theorem State.reportIf_occasion (now v : Bool) :
    (s.reportIf now v).occasion = s.occasion := by unfold State.reportIf; (repeat' split) <;> simp
@[simp] theorem State.reportIf_pending (now v : Bool) :
    (s.reportIf now v).pending = s.pending := by unfold State.reportIf; (repeat' split) <;> simp

@[simp] theorem State.strikeOn_inReset (l : StrikeLine) :
    (s.strikeOn l).inReset = s.inReset := by simp [State.strikeOn]
@[simp] theorem State.strikeOn_role (l : StrikeLine) :
    (s.strikeOn l).role = s.role := by simp [State.strikeOn]
@[simp] theorem State.strikeOn_pins (l : StrikeLine) :
    (s.strikeOn l).pins = s.pins := by simp [State.strikeOn]
@[simp] theorem State.strikeOn_clock (l : StrikeLine) :
    (s.strikeOn l).clock = s.clock := by simp [State.strikeOn]
@[simp] theorem State.strikeOn_table (l : StrikeLine) :
    (s.strikeOn l).table = s.table := by simp [State.strikeOn]
@[simp] theorem State.strikeOn_ingress (l : StrikeLine) :
    (s.strikeOn l).ingress = s.ingress := by simp [State.strikeOn]
@[simp] theorem State.strikeOn_batch (l : StrikeLine) :
    (s.strikeOn l).batch = s.batch := by simp [State.strikeOn]
@[simp] theorem State.strikeOn_fibreTx (l : StrikeLine) :
    (s.strikeOn l).fibreTx = s.fibreTx := by simp [State.strikeOn]
@[simp] theorem State.strikeOn_radioTx (l : StrikeLine) :
    (s.strikeOn l).radioTx = s.radioTx := by simp [State.strikeOn]
@[simp] theorem State.strikeOn_planner (l : StrikeLine) :
    (s.strikeOn l).planner = s.planner := by simp [State.strikeOn]
@[simp] theorem State.strikeOn_fibreRx (l : StrikeLine) :
    (s.strikeOn l).fibreRx = s.fibreRx := by simp [State.strikeOn]
@[simp] theorem State.strikeOn_radioRx (l : StrikeLine) :
    (s.strikeOn l).radioRx = s.radioRx := by simp [State.strikeOn]
@[simp] theorem State.strikeOn_skew (l : StrikeLine) :
    (s.strikeOn l).skew = s.skew := by simp [State.strikeOn]
@[simp] theorem State.strikeOn_merge (l : StrikeLine) :
    (s.strikeOn l).merge = s.merge := by simp [State.strikeOn]
@[simp] theorem State.strikeOn_egress (l : StrikeLine) :
    (s.strikeOn l).egress = s.egress := by simp [State.strikeOn]
@[simp] theorem State.strikeOn_tally (l : StrikeLine) :
    (s.strikeOn l).tally = s.tally := by simp [State.strikeOn]
@[simp] theorem State.strikeOn_mgmt (l : StrikeLine) :
    (s.strikeOn l).mgmt = s.mgmt := by simp [State.strikeOn]
@[simp] theorem State.strikeOn_owed (l : StrikeLine) :
    (s.strikeOn l).owed = s.owed := by simp [State.strikeOn]
@[simp] theorem State.strikeOn_expired (l : StrikeLine) :
    (s.strikeOn l).expired = s.expired := by simp [State.strikeOn]
@[simp] theorem State.strikeOn_occasion (l : StrikeLine) :
    (s.strikeOn l).occasion = s.occasion := by simp [State.strikeOn]
@[simp] theorem State.strikeOn_pending (l : StrikeLine) :
    (s.strikeOn l).pending = s.pending := by simp [State.strikeOn]

@[simp] theorem State.sampleStrikes_inReset :
    s.sampleStrikes.inReset = s.inReset := by unfold State.sampleStrikes; dsimp only; (repeat' split) <;> simp
@[simp] theorem State.sampleStrikes_role :
    s.sampleStrikes.role = s.role := by unfold State.sampleStrikes; dsimp only; (repeat' split) <;> simp
@[simp] theorem State.sampleStrikes_pins :
    s.sampleStrikes.pins = s.pins := by unfold State.sampleStrikes; dsimp only; (repeat' split) <;> simp
@[simp] theorem State.sampleStrikes_clock :
    s.sampleStrikes.clock = s.clock := by unfold State.sampleStrikes; dsimp only; (repeat' split) <;> simp
@[simp] theorem State.sampleStrikes_table :
    s.sampleStrikes.table = s.table := by unfold State.sampleStrikes; dsimp only; (repeat' split) <;> simp
@[simp] theorem State.sampleStrikes_ingress :
    s.sampleStrikes.ingress = s.ingress := by unfold State.sampleStrikes; dsimp only; (repeat' split) <;> simp
@[simp] theorem State.sampleStrikes_batch :
    s.sampleStrikes.batch = s.batch := by unfold State.sampleStrikes; dsimp only; (repeat' split) <;> simp
@[simp] theorem State.sampleStrikes_fibreTx :
    s.sampleStrikes.fibreTx = s.fibreTx := by unfold State.sampleStrikes; dsimp only; (repeat' split) <;> simp
@[simp] theorem State.sampleStrikes_radioTx :
    s.sampleStrikes.radioTx = s.radioTx := by unfold State.sampleStrikes; dsimp only; (repeat' split) <;> simp
@[simp] theorem State.sampleStrikes_planner :
    s.sampleStrikes.planner = s.planner := by unfold State.sampleStrikes; dsimp only; (repeat' split) <;> simp
@[simp] theorem State.sampleStrikes_fibreRx :
    s.sampleStrikes.fibreRx = s.fibreRx := by unfold State.sampleStrikes; dsimp only; (repeat' split) <;> simp
@[simp] theorem State.sampleStrikes_radioRx :
    s.sampleStrikes.radioRx = s.radioRx := by unfold State.sampleStrikes; dsimp only; (repeat' split) <;> simp
@[simp] theorem State.sampleStrikes_skew :
    s.sampleStrikes.skew = s.skew := by unfold State.sampleStrikes; dsimp only; (repeat' split) <;> simp
@[simp] theorem State.sampleStrikes_merge :
    s.sampleStrikes.merge = s.merge := by unfold State.sampleStrikes; dsimp only; (repeat' split) <;> simp
@[simp] theorem State.sampleStrikes_egress :
    s.sampleStrikes.egress = s.egress := by unfold State.sampleStrikes; dsimp only; (repeat' split) <;> simp
@[simp] theorem State.sampleStrikes_tally :
    s.sampleStrikes.tally = s.tally := by unfold State.sampleStrikes; dsimp only; (repeat' split) <;> simp
@[simp] theorem State.sampleStrikes_mgmt :
    s.sampleStrikes.mgmt = s.mgmt := by unfold State.sampleStrikes; dsimp only; (repeat' split) <;> simp
@[simp] theorem State.sampleStrikes_owed :
    s.sampleStrikes.owed = s.owed := by unfold State.sampleStrikes; dsimp only; (repeat' split) <;> simp
@[simp] theorem State.sampleStrikes_expired :
    s.sampleStrikes.expired = s.expired := by unfold State.sampleStrikes; dsimp only; (repeat' split) <;> simp
@[simp] theorem State.sampleStrikes_occasion :
    s.sampleStrikes.occasion = s.occasion := by unfold State.sampleStrikes; dsimp only; (repeat' split) <;> simp
@[simp] theorem State.sampleStrikes_pending :
    s.sampleStrikes.pending = s.pending := by unfold State.sampleStrikes; dsimp only; (repeat' split) <;> simp

@[simp] theorem State.stormStart_inReset :
    s.stormStart.inReset = s.inReset := by unfold State.stormStart; (repeat' split) <;> simp
@[simp] theorem State.stormStart_role :
    s.stormStart.role = s.role := by unfold State.stormStart; (repeat' split) <;> simp
@[simp] theorem State.stormStart_pins :
    s.stormStart.pins = s.pins := by unfold State.stormStart; (repeat' split) <;> simp
@[simp] theorem State.stormStart_clock :
    s.stormStart.clock = s.clock := by unfold State.stormStart; (repeat' split) <;> simp
@[simp] theorem State.stormStart_table :
    s.stormStart.table = s.table := by unfold State.stormStart; (repeat' split) <;> simp
@[simp] theorem State.stormStart_ingress :
    s.stormStart.ingress = s.ingress := by unfold State.stormStart; (repeat' split) <;> simp
@[simp] theorem State.stormStart_batch :
    s.stormStart.batch = s.batch := by unfold State.stormStart; (repeat' split) <;> simp
@[simp] theorem State.stormStart_fibreTx :
    s.stormStart.fibreTx = s.fibreTx := by unfold State.stormStart; (repeat' split) <;> simp
@[simp] theorem State.stormStart_radioTx :
    s.stormStart.radioTx = s.radioTx := by unfold State.stormStart; (repeat' split) <;> simp
@[simp] theorem State.stormStart_planner :
    s.stormStart.planner = s.planner := by unfold State.stormStart; (repeat' split) <;> simp
@[simp] theorem State.stormStart_fibreRx :
    s.stormStart.fibreRx = s.fibreRx := by unfold State.stormStart; (repeat' split) <;> simp
@[simp] theorem State.stormStart_radioRx :
    s.stormStart.radioRx = s.radioRx := by unfold State.stormStart; (repeat' split) <;> simp
@[simp] theorem State.stormStart_skew :
    s.stormStart.skew = s.skew := by unfold State.stormStart; (repeat' split) <;> simp
@[simp] theorem State.stormStart_merge :
    s.stormStart.merge = s.merge := by unfold State.stormStart; (repeat' split) <;> simp
@[simp] theorem State.stormStart_egress :
    s.stormStart.egress = s.egress := by unfold State.stormStart; (repeat' split) <;> simp
@[simp] theorem State.stormStart_tally :
    s.stormStart.tally = s.tally := by unfold State.stormStart; (repeat' split) <;> simp
@[simp] theorem State.stormStart_mgmt :
    s.stormStart.mgmt = s.mgmt := by unfold State.stormStart; (repeat' split) <;> simp
@[simp] theorem State.stormStart_owed :
    s.stormStart.owed = s.owed := by unfold State.stormStart; (repeat' split) <;> simp
@[simp] theorem State.stormStart_occasion :
    s.stormStart.occasion = s.occasion := by unfold State.stormStart; (repeat' split) <;> simp
@[simp] theorem State.stormStart_pending :
    s.stormStart.pending = s.pending := by unfold State.stormStart; (repeat' split) <;> simp

@[simp] theorem State.skewSample_inReset (v : Int) :
    (s.skewSample v).inReset = s.inReset := by unfold State.skewSample; (repeat' split) <;> simp
@[simp] theorem State.skewSample_role (v : Int) :
    (s.skewSample v).role = s.role := by unfold State.skewSample; (repeat' split) <;> simp
@[simp] theorem State.skewSample_pins (v : Int) :
    (s.skewSample v).pins = s.pins := by unfold State.skewSample; (repeat' split) <;> simp
@[simp] theorem State.skewSample_table (v : Int) :
    (s.skewSample v).table = s.table := by unfold State.skewSample; (repeat' split) <;> simp
@[simp] theorem State.skewSample_ingress (v : Int) :
    (s.skewSample v).ingress = s.ingress := by unfold State.skewSample; (repeat' split) <;> simp
@[simp] theorem State.skewSample_batch (v : Int) :
    (s.skewSample v).batch = s.batch := by unfold State.skewSample; (repeat' split) <;> simp
@[simp] theorem State.skewSample_fibreTx (v : Int) :
    (s.skewSample v).fibreTx = s.fibreTx := by unfold State.skewSample; (repeat' split) <;> simp
@[simp] theorem State.skewSample_radioTx (v : Int) :
    (s.skewSample v).radioTx = s.radioTx := by unfold State.skewSample; (repeat' split) <;> simp
@[simp] theorem State.skewSample_planner (v : Int) :
    (s.skewSample v).planner = s.planner := by unfold State.skewSample; (repeat' split) <;> simp
@[simp] theorem State.skewSample_fibreRx (v : Int) :
    (s.skewSample v).fibreRx = s.fibreRx := by unfold State.skewSample; (repeat' split) <;> simp
@[simp] theorem State.skewSample_radioRx (v : Int) :
    (s.skewSample v).radioRx = s.radioRx := by unfold State.skewSample; (repeat' split) <;> simp
@[simp] theorem State.skewSample_merge (v : Int) :
    (s.skewSample v).merge = s.merge := by unfold State.skewSample; (repeat' split) <;> simp
@[simp] theorem State.skewSample_strike (v : Int) :
    (s.skewSample v).strike = s.strike := by unfold State.skewSample; (repeat' split) <;> simp
@[simp] theorem State.skewSample_egress (v : Int) :
    (s.skewSample v).egress = s.egress := by unfold State.skewSample; (repeat' split) <;> simp
@[simp] theorem State.skewSample_tally (v : Int) :
    (s.skewSample v).tally = s.tally := by unfold State.skewSample; (repeat' split) <;> simp
@[simp] theorem State.skewSample_mgmt (v : Int) :
    (s.skewSample v).mgmt = s.mgmt := by unfold State.skewSample; (repeat' split) <;> simp
@[simp] theorem State.skewSample_owed (v : Int) :
    (s.skewSample v).owed = s.owed := by unfold State.skewSample; (repeat' split) <;> simp
@[simp] theorem State.skewSample_occasion (v : Int) :
    (s.skewSample v).occasion = s.occasion := by unfold State.skewSample; (repeat' split) <;> simp
@[simp] theorem State.skewSample_pending (v : Int) :
    (s.skewSample v).pending = s.pending := by unfold State.skewSample; (repeat' split) <;> simp

@[simp] theorem State.skewMarker_inReset (b : Bearer) (t : Superframe) (a : LinkTime) :
    (s.skewMarker b t a).inReset = s.inReset := by unfold State.skewMarker; (repeat' split) <;> simp
@[simp] theorem State.skewMarker_role (b : Bearer) (t : Superframe) (a : LinkTime) :
    (s.skewMarker b t a).role = s.role := by unfold State.skewMarker; (repeat' split) <;> simp
@[simp] theorem State.skewMarker_pins (b : Bearer) (t : Superframe) (a : LinkTime) :
    (s.skewMarker b t a).pins = s.pins := by unfold State.skewMarker; (repeat' split) <;> simp
@[simp] theorem State.skewMarker_table (b : Bearer) (t : Superframe) (a : LinkTime) :
    (s.skewMarker b t a).table = s.table := by unfold State.skewMarker; (repeat' split) <;> simp
@[simp] theorem State.skewMarker_ingress (b : Bearer) (t : Superframe) (a : LinkTime) :
    (s.skewMarker b t a).ingress = s.ingress := by unfold State.skewMarker; (repeat' split) <;> simp
@[simp] theorem State.skewMarker_batch (b : Bearer) (t : Superframe) (a : LinkTime) :
    (s.skewMarker b t a).batch = s.batch := by unfold State.skewMarker; (repeat' split) <;> simp
@[simp] theorem State.skewMarker_fibreTx (b : Bearer) (t : Superframe) (a : LinkTime) :
    (s.skewMarker b t a).fibreTx = s.fibreTx := by unfold State.skewMarker; (repeat' split) <;> simp
@[simp] theorem State.skewMarker_radioTx (b : Bearer) (t : Superframe) (a : LinkTime) :
    (s.skewMarker b t a).radioTx = s.radioTx := by unfold State.skewMarker; (repeat' split) <;> simp
@[simp] theorem State.skewMarker_planner (b : Bearer) (t : Superframe) (a : LinkTime) :
    (s.skewMarker b t a).planner = s.planner := by unfold State.skewMarker; (repeat' split) <;> simp
@[simp] theorem State.skewMarker_fibreRx (b : Bearer) (t : Superframe) (a : LinkTime) :
    (s.skewMarker b t a).fibreRx = s.fibreRx := by unfold State.skewMarker; (repeat' split) <;> simp
@[simp] theorem State.skewMarker_radioRx (b : Bearer) (t : Superframe) (a : LinkTime) :
    (s.skewMarker b t a).radioRx = s.radioRx := by unfold State.skewMarker; (repeat' split) <;> simp
@[simp] theorem State.skewMarker_merge (b : Bearer) (t : Superframe) (a : LinkTime) :
    (s.skewMarker b t a).merge = s.merge := by unfold State.skewMarker; (repeat' split) <;> simp
@[simp] theorem State.skewMarker_strike (b : Bearer) (t : Superframe) (a : LinkTime) :
    (s.skewMarker b t a).strike = s.strike := by unfold State.skewMarker; (repeat' split) <;> simp
@[simp] theorem State.skewMarker_egress (b : Bearer) (t : Superframe) (a : LinkTime) :
    (s.skewMarker b t a).egress = s.egress := by unfold State.skewMarker; (repeat' split) <;> simp
@[simp] theorem State.skewMarker_tally (b : Bearer) (t : Superframe) (a : LinkTime) :
    (s.skewMarker b t a).tally = s.tally := by unfold State.skewMarker; (repeat' split) <;> simp
@[simp] theorem State.skewMarker_mgmt (b : Bearer) (t : Superframe) (a : LinkTime) :
    (s.skewMarker b t a).mgmt = s.mgmt := by unfold State.skewMarker; (repeat' split) <;> simp
@[simp] theorem State.skewMarker_owed (b : Bearer) (t : Superframe) (a : LinkTime) :
    (s.skewMarker b t a).owed = s.owed := by unfold State.skewMarker; (repeat' split) <;> simp
@[simp] theorem State.skewMarker_occasion (b : Bearer) (t : Superframe) (a : LinkTime) :
    (s.skewMarker b t a).occasion = s.occasion := by unfold State.skewMarker; (repeat' split) <;> simp
@[simp] theorem State.skewMarker_pending (b : Bearer) (t : Superframe) (a : LinkTime) :
    (s.skewMarker b t a).pending = s.pending := by unfold State.skewMarker; (repeat' split) <;> simp

@[simp] theorem State.skewIf_inReset (now : Bool) (b : Bearer) (t : Superframe) (a : LinkTime) :
    (s.skewIf now b t a).inReset = s.inReset := by unfold State.skewIf; (repeat' split) <;> simp
@[simp] theorem State.skewIf_role (now : Bool) (b : Bearer) (t : Superframe) (a : LinkTime) :
    (s.skewIf now b t a).role = s.role := by unfold State.skewIf; (repeat' split) <;> simp
@[simp] theorem State.skewIf_pins (now : Bool) (b : Bearer) (t : Superframe) (a : LinkTime) :
    (s.skewIf now b t a).pins = s.pins := by unfold State.skewIf; (repeat' split) <;> simp
@[simp] theorem State.skewIf_table (now : Bool) (b : Bearer) (t : Superframe) (a : LinkTime) :
    (s.skewIf now b t a).table = s.table := by unfold State.skewIf; (repeat' split) <;> simp
@[simp] theorem State.skewIf_ingress (now : Bool) (b : Bearer) (t : Superframe) (a : LinkTime) :
    (s.skewIf now b t a).ingress = s.ingress := by unfold State.skewIf; (repeat' split) <;> simp
@[simp] theorem State.skewIf_batch (now : Bool) (b : Bearer) (t : Superframe) (a : LinkTime) :
    (s.skewIf now b t a).batch = s.batch := by unfold State.skewIf; (repeat' split) <;> simp
@[simp] theorem State.skewIf_fibreTx (now : Bool) (b : Bearer) (t : Superframe) (a : LinkTime) :
    (s.skewIf now b t a).fibreTx = s.fibreTx := by unfold State.skewIf; (repeat' split) <;> simp
@[simp] theorem State.skewIf_radioTx (now : Bool) (b : Bearer) (t : Superframe) (a : LinkTime) :
    (s.skewIf now b t a).radioTx = s.radioTx := by unfold State.skewIf; (repeat' split) <;> simp
@[simp] theorem State.skewIf_planner (now : Bool) (b : Bearer) (t : Superframe) (a : LinkTime) :
    (s.skewIf now b t a).planner = s.planner := by unfold State.skewIf; (repeat' split) <;> simp
@[simp] theorem State.skewIf_fibreRx (now : Bool) (b : Bearer) (t : Superframe) (a : LinkTime) :
    (s.skewIf now b t a).fibreRx = s.fibreRx := by unfold State.skewIf; (repeat' split) <;> simp
@[simp] theorem State.skewIf_radioRx (now : Bool) (b : Bearer) (t : Superframe) (a : LinkTime) :
    (s.skewIf now b t a).radioRx = s.radioRx := by unfold State.skewIf; (repeat' split) <;> simp
@[simp] theorem State.skewIf_merge (now : Bool) (b : Bearer) (t : Superframe) (a : LinkTime) :
    (s.skewIf now b t a).merge = s.merge := by unfold State.skewIf; (repeat' split) <;> simp
@[simp] theorem State.skewIf_strike (now : Bool) (b : Bearer) (t : Superframe) (a : LinkTime) :
    (s.skewIf now b t a).strike = s.strike := by unfold State.skewIf; (repeat' split) <;> simp
@[simp] theorem State.skewIf_egress (now : Bool) (b : Bearer) (t : Superframe) (a : LinkTime) :
    (s.skewIf now b t a).egress = s.egress := by unfold State.skewIf; (repeat' split) <;> simp
@[simp] theorem State.skewIf_tally (now : Bool) (b : Bearer) (t : Superframe) (a : LinkTime) :
    (s.skewIf now b t a).tally = s.tally := by unfold State.skewIf; (repeat' split) <;> simp
@[simp] theorem State.skewIf_mgmt (now : Bool) (b : Bearer) (t : Superframe) (a : LinkTime) :
    (s.skewIf now b t a).mgmt = s.mgmt := by unfold State.skewIf; (repeat' split) <;> simp
@[simp] theorem State.skewIf_owed (now : Bool) (b : Bearer) (t : Superframe) (a : LinkTime) :
    (s.skewIf now b t a).owed = s.owed := by unfold State.skewIf; (repeat' split) <;> simp
@[simp] theorem State.skewIf_occasion (now : Bool) (b : Bearer) (t : Superframe) (a : LinkTime) :
    (s.skewIf now b t a).occasion = s.occasion := by unfold State.skewIf; (repeat' split) <;> simp
@[simp] theorem State.skewIf_pending (now : Bool) (b : Bearer) (t : Superframe) (a : LinkTime) :
    (s.skewIf now b t a).pending = s.pending := by unfold State.skewIf; (repeat' split) <;> simp

@[simp] theorem State.handEntry_inReset (n : Trib) (f : Flow) (e : EgressEntry) :
    (State.handEntry n f s e).inReset = s.inReset := by unfold State.handEntry; (repeat' split) <;> simp
@[simp] theorem State.handEntry_role (n : Trib) (f : Flow) (e : EgressEntry) :
    (State.handEntry n f s e).role = s.role := by unfold State.handEntry; (repeat' split) <;> simp
@[simp] theorem State.handEntry_pins (n : Trib) (f : Flow) (e : EgressEntry) :
    (State.handEntry n f s e).pins = s.pins := by unfold State.handEntry; (repeat' split) <;> simp
@[simp] theorem State.handEntry_clock (n : Trib) (f : Flow) (e : EgressEntry) :
    (State.handEntry n f s e).clock = s.clock := by unfold State.handEntry; (repeat' split) <;> simp
@[simp] theorem State.handEntry_table (n : Trib) (f : Flow) (e : EgressEntry) :
    (State.handEntry n f s e).table = s.table := by unfold State.handEntry; (repeat' split) <;> simp
@[simp] theorem State.handEntry_ingress (n : Trib) (f : Flow) (e : EgressEntry) :
    (State.handEntry n f s e).ingress = s.ingress := by unfold State.handEntry; (repeat' split) <;> simp
@[simp] theorem State.handEntry_batch (n : Trib) (f : Flow) (e : EgressEntry) :
    (State.handEntry n f s e).batch = s.batch := by unfold State.handEntry; (repeat' split) <;> simp
@[simp] theorem State.handEntry_fibreTx (n : Trib) (f : Flow) (e : EgressEntry) :
    (State.handEntry n f s e).fibreTx = s.fibreTx := by unfold State.handEntry; (repeat' split) <;> simp
@[simp] theorem State.handEntry_radioTx (n : Trib) (f : Flow) (e : EgressEntry) :
    (State.handEntry n f s e).radioTx = s.radioTx := by unfold State.handEntry; (repeat' split) <;> simp
@[simp] theorem State.handEntry_planner (n : Trib) (f : Flow) (e : EgressEntry) :
    (State.handEntry n f s e).planner = s.planner := by unfold State.handEntry; (repeat' split) <;> simp
@[simp] theorem State.handEntry_fibreRx (n : Trib) (f : Flow) (e : EgressEntry) :
    (State.handEntry n f s e).fibreRx = s.fibreRx := by unfold State.handEntry; (repeat' split) <;> simp
@[simp] theorem State.handEntry_radioRx (n : Trib) (f : Flow) (e : EgressEntry) :
    (State.handEntry n f s e).radioRx = s.radioRx := by unfold State.handEntry; (repeat' split) <;> simp
@[simp] theorem State.handEntry_skew (n : Trib) (f : Flow) (e : EgressEntry) :
    (State.handEntry n f s e).skew = s.skew := by unfold State.handEntry; (repeat' split) <;> simp
@[simp] theorem State.handEntry_merge (n : Trib) (f : Flow) (e : EgressEntry) :
    (State.handEntry n f s e).merge = s.merge := by unfold State.handEntry; (repeat' split) <;> simp
@[simp] theorem State.handEntry_strike (n : Trib) (f : Flow) (e : EgressEntry) :
    (State.handEntry n f s e).strike = s.strike := by unfold State.handEntry; (repeat' split) <;> simp
@[simp] theorem State.handEntry_tally (n : Trib) (f : Flow) (e : EgressEntry) :
    (State.handEntry n f s e).tally = s.tally := by unfold State.handEntry; (repeat' split) <;> simp
@[simp] theorem State.handEntry_mgmt (n : Trib) (f : Flow) (e : EgressEntry) :
    (State.handEntry n f s e).mgmt = s.mgmt := by unfold State.handEntry; (repeat' split) <;> simp
@[simp] theorem State.handEntry_owed (n : Trib) (f : Flow) (e : EgressEntry) :
    (State.handEntry n f s e).owed = s.owed := by unfold State.handEntry; (repeat' split) <;> simp
@[simp] theorem State.handEntry_expired (n : Trib) (f : Flow) (e : EgressEntry) :
    (State.handEntry n f s e).expired = s.expired := by unfold State.handEntry; (repeat' split) <;> simp
@[simp] theorem State.handEntry_occasion (n : Trib) (f : Flow) (e : EgressEntry) :
    (State.handEntry n f s e).occasion = s.occasion := by unfold State.handEntry; (repeat' split) <;> simp
@[simp] theorem State.handEntry_pending (n : Trib) (f : Flow) (e : EgressEntry) :
    (State.handEntry n f s e).pending = s.pending := by unfold State.handEntry; (repeat' split) <;> simp

@[simp] theorem State.handOver_inReset (n : Trib) (f : Flow) (run : List EgressEntry) : (s.handOver n f run).inReset = s.inReset := by
  unfold State.handOver
  induction run generalizing s with
  | nil => rfl
  | cons a l ih => simp [ih]
@[simp] theorem State.handOver_role (n : Trib) (f : Flow) (run : List EgressEntry) : (s.handOver n f run).role = s.role := by
  unfold State.handOver
  induction run generalizing s with
  | nil => rfl
  | cons a l ih => simp [ih]
@[simp] theorem State.handOver_pins (n : Trib) (f : Flow) (run : List EgressEntry) : (s.handOver n f run).pins = s.pins := by
  unfold State.handOver
  induction run generalizing s with
  | nil => rfl
  | cons a l ih => simp [ih]
@[simp] theorem State.handOver_clock (n : Trib) (f : Flow) (run : List EgressEntry) : (s.handOver n f run).clock = s.clock := by
  unfold State.handOver
  induction run generalizing s with
  | nil => rfl
  | cons a l ih => simp [ih]
@[simp] theorem State.handOver_table (n : Trib) (f : Flow) (run : List EgressEntry) : (s.handOver n f run).table = s.table := by
  unfold State.handOver
  induction run generalizing s with
  | nil => rfl
  | cons a l ih => simp [ih]
@[simp] theorem State.handOver_ingress (n : Trib) (f : Flow) (run : List EgressEntry) : (s.handOver n f run).ingress = s.ingress := by
  unfold State.handOver
  induction run generalizing s with
  | nil => rfl
  | cons a l ih => simp [ih]
@[simp] theorem State.handOver_batch (n : Trib) (f : Flow) (run : List EgressEntry) : (s.handOver n f run).batch = s.batch := by
  unfold State.handOver
  induction run generalizing s with
  | nil => rfl
  | cons a l ih => simp [ih]
@[simp] theorem State.handOver_fibreTx (n : Trib) (f : Flow) (run : List EgressEntry) : (s.handOver n f run).fibreTx = s.fibreTx := by
  unfold State.handOver
  induction run generalizing s with
  | nil => rfl
  | cons a l ih => simp [ih]
@[simp] theorem State.handOver_radioTx (n : Trib) (f : Flow) (run : List EgressEntry) : (s.handOver n f run).radioTx = s.radioTx := by
  unfold State.handOver
  induction run generalizing s with
  | nil => rfl
  | cons a l ih => simp [ih]
@[simp] theorem State.handOver_planner (n : Trib) (f : Flow) (run : List EgressEntry) : (s.handOver n f run).planner = s.planner := by
  unfold State.handOver
  induction run generalizing s with
  | nil => rfl
  | cons a l ih => simp [ih]
@[simp] theorem State.handOver_fibreRx (n : Trib) (f : Flow) (run : List EgressEntry) : (s.handOver n f run).fibreRx = s.fibreRx := by
  unfold State.handOver
  induction run generalizing s with
  | nil => rfl
  | cons a l ih => simp [ih]
@[simp] theorem State.handOver_radioRx (n : Trib) (f : Flow) (run : List EgressEntry) : (s.handOver n f run).radioRx = s.radioRx := by
  unfold State.handOver
  induction run generalizing s with
  | nil => rfl
  | cons a l ih => simp [ih]
@[simp] theorem State.handOver_skew (n : Trib) (f : Flow) (run : List EgressEntry) : (s.handOver n f run).skew = s.skew := by
  unfold State.handOver
  induction run generalizing s with
  | nil => rfl
  | cons a l ih => simp [ih]
@[simp] theorem State.handOver_merge (n : Trib) (f : Flow) (run : List EgressEntry) : (s.handOver n f run).merge = s.merge := by
  unfold State.handOver
  induction run generalizing s with
  | nil => rfl
  | cons a l ih => simp [ih]
@[simp] theorem State.handOver_strike (n : Trib) (f : Flow) (run : List EgressEntry) : (s.handOver n f run).strike = s.strike := by
  unfold State.handOver
  induction run generalizing s with
  | nil => rfl
  | cons a l ih => simp [ih]
@[simp] theorem State.handOver_tally (n : Trib) (f : Flow) (run : List EgressEntry) : (s.handOver n f run).tally = s.tally := by
  unfold State.handOver
  induction run generalizing s with
  | nil => rfl
  | cons a l ih => simp [ih]
@[simp] theorem State.handOver_mgmt (n : Trib) (f : Flow) (run : List EgressEntry) : (s.handOver n f run).mgmt = s.mgmt := by
  unfold State.handOver
  induction run generalizing s with
  | nil => rfl
  | cons a l ih => simp [ih]
@[simp] theorem State.handOver_owed (n : Trib) (f : Flow) (run : List EgressEntry) : (s.handOver n f run).owed = s.owed := by
  unfold State.handOver
  induction run generalizing s with
  | nil => rfl
  | cons a l ih => simp [ih]
@[simp] theorem State.handOver_expired (n : Trib) (f : Flow) (run : List EgressEntry) : (s.handOver n f run).expired = s.expired := by
  unfold State.handOver
  induction run generalizing s with
  | nil => rfl
  | cons a l ih => simp [ih]
@[simp] theorem State.handOver_occasion (n : Trib) (f : Flow) (run : List EgressEntry) : (s.handOver n f run).occasion = s.occasion := by
  unfold State.handOver
  induction run generalizing s with
  | nil => rfl
  | cons a l ih => simp [ih]
@[simp] theorem State.handOver_pending (n : Trib) (f : Flow) (run : List EgressEntry) : (s.handOver n f run).pending = s.pending := by
  unfold State.handOver
  induction run generalizing s with
  | nil => rfl
  | cons a l ih => simp [ih]

@[simp] theorem State.tallyStart_inReset (sf : Superframe) :
    (s.tallyStart sf).inReset = s.inReset := by unfold State.tallyStart; (repeat' split) <;> simp
@[simp] theorem State.tallyStart_role (sf : Superframe) :
    (s.tallyStart sf).role = s.role := by unfold State.tallyStart; (repeat' split) <;> simp
@[simp] theorem State.tallyStart_pins (sf : Superframe) :
    (s.tallyStart sf).pins = s.pins := by unfold State.tallyStart; (repeat' split) <;> simp
@[simp] theorem State.tallyStart_clock (sf : Superframe) :
    (s.tallyStart sf).clock = s.clock := by unfold State.tallyStart; (repeat' split) <;> simp
@[simp] theorem State.tallyStart_table (sf : Superframe) :
    (s.tallyStart sf).table = s.table := by unfold State.tallyStart; (repeat' split) <;> simp
@[simp] theorem State.tallyStart_ingress (sf : Superframe) :
    (s.tallyStart sf).ingress = s.ingress := by unfold State.tallyStart; (repeat' split) <;> simp
@[simp] theorem State.tallyStart_batch (sf : Superframe) :
    (s.tallyStart sf).batch = s.batch := by unfold State.tallyStart; (repeat' split) <;> simp
@[simp] theorem State.tallyStart_fibreTx (sf : Superframe) :
    (s.tallyStart sf).fibreTx = s.fibreTx := by unfold State.tallyStart; (repeat' split) <;> simp
@[simp] theorem State.tallyStart_radioTx (sf : Superframe) :
    (s.tallyStart sf).radioTx = s.radioTx := by unfold State.tallyStart; (repeat' split) <;> simp
@[simp] theorem State.tallyStart_planner (sf : Superframe) :
    (s.tallyStart sf).planner = s.planner := by unfold State.tallyStart; (repeat' split) <;> simp
@[simp] theorem State.tallyStart_fibreRx (sf : Superframe) :
    (s.tallyStart sf).fibreRx = s.fibreRx := by unfold State.tallyStart; (repeat' split) <;> simp
@[simp] theorem State.tallyStart_radioRx (sf : Superframe) :
    (s.tallyStart sf).radioRx = s.radioRx := by unfold State.tallyStart; (repeat' split) <;> simp
@[simp] theorem State.tallyStart_skew (sf : Superframe) :
    (s.tallyStart sf).skew = s.skew := by unfold State.tallyStart; (repeat' split) <;> simp
@[simp] theorem State.tallyStart_merge (sf : Superframe) :
    (s.tallyStart sf).merge = s.merge := by unfold State.tallyStart; (repeat' split) <;> simp
@[simp] theorem State.tallyStart_strike (sf : Superframe) :
    (s.tallyStart sf).strike = s.strike := by unfold State.tallyStart; (repeat' split) <;> simp
@[simp] theorem State.tallyStart_egress (sf : Superframe) :
    (s.tallyStart sf).egress = s.egress := by unfold State.tallyStart; (repeat' split) <;> simp
@[simp] theorem State.tallyStart_mgmt (sf : Superframe) :
    (s.tallyStart sf).mgmt = s.mgmt := by unfold State.tallyStart; (repeat' split) <;> simp
@[simp] theorem State.tallyStart_owed (sf : Superframe) :
    (s.tallyStart sf).owed = s.owed := by unfold State.tallyStart; (repeat' split) <;> simp
@[simp] theorem State.tallyStart_expired (sf : Superframe) :
    (s.tallyStart sf).expired = s.expired := by unfold State.tallyStart; (repeat' split) <;> simp
@[simp] theorem State.tallyStart_occasion (sf : Superframe) :
    (s.tallyStart sf).occasion = s.occasion := by unfold State.tallyStart; (repeat' split) <;> simp
@[simp] theorem State.tallyStart_pending (sf : Superframe) :
    (s.tallyStart sf).pending = s.pending := by unfold State.tallyStart; (repeat' split) <;> simp

@[simp] theorem State.chooseSource_inReset :
    s.chooseSource.inReset = s.inReset := by unfold State.chooseSource; (repeat' split) <;> simp
@[simp] theorem State.chooseSource_role :
    s.chooseSource.role = s.role := by unfold State.chooseSource; (repeat' split) <;> simp
@[simp] theorem State.chooseSource_pins :
    s.chooseSource.pins = s.pins := by unfold State.chooseSource; (repeat' split) <;> simp
@[simp] theorem State.chooseSource_table :
    s.chooseSource.table = s.table := by unfold State.chooseSource; (repeat' split) <;> simp
@[simp] theorem State.chooseSource_ingress :
    s.chooseSource.ingress = s.ingress := by unfold State.chooseSource; (repeat' split) <;> simp
@[simp] theorem State.chooseSource_batch :
    s.chooseSource.batch = s.batch := by unfold State.chooseSource; (repeat' split) <;> simp
@[simp] theorem State.chooseSource_fibreTx :
    s.chooseSource.fibreTx = s.fibreTx := by unfold State.chooseSource; (repeat' split) <;> simp
@[simp] theorem State.chooseSource_radioTx :
    s.chooseSource.radioTx = s.radioTx := by unfold State.chooseSource; (repeat' split) <;> simp
@[simp] theorem State.chooseSource_planner :
    s.chooseSource.planner = s.planner := by unfold State.chooseSource; (repeat' split) <;> simp
@[simp] theorem State.chooseSource_fibreRx :
    s.chooseSource.fibreRx = s.fibreRx := by unfold State.chooseSource; (repeat' split) <;> simp
@[simp] theorem State.chooseSource_radioRx :
    s.chooseSource.radioRx = s.radioRx := by unfold State.chooseSource; (repeat' split) <;> simp
@[simp] theorem State.chooseSource_skew :
    s.chooseSource.skew = s.skew := by unfold State.chooseSource; (repeat' split) <;> simp
@[simp] theorem State.chooseSource_merge :
    s.chooseSource.merge = s.merge := by unfold State.chooseSource; (repeat' split) <;> simp
@[simp] theorem State.chooseSource_strike :
    s.chooseSource.strike = s.strike := by unfold State.chooseSource; (repeat' split) <;> simp
@[simp] theorem State.chooseSource_egress :
    s.chooseSource.egress = s.egress := by unfold State.chooseSource; (repeat' split) <;> simp
@[simp] theorem State.chooseSource_tally :
    s.chooseSource.tally = s.tally := by unfold State.chooseSource; (repeat' split) <;> simp
@[simp] theorem State.chooseSource_mgmt :
    s.chooseSource.mgmt = s.mgmt := by unfold State.chooseSource; (repeat' split) <;> simp
@[simp] theorem State.chooseSource_events :
    s.chooseSource.events = s.events := by unfold State.chooseSource; (repeat' split) <;> simp
@[simp] theorem State.chooseSource_owed :
    s.chooseSource.owed = s.owed := by unfold State.chooseSource; (repeat' split) <;> simp
@[simp] theorem State.chooseSource_expired :
    s.chooseSource.expired = s.expired := by unfold State.chooseSource; (repeat' split) <;> simp
@[simp] theorem State.chooseSource_occasion :
    s.chooseSource.occasion = s.occasion := by unfold State.chooseSource; (repeat' split) <;> simp
@[simp] theorem State.chooseSource_pending :
    s.chooseSource.pending = s.pending := by unfold State.chooseSource; (repeat' split) <;> simp

@[simp] theorem State.leftTimed_inReset (b : Bearer) (w : WayOut) :
    (s.leftTimed b w).inReset = s.inReset := by simp [State.leftTimed]
@[simp] theorem State.leftTimed_role (b : Bearer) (w : WayOut) :
    (s.leftTimed b w).role = s.role := by simp [State.leftTimed]
@[simp] theorem State.leftTimed_pins (b : Bearer) (w : WayOut) :
    (s.leftTimed b w).pins = s.pins := by simp [State.leftTimed]
@[simp] theorem State.leftTimed_table (b : Bearer) (w : WayOut) :
    (s.leftTimed b w).table = s.table := by simp [State.leftTimed]
@[simp] theorem State.leftTimed_ingress (b : Bearer) (w : WayOut) :
    (s.leftTimed b w).ingress = s.ingress := by simp [State.leftTimed]
@[simp] theorem State.leftTimed_batch (b : Bearer) (w : WayOut) :
    (s.leftTimed b w).batch = s.batch := by simp [State.leftTimed]
@[simp] theorem State.leftTimed_fibreTx (b : Bearer) (w : WayOut) :
    (s.leftTimed b w).fibreTx = s.fibreTx := by simp [State.leftTimed]
@[simp] theorem State.leftTimed_radioTx (b : Bearer) (w : WayOut) :
    (s.leftTimed b w).radioTx = s.radioTx := by simp [State.leftTimed]
@[simp] theorem State.leftTimed_planner (b : Bearer) (w : WayOut) :
    (s.leftTimed b w).planner = s.planner := by simp [State.leftTimed]
@[simp] theorem State.leftTimed_fibreRx (b : Bearer) (w : WayOut) :
    (s.leftTimed b w).fibreRx = s.fibreRx := by simp [State.leftTimed]
@[simp] theorem State.leftTimed_radioRx (b : Bearer) (w : WayOut) :
    (s.leftTimed b w).radioRx = s.radioRx := by simp [State.leftTimed]
@[simp] theorem State.leftTimed_merge (b : Bearer) (w : WayOut) :
    (s.leftTimed b w).merge = s.merge := by simp [State.leftTimed]
@[simp] theorem State.leftTimed_strike (b : Bearer) (w : WayOut) :
    (s.leftTimed b w).strike = s.strike := by simp [State.leftTimed]
@[simp] theorem State.leftTimed_egress (b : Bearer) (w : WayOut) :
    (s.leftTimed b w).egress = s.egress := by simp [State.leftTimed]
@[simp] theorem State.leftTimed_tally (b : Bearer) (w : WayOut) :
    (s.leftTimed b w).tally = s.tally := by simp [State.leftTimed]
@[simp] theorem State.leftTimed_mgmt (b : Bearer) (w : WayOut) :
    (s.leftTimed b w).mgmt = s.mgmt := by simp [State.leftTimed]
@[simp] theorem State.leftTimed_owed (b : Bearer) (w : WayOut) :
    (s.leftTimed b w).owed = s.owed := by simp [State.leftTimed]
@[simp] theorem State.leftTimed_occasion (b : Bearer) (w : WayOut) :
    (s.leftTimed b w).occasion = s.occasion := by simp [State.leftTimed]
@[simp] theorem State.leftTimed_pending (b : Bearer) (w : WayOut) :
    (s.leftTimed b w).pending = s.pending := by simp [State.leftTimed]

@[simp] theorem State.enterHunt_inReset (b : Bearer) (k : Nat) (w : WayOut) :
    (s.enterHunt b k w).inReset = s.inReset := by unfold State.enterHunt; (repeat' split) <;> simp
@[simp] theorem State.enterHunt_role (b : Bearer) (k : Nat) (w : WayOut) :
    (s.enterHunt b k w).role = s.role := by unfold State.enterHunt; (repeat' split) <;> simp
@[simp] theorem State.enterHunt_pins (b : Bearer) (k : Nat) (w : WayOut) :
    (s.enterHunt b k w).pins = s.pins := by unfold State.enterHunt; (repeat' split) <;> simp
@[simp] theorem State.enterHunt_table (b : Bearer) (k : Nat) (w : WayOut) :
    (s.enterHunt b k w).table = s.table := by unfold State.enterHunt; (repeat' split) <;> simp
@[simp] theorem State.enterHunt_ingress (b : Bearer) (k : Nat) (w : WayOut) :
    (s.enterHunt b k w).ingress = s.ingress := by unfold State.enterHunt; (repeat' split) <;> simp
@[simp] theorem State.enterHunt_batch (b : Bearer) (k : Nat) (w : WayOut) :
    (s.enterHunt b k w).batch = s.batch := by unfold State.enterHunt; (repeat' split) <;> simp
@[simp] theorem State.enterHunt_fibreTx (b : Bearer) (k : Nat) (w : WayOut) :
    (s.enterHunt b k w).fibreTx = s.fibreTx := by unfold State.enterHunt; (repeat' split) <;> simp
@[simp] theorem State.enterHunt_radioTx (b : Bearer) (k : Nat) (w : WayOut) :
    (s.enterHunt b k w).radioTx = s.radioTx := by unfold State.enterHunt; (repeat' split) <;> simp
@[simp] theorem State.enterHunt_planner (b : Bearer) (k : Nat) (w : WayOut) :
    (s.enterHunt b k w).planner = s.planner := by unfold State.enterHunt; (repeat' split) <;> simp
@[simp] theorem State.enterHunt_merge (b : Bearer) (k : Nat) (w : WayOut) :
    (s.enterHunt b k w).merge = s.merge := by unfold State.enterHunt; (repeat' split) <;> simp
@[simp] theorem State.enterHunt_strike (b : Bearer) (k : Nat) (w : WayOut) :
    (s.enterHunt b k w).strike = s.strike := by unfold State.enterHunt; (repeat' split) <;> simp
@[simp] theorem State.enterHunt_egress (b : Bearer) (k : Nat) (w : WayOut) :
    (s.enterHunt b k w).egress = s.egress := by unfold State.enterHunt; (repeat' split) <;> simp
@[simp] theorem State.enterHunt_tally (b : Bearer) (k : Nat) (w : WayOut) :
    (s.enterHunt b k w).tally = s.tally := by unfold State.enterHunt; (repeat' split) <;> simp
@[simp] theorem State.enterHunt_mgmt (b : Bearer) (k : Nat) (w : WayOut) :
    (s.enterHunt b k w).mgmt = s.mgmt := by unfold State.enterHunt; (repeat' split) <;> simp
@[simp] theorem State.enterHunt_owed (b : Bearer) (k : Nat) (w : WayOut) :
    (s.enterHunt b k w).owed = s.owed := by unfold State.enterHunt; (repeat' split) <;> simp
@[simp] theorem State.enterHunt_occasion (b : Bearer) (k : Nat) (w : WayOut) :
    (s.enterHunt b k w).occasion = s.occasion := by unfold State.enterHunt; (repeat' split) <;> simp
@[simp] theorem State.enterHunt_pending (b : Bearer) (k : Nat) (w : WayOut) :
    (s.enterHunt b k w).pending = s.pending := by unfold State.enterHunt; (repeat' split) <;> simp

@[simp] theorem State.resetReceiver_inReset (b : Bearer) :
    (s.resetReceiver b).inReset = s.inReset := by simp [State.resetReceiver]
@[simp] theorem State.resetReceiver_role (b : Bearer) :
    (s.resetReceiver b).role = s.role := by simp [State.resetReceiver]
@[simp] theorem State.resetReceiver_pins (b : Bearer) :
    (s.resetReceiver b).pins = s.pins := by simp [State.resetReceiver]
@[simp] theorem State.resetReceiver_table (b : Bearer) :
    (s.resetReceiver b).table = s.table := by simp [State.resetReceiver]
@[simp] theorem State.resetReceiver_ingress (b : Bearer) :
    (s.resetReceiver b).ingress = s.ingress := by simp [State.resetReceiver]
@[simp] theorem State.resetReceiver_batch (b : Bearer) :
    (s.resetReceiver b).batch = s.batch := by simp [State.resetReceiver]
@[simp] theorem State.resetReceiver_fibreTx (b : Bearer) :
    (s.resetReceiver b).fibreTx = s.fibreTx := by simp [State.resetReceiver]
@[simp] theorem State.resetReceiver_radioTx (b : Bearer) :
    (s.resetReceiver b).radioTx = s.radioTx := by simp [State.resetReceiver]
@[simp] theorem State.resetReceiver_planner (b : Bearer) :
    (s.resetReceiver b).planner = s.planner := by simp [State.resetReceiver]
@[simp] theorem State.resetReceiver_merge (b : Bearer) :
    (s.resetReceiver b).merge = s.merge := by simp [State.resetReceiver]
@[simp] theorem State.resetReceiver_strike (b : Bearer) :
    (s.resetReceiver b).strike = s.strike := by simp [State.resetReceiver]
@[simp] theorem State.resetReceiver_egress (b : Bearer) :
    (s.resetReceiver b).egress = s.egress := by simp [State.resetReceiver]
@[simp] theorem State.resetReceiver_tally (b : Bearer) :
    (s.resetReceiver b).tally = s.tally := by simp [State.resetReceiver]
@[simp] theorem State.resetReceiver_mgmt (b : Bearer) :
    (s.resetReceiver b).mgmt = s.mgmt := by simp [State.resetReceiver]
@[simp] theorem State.resetReceiver_owed (b : Bearer) :
    (s.resetReceiver b).owed = s.owed := by simp [State.resetReceiver]
@[simp] theorem State.resetReceiver_occasion (b : Bearer) :
    (s.resetReceiver b).occasion = s.occasion := by simp [State.resetReceiver]
@[simp] theorem State.resetReceiver_pending (b : Bearer) :
    (s.resetReceiver b).pending = s.pending := by simp [State.resetReceiver]

@[simp] theorem State.receiverStart_inReset (b : Bearer) :
    (s.receiverStart b).inReset = s.inReset := by unfold State.receiverStart; dsimp only; (repeat' split) <;> simp
@[simp] theorem State.receiverStart_role (b : Bearer) :
    (s.receiverStart b).role = s.role := by unfold State.receiverStart; dsimp only; (repeat' split) <;> simp
@[simp] theorem State.receiverStart_pins (b : Bearer) :
    (s.receiverStart b).pins = s.pins := by unfold State.receiverStart; dsimp only; (repeat' split) <;> simp
@[simp] theorem State.receiverStart_table (b : Bearer) :
    (s.receiverStart b).table = s.table := by unfold State.receiverStart; dsimp only; (repeat' split) <;> simp
@[simp] theorem State.receiverStart_ingress (b : Bearer) :
    (s.receiverStart b).ingress = s.ingress := by unfold State.receiverStart; dsimp only; (repeat' split) <;> simp
@[simp] theorem State.receiverStart_batch (b : Bearer) :
    (s.receiverStart b).batch = s.batch := by unfold State.receiverStart; dsimp only; (repeat' split) <;> simp
@[simp] theorem State.receiverStart_fibreTx (b : Bearer) :
    (s.receiverStart b).fibreTx = s.fibreTx := by unfold State.receiverStart; dsimp only; (repeat' split) <;> simp
@[simp] theorem State.receiverStart_radioTx (b : Bearer) :
    (s.receiverStart b).radioTx = s.radioTx := by unfold State.receiverStart; dsimp only; (repeat' split) <;> simp
@[simp] theorem State.receiverStart_planner (b : Bearer) :
    (s.receiverStart b).planner = s.planner := by unfold State.receiverStart; dsimp only; (repeat' split) <;> simp
@[simp] theorem State.receiverStart_merge (b : Bearer) :
    (s.receiverStart b).merge = s.merge := by unfold State.receiverStart; dsimp only; (repeat' split) <;> simp
@[simp] theorem State.receiverStart_strike (b : Bearer) :
    (s.receiverStart b).strike = s.strike := by unfold State.receiverStart; dsimp only; (repeat' split) <;> simp
@[simp] theorem State.receiverStart_egress (b : Bearer) :
    (s.receiverStart b).egress = s.egress := by unfold State.receiverStart; dsimp only; (repeat' split) <;> simp
@[simp] theorem State.receiverStart_tally (b : Bearer) :
    (s.receiverStart b).tally = s.tally := by unfold State.receiverStart; dsimp only; (repeat' split) <;> simp
@[simp] theorem State.receiverStart_mgmt (b : Bearer) :
    (s.receiverStart b).mgmt = s.mgmt := by unfold State.receiverStart; dsimp only; (repeat' split) <;> simp
@[simp] theorem State.receiverStart_owed (b : Bearer) :
    (s.receiverStart b).owed = s.owed := by unfold State.receiverStart; dsimp only; (repeat' split) <;> simp
@[simp] theorem State.receiverStart_occasion (b : Bearer) :
    (s.receiverStart b).occasion = s.occasion := by unfold State.receiverStart; dsimp only; (repeat' split) <;> simp
@[simp] theorem State.receiverStart_pending (b : Bearer) :
    (s.receiverStart b).pending = s.pending := by unfold State.receiverStart; dsimp only; (repeat' split) <;> simp

@[simp] theorem State.receiverMarker_inReset (b : Bearer) (r : MarkerRecord) :
    (s.receiverMarker b r).inReset = s.inReset := by unfold State.receiverMarker; (repeat' split) <;> simp
@[simp] theorem State.receiverMarker_role (b : Bearer) (r : MarkerRecord) :
    (s.receiverMarker b r).role = s.role := by unfold State.receiverMarker; (repeat' split) <;> simp
@[simp] theorem State.receiverMarker_pins (b : Bearer) (r : MarkerRecord) :
    (s.receiverMarker b r).pins = s.pins := by unfold State.receiverMarker; (repeat' split) <;> simp
@[simp] theorem State.receiverMarker_table (b : Bearer) (r : MarkerRecord) :
    (s.receiverMarker b r).table = s.table := by unfold State.receiverMarker; (repeat' split) <;> simp
@[simp] theorem State.receiverMarker_ingress (b : Bearer) (r : MarkerRecord) :
    (s.receiverMarker b r).ingress = s.ingress := by unfold State.receiverMarker; (repeat' split) <;> simp
@[simp] theorem State.receiverMarker_batch (b : Bearer) (r : MarkerRecord) :
    (s.receiverMarker b r).batch = s.batch := by unfold State.receiverMarker; (repeat' split) <;> simp
@[simp] theorem State.receiverMarker_fibreTx (b : Bearer) (r : MarkerRecord) :
    (s.receiverMarker b r).fibreTx = s.fibreTx := by unfold State.receiverMarker; (repeat' split) <;> simp
@[simp] theorem State.receiverMarker_radioTx (b : Bearer) (r : MarkerRecord) :
    (s.receiverMarker b r).radioTx = s.radioTx := by unfold State.receiverMarker; (repeat' split) <;> simp
@[simp] theorem State.receiverMarker_planner (b : Bearer) (r : MarkerRecord) :
    (s.receiverMarker b r).planner = s.planner := by unfold State.receiverMarker; (repeat' split) <;> simp
@[simp] theorem State.receiverMarker_skew (b : Bearer) (r : MarkerRecord) :
    (s.receiverMarker b r).skew = s.skew := by unfold State.receiverMarker; (repeat' split) <;> simp
@[simp] theorem State.receiverMarker_merge (b : Bearer) (r : MarkerRecord) :
    (s.receiverMarker b r).merge = s.merge := by unfold State.receiverMarker; (repeat' split) <;> simp
@[simp] theorem State.receiverMarker_strike (b : Bearer) (r : MarkerRecord) :
    (s.receiverMarker b r).strike = s.strike := by unfold State.receiverMarker; (repeat' split) <;> simp
@[simp] theorem State.receiverMarker_egress (b : Bearer) (r : MarkerRecord) :
    (s.receiverMarker b r).egress = s.egress := by unfold State.receiverMarker; (repeat' split) <;> simp
@[simp] theorem State.receiverMarker_tally (b : Bearer) (r : MarkerRecord) :
    (s.receiverMarker b r).tally = s.tally := by unfold State.receiverMarker; (repeat' split) <;> simp
@[simp] theorem State.receiverMarker_mgmt (b : Bearer) (r : MarkerRecord) :
    (s.receiverMarker b r).mgmt = s.mgmt := by unfold State.receiverMarker; (repeat' split) <;> simp
@[simp] theorem State.receiverMarker_owed (b : Bearer) (r : MarkerRecord) :
    (s.receiverMarker b r).owed = s.owed := by unfold State.receiverMarker; (repeat' split) <;> simp
@[simp] theorem State.receiverMarker_expired (b : Bearer) (r : MarkerRecord) :
    (s.receiverMarker b r).expired = s.expired := by unfold State.receiverMarker; (repeat' split) <;> simp
@[simp] theorem State.receiverMarker_occasion (b : Bearer) (r : MarkerRecord) :
    (s.receiverMarker b r).occasion = s.occasion := by unfold State.receiverMarker; (repeat' split) <;> simp
@[simp] theorem State.receiverMarker_pending (b : Bearer) (r : MarkerRecord) :
    (s.receiverMarker b r).pending = s.pending := by unfold State.receiverMarker; (repeat' split) <;> simp

@[simp] theorem State.mergeArrival_inReset (f : Flow) (a : Arrival) :
    (s.mergeArrival f a).1.inReset = s.inReset := by unfold State.mergeArrival; (repeat' split) <;> simp
@[simp] theorem State.mergeArrival_role (f : Flow) (a : Arrival) :
    (s.mergeArrival f a).1.role = s.role := by unfold State.mergeArrival; (repeat' split) <;> simp
@[simp] theorem State.mergeArrival_pins (f : Flow) (a : Arrival) :
    (s.mergeArrival f a).1.pins = s.pins := by unfold State.mergeArrival; (repeat' split) <;> simp
@[simp] theorem State.mergeArrival_clock (f : Flow) (a : Arrival) :
    (s.mergeArrival f a).1.clock = s.clock := by unfold State.mergeArrival; (repeat' split) <;> simp
@[simp] theorem State.mergeArrival_table (f : Flow) (a : Arrival) :
    (s.mergeArrival f a).1.table = s.table := by unfold State.mergeArrival; (repeat' split) <;> simp
@[simp] theorem State.mergeArrival_ingress (f : Flow) (a : Arrival) :
    (s.mergeArrival f a).1.ingress = s.ingress := by unfold State.mergeArrival; (repeat' split) <;> simp
@[simp] theorem State.mergeArrival_batch (f : Flow) (a : Arrival) :
    (s.mergeArrival f a).1.batch = s.batch := by unfold State.mergeArrival; (repeat' split) <;> simp
@[simp] theorem State.mergeArrival_fibreTx (f : Flow) (a : Arrival) :
    (s.mergeArrival f a).1.fibreTx = s.fibreTx := by unfold State.mergeArrival; (repeat' split) <;> simp
@[simp] theorem State.mergeArrival_radioTx (f : Flow) (a : Arrival) :
    (s.mergeArrival f a).1.radioTx = s.radioTx := by unfold State.mergeArrival; (repeat' split) <;> simp
@[simp] theorem State.mergeArrival_planner (f : Flow) (a : Arrival) :
    (s.mergeArrival f a).1.planner = s.planner := by unfold State.mergeArrival; (repeat' split) <;> simp
@[simp] theorem State.mergeArrival_fibreRx (f : Flow) (a : Arrival) :
    (s.mergeArrival f a).1.fibreRx = s.fibreRx := by unfold State.mergeArrival; (repeat' split) <;> simp
@[simp] theorem State.mergeArrival_radioRx (f : Flow) (a : Arrival) :
    (s.mergeArrival f a).1.radioRx = s.radioRx := by unfold State.mergeArrival; (repeat' split) <;> simp
@[simp] theorem State.mergeArrival_skew (f : Flow) (a : Arrival) :
    (s.mergeArrival f a).1.skew = s.skew := by unfold State.mergeArrival; (repeat' split) <;> simp
@[simp] theorem State.mergeArrival_strike (f : Flow) (a : Arrival) :
    (s.mergeArrival f a).1.strike = s.strike := by unfold State.mergeArrival; (repeat' split) <;> simp
@[simp] theorem State.mergeArrival_egress (f : Flow) (a : Arrival) :
    (s.mergeArrival f a).1.egress = s.egress := by unfold State.mergeArrival; (repeat' split) <;> simp
@[simp] theorem State.mergeArrival_tally (f : Flow) (a : Arrival) :
    (s.mergeArrival f a).1.tally = s.tally := by unfold State.mergeArrival; (repeat' split) <;> simp
@[simp] theorem State.mergeArrival_mgmt (f : Flow) (a : Arrival) :
    (s.mergeArrival f a).1.mgmt = s.mgmt := by unfold State.mergeArrival; (repeat' split) <;> simp
@[simp] theorem State.mergeArrival_owed (f : Flow) (a : Arrival) :
    (s.mergeArrival f a).1.owed = s.owed := by unfold State.mergeArrival; (repeat' split) <;> simp
@[simp] theorem State.mergeArrival_occasion (f : Flow) (a : Arrival) :
    (s.mergeArrival f a).1.occasion = s.occasion := by unfold State.mergeArrival; (repeat' split) <;> simp
@[simp] theorem State.mergeArrival_pending (f : Flow) (a : Arrival) :
    (s.mergeArrival f a).1.pending = s.pending := by unfold State.mergeArrival; (repeat' split) <;> simp

@[simp] theorem State.mergeExpiry_inReset (f : Flow) :
    (s.mergeExpiry f).1.inReset = s.inReset := by unfold State.mergeExpiry; (repeat' split) <;> simp
@[simp] theorem State.mergeExpiry_role (f : Flow) :
    (s.mergeExpiry f).1.role = s.role := by unfold State.mergeExpiry; (repeat' split) <;> simp
@[simp] theorem State.mergeExpiry_pins (f : Flow) :
    (s.mergeExpiry f).1.pins = s.pins := by unfold State.mergeExpiry; (repeat' split) <;> simp
@[simp] theorem State.mergeExpiry_clock (f : Flow) :
    (s.mergeExpiry f).1.clock = s.clock := by unfold State.mergeExpiry; (repeat' split) <;> simp
@[simp] theorem State.mergeExpiry_table (f : Flow) :
    (s.mergeExpiry f).1.table = s.table := by unfold State.mergeExpiry; (repeat' split) <;> simp
@[simp] theorem State.mergeExpiry_ingress (f : Flow) :
    (s.mergeExpiry f).1.ingress = s.ingress := by unfold State.mergeExpiry; (repeat' split) <;> simp
@[simp] theorem State.mergeExpiry_batch (f : Flow) :
    (s.mergeExpiry f).1.batch = s.batch := by unfold State.mergeExpiry; (repeat' split) <;> simp
@[simp] theorem State.mergeExpiry_fibreTx (f : Flow) :
    (s.mergeExpiry f).1.fibreTx = s.fibreTx := by unfold State.mergeExpiry; (repeat' split) <;> simp
@[simp] theorem State.mergeExpiry_radioTx (f : Flow) :
    (s.mergeExpiry f).1.radioTx = s.radioTx := by unfold State.mergeExpiry; (repeat' split) <;> simp
@[simp] theorem State.mergeExpiry_planner (f : Flow) :
    (s.mergeExpiry f).1.planner = s.planner := by unfold State.mergeExpiry; (repeat' split) <;> simp
@[simp] theorem State.mergeExpiry_fibreRx (f : Flow) :
    (s.mergeExpiry f).1.fibreRx = s.fibreRx := by unfold State.mergeExpiry; (repeat' split) <;> simp
@[simp] theorem State.mergeExpiry_radioRx (f : Flow) :
    (s.mergeExpiry f).1.radioRx = s.radioRx := by unfold State.mergeExpiry; (repeat' split) <;> simp
@[simp] theorem State.mergeExpiry_skew (f : Flow) :
    (s.mergeExpiry f).1.skew = s.skew := by unfold State.mergeExpiry; (repeat' split) <;> simp
@[simp] theorem State.mergeExpiry_strike (f : Flow) :
    (s.mergeExpiry f).1.strike = s.strike := by unfold State.mergeExpiry; (repeat' split) <;> simp
@[simp] theorem State.mergeExpiry_egress (f : Flow) :
    (s.mergeExpiry f).1.egress = s.egress := by unfold State.mergeExpiry; (repeat' split) <;> simp
@[simp] theorem State.mergeExpiry_tally (f : Flow) :
    (s.mergeExpiry f).1.tally = s.tally := by unfold State.mergeExpiry; (repeat' split) <;> simp
@[simp] theorem State.mergeExpiry_mgmt (f : Flow) :
    (s.mergeExpiry f).1.mgmt = s.mgmt := by unfold State.mergeExpiry; (repeat' split) <;> simp
@[simp] theorem State.mergeExpiry_events (f : Flow) :
    (s.mergeExpiry f).1.events = s.events := by unfold State.mergeExpiry; (repeat' split) <;> simp
@[simp] theorem State.mergeExpiry_owed (f : Flow) :
    (s.mergeExpiry f).1.owed = s.owed := by unfold State.mergeExpiry; (repeat' split) <;> simp
@[simp] theorem State.mergeExpiry_occasion (f : Flow) :
    (s.mergeExpiry f).1.occasion = s.occasion := by unfold State.mergeExpiry; (repeat' split) <;> simp
@[simp] theorem State.mergeExpiry_pending (f : Flow) :
    (s.mergeExpiry f).1.pending = s.pending := by unfold State.mergeExpiry; (repeat' split) <;> simp

@[simp] theorem State.placePort_inReset (k : RecordKind) (c : CellData) :
    (s.placePort k c).inReset = s.inReset := by unfold State.placePort; (repeat' split) <;> simp
@[simp] theorem State.placePort_role (k : RecordKind) (c : CellData) :
    (s.placePort k c).role = s.role := by unfold State.placePort; (repeat' split) <;> simp
@[simp] theorem State.placePort_pins (k : RecordKind) (c : CellData) :
    (s.placePort k c).pins = s.pins := by unfold State.placePort; (repeat' split) <;> simp
@[simp] theorem State.placePort_clock (k : RecordKind) (c : CellData) :
    (s.placePort k c).clock = s.clock := by unfold State.placePort; (repeat' split) <;> simp
@[simp] theorem State.placePort_table (k : RecordKind) (c : CellData) :
    (s.placePort k c).table = s.table := by unfold State.placePort; (repeat' split) <;> simp
@[simp] theorem State.placePort_ingress (k : RecordKind) (c : CellData) :
    (s.placePort k c).ingress = s.ingress := by unfold State.placePort; (repeat' split) <;> simp
@[simp] theorem State.placePort_batch (k : RecordKind) (c : CellData) :
    (s.placePort k c).batch = s.batch := by unfold State.placePort; (repeat' split) <;> simp
@[simp] theorem State.placePort_fibreTx (k : RecordKind) (c : CellData) :
    (s.placePort k c).fibreTx = s.fibreTx := by unfold State.placePort; (repeat' split) <;> simp
@[simp] theorem State.placePort_radioTx (k : RecordKind) (c : CellData) :
    (s.placePort k c).radioTx = s.radioTx := by unfold State.placePort; (repeat' split) <;> simp
@[simp] theorem State.placePort_planner (k : RecordKind) (c : CellData) :
    (s.placePort k c).planner = s.planner := by unfold State.placePort; (repeat' split) <;> simp
@[simp] theorem State.placePort_fibreRx (k : RecordKind) (c : CellData) :
    (s.placePort k c).fibreRx = s.fibreRx := by unfold State.placePort; (repeat' split) <;> simp
@[simp] theorem State.placePort_radioRx (k : RecordKind) (c : CellData) :
    (s.placePort k c).radioRx = s.radioRx := by unfold State.placePort; (repeat' split) <;> simp
@[simp] theorem State.placePort_skew (k : RecordKind) (c : CellData) :
    (s.placePort k c).skew = s.skew := by unfold State.placePort; (repeat' split) <;> simp
@[simp] theorem State.placePort_merge (k : RecordKind) (c : CellData) :
    (s.placePort k c).merge = s.merge := by unfold State.placePort; (repeat' split) <;> simp
@[simp] theorem State.placePort_strike (k : RecordKind) (c : CellData) :
    (s.placePort k c).strike = s.strike := by unfold State.placePort; (repeat' split) <;> simp
@[simp] theorem State.placePort_egress (k : RecordKind) (c : CellData) :
    (s.placePort k c).egress = s.egress := by unfold State.placePort; (repeat' split) <;> simp
@[simp] theorem State.placePort_tally (k : RecordKind) (c : CellData) :
    (s.placePort k c).tally = s.tally := by unfold State.placePort; (repeat' split) <;> simp
@[simp] theorem State.placePort_owed (k : RecordKind) (c : CellData) :
    (s.placePort k c).owed = s.owed := by unfold State.placePort; (repeat' split) <;> simp
@[simp] theorem State.placePort_expired (k : RecordKind) (c : CellData) :
    (s.placePort k c).expired = s.expired := by unfold State.placePort; (repeat' split) <;> simp
@[simp] theorem State.placePort_occasion (k : RecordKind) (c : CellData) :
    (s.placePort k c).occasion = s.occasion := by unfold State.placePort; (repeat' split) <;> simp
@[simp] theorem State.placePort_pending (k : RecordKind) (c : CellData) :
    (s.placePort k c).pending = s.pending := by unfold State.placePort; (repeat' split) <;> simp

@[simp] theorem State.placeFlow0_inReset (k : RecordKind) (c : CellData) :
    (s.placeFlow0 k c).inReset = s.inReset := by unfold State.placeFlow0; (repeat' split) <;> simp
@[simp] theorem State.placeFlow0_role (k : RecordKind) (c : CellData) :
    (s.placeFlow0 k c).role = s.role := by unfold State.placeFlow0; (repeat' split) <;> simp
@[simp] theorem State.placeFlow0_pins (k : RecordKind) (c : CellData) :
    (s.placeFlow0 k c).pins = s.pins := by unfold State.placeFlow0; (repeat' split) <;> simp
@[simp] theorem State.placeFlow0_clock (k : RecordKind) (c : CellData) :
    (s.placeFlow0 k c).clock = s.clock := by unfold State.placeFlow0; (repeat' split) <;> simp
@[simp] theorem State.placeFlow0_table (k : RecordKind) (c : CellData) :
    (s.placeFlow0 k c).table = s.table := by unfold State.placeFlow0; (repeat' split) <;> simp
@[simp] theorem State.placeFlow0_ingress (k : RecordKind) (c : CellData) :
    (s.placeFlow0 k c).ingress = s.ingress := by unfold State.placeFlow0; (repeat' split) <;> simp
@[simp] theorem State.placeFlow0_batch (k : RecordKind) (c : CellData) :
    (s.placeFlow0 k c).batch = s.batch := by unfold State.placeFlow0; (repeat' split) <;> simp
@[simp] theorem State.placeFlow0_fibreTx (k : RecordKind) (c : CellData) :
    (s.placeFlow0 k c).fibreTx = s.fibreTx := by unfold State.placeFlow0; (repeat' split) <;> simp
@[simp] theorem State.placeFlow0_radioTx (k : RecordKind) (c : CellData) :
    (s.placeFlow0 k c).radioTx = s.radioTx := by unfold State.placeFlow0; (repeat' split) <;> simp
@[simp] theorem State.placeFlow0_planner (k : RecordKind) (c : CellData) :
    (s.placeFlow0 k c).planner = s.planner := by unfold State.placeFlow0; (repeat' split) <;> simp
@[simp] theorem State.placeFlow0_fibreRx (k : RecordKind) (c : CellData) :
    (s.placeFlow0 k c).fibreRx = s.fibreRx := by unfold State.placeFlow0; (repeat' split) <;> simp
@[simp] theorem State.placeFlow0_radioRx (k : RecordKind) (c : CellData) :
    (s.placeFlow0 k c).radioRx = s.radioRx := by unfold State.placeFlow0; (repeat' split) <;> simp
@[simp] theorem State.placeFlow0_skew (k : RecordKind) (c : CellData) :
    (s.placeFlow0 k c).skew = s.skew := by unfold State.placeFlow0; (repeat' split) <;> simp
@[simp] theorem State.placeFlow0_merge (k : RecordKind) (c : CellData) :
    (s.placeFlow0 k c).merge = s.merge := by unfold State.placeFlow0; (repeat' split) <;> simp
@[simp] theorem State.placeFlow0_strike (k : RecordKind) (c : CellData) :
    (s.placeFlow0 k c).strike = s.strike := by unfold State.placeFlow0; (repeat' split) <;> simp
@[simp] theorem State.placeFlow0_egress (k : RecordKind) (c : CellData) :
    (s.placeFlow0 k c).egress = s.egress := by unfold State.placeFlow0; (repeat' split) <;> simp
@[simp] theorem State.placeFlow0_tally (k : RecordKind) (c : CellData) :
    (s.placeFlow0 k c).tally = s.tally := by unfold State.placeFlow0; (repeat' split) <;> simp
@[simp] theorem State.placeFlow0_owed (k : RecordKind) (c : CellData) :
    (s.placeFlow0 k c).owed = s.owed := by unfold State.placeFlow0; (repeat' split) <;> simp
@[simp] theorem State.placeFlow0_expired (k : RecordKind) (c : CellData) :
    (s.placeFlow0 k c).expired = s.expired := by unfold State.placeFlow0; (repeat' split) <;> simp
@[simp] theorem State.placeFlow0_occasion (k : RecordKind) (c : CellData) :
    (s.placeFlow0 k c).occasion = s.occasion := by unfold State.placeFlow0; (repeat' split) <;> simp
@[simp] theorem State.placeFlow0_pending (k : RecordKind) (c : CellData) :
    (s.placeFlow0 k c).pending = s.pending := by unfold State.placeFlow0; (repeat' split) <;> simp

@[simp] theorem State.malformedCell_inReset : s.malformedCell.inReset = s.inReset := rfl
@[simp] theorem State.malformedCell_role : s.malformedCell.role = s.role := rfl
@[simp] theorem State.malformedCell_pins : s.malformedCell.pins = s.pins := rfl
@[simp] theorem State.malformedCell_clock : s.malformedCell.clock = s.clock := rfl
@[simp] theorem State.malformedCell_table : s.malformedCell.table = s.table := rfl
@[simp] theorem State.malformedCell_ingress : s.malformedCell.ingress = s.ingress := rfl
@[simp] theorem State.malformedCell_batch : s.malformedCell.batch = s.batch := rfl
@[simp] theorem State.malformedCell_fibreTx : s.malformedCell.fibreTx = s.fibreTx := rfl
@[simp] theorem State.malformedCell_radioTx : s.malformedCell.radioTx = s.radioTx := rfl
@[simp] theorem State.malformedCell_planner : s.malformedCell.planner = s.planner := rfl
@[simp] theorem State.malformedCell_fibreRx : s.malformedCell.fibreRx = s.fibreRx := rfl
@[simp] theorem State.malformedCell_radioRx : s.malformedCell.radioRx = s.radioRx := rfl
@[simp] theorem State.malformedCell_skew : s.malformedCell.skew = s.skew := rfl
@[simp] theorem State.malformedCell_merge : s.malformedCell.merge = s.merge := rfl
@[simp] theorem State.malformedCell_strike : s.malformedCell.strike = s.strike := rfl
@[simp] theorem State.malformedCell_egress : s.malformedCell.egress = s.egress := rfl
@[simp] theorem State.malformedCell_tally : s.malformedCell.tally = s.tally := rfl
@[simp] theorem State.malformedCell_events : s.malformedCell.events = s.events := rfl
@[simp] theorem State.malformedCell_owed : s.malformedCell.owed = s.owed := rfl
@[simp] theorem State.malformedCell_expired : s.malformedCell.expired = s.expired := rfl
@[simp] theorem State.malformedCell_occasion : s.malformedCell.occasion = s.occasion := rfl
@[simp] theorem State.malformedCell_pending : s.malformedCell.pending = s.pending := rfl

@[simp] theorem State.placeResponse_inReset (o : Origin) (c : CellData) :
    (s.placeResponse o c).inReset = s.inReset := by cases o <;> simp [State.placeResponse]
@[simp] theorem State.placeResponse_role (o : Origin) (c : CellData) :
    (s.placeResponse o c).role = s.role := by cases o <;> simp [State.placeResponse]
@[simp] theorem State.placeResponse_pins (o : Origin) (c : CellData) :
    (s.placeResponse o c).pins = s.pins := by cases o <;> simp [State.placeResponse]
@[simp] theorem State.placeResponse_clock (o : Origin) (c : CellData) :
    (s.placeResponse o c).clock = s.clock := by cases o <;> simp [State.placeResponse]
@[simp] theorem State.placeResponse_table (o : Origin) (c : CellData) :
    (s.placeResponse o c).table = s.table := by cases o <;> simp [State.placeResponse]
@[simp] theorem State.placeResponse_ingress (o : Origin) (c : CellData) :
    (s.placeResponse o c).ingress = s.ingress := by cases o <;> simp [State.placeResponse]
@[simp] theorem State.placeResponse_batch (o : Origin) (c : CellData) :
    (s.placeResponse o c).batch = s.batch := by cases o <;> simp [State.placeResponse]
@[simp] theorem State.placeResponse_fibreTx (o : Origin) (c : CellData) :
    (s.placeResponse o c).fibreTx = s.fibreTx := by cases o <;> simp [State.placeResponse]
@[simp] theorem State.placeResponse_radioTx (o : Origin) (c : CellData) :
    (s.placeResponse o c).radioTx = s.radioTx := by cases o <;> simp [State.placeResponse]
@[simp] theorem State.placeResponse_planner (o : Origin) (c : CellData) :
    (s.placeResponse o c).planner = s.planner := by cases o <;> simp [State.placeResponse]
@[simp] theorem State.placeResponse_fibreRx (o : Origin) (c : CellData) :
    (s.placeResponse o c).fibreRx = s.fibreRx := by cases o <;> simp [State.placeResponse]
@[simp] theorem State.placeResponse_radioRx (o : Origin) (c : CellData) :
    (s.placeResponse o c).radioRx = s.radioRx := by cases o <;> simp [State.placeResponse]
@[simp] theorem State.placeResponse_skew (o : Origin) (c : CellData) :
    (s.placeResponse o c).skew = s.skew := by cases o <;> simp [State.placeResponse]
@[simp] theorem State.placeResponse_merge (o : Origin) (c : CellData) :
    (s.placeResponse o c).merge = s.merge := by cases o <;> simp [State.placeResponse]
@[simp] theorem State.placeResponse_strike (o : Origin) (c : CellData) :
    (s.placeResponse o c).strike = s.strike := by cases o <;> simp [State.placeResponse]
@[simp] theorem State.placeResponse_egress (o : Origin) (c : CellData) :
    (s.placeResponse o c).egress = s.egress := by cases o <;> simp [State.placeResponse]
@[simp] theorem State.placeResponse_tally (o : Origin) (c : CellData) :
    (s.placeResponse o c).tally = s.tally := by cases o <;> simp [State.placeResponse]
@[simp] theorem State.placeResponse_owed (o : Origin) (c : CellData) :
    (s.placeResponse o c).owed = s.owed := by cases o <;> simp [State.placeResponse]
@[simp] theorem State.placeResponse_expired (o : Origin) (c : CellData) :
    (s.placeResponse o c).expired = s.expired := by cases o <;> simp [State.placeResponse]
@[simp] theorem State.placeResponse_occasion (o : Origin) (c : CellData) :
    (s.placeResponse o c).occasion = s.occasion := by cases o <;> simp [State.placeResponse]
@[simp] theorem State.placeResponse_pending (o : Origin) (c : CellData) :
    (s.placeResponse o c).pending = s.pending := by cases o <;> simp [State.placeResponse]

@[simp] theorem State.noteRefusal_inReset (o : Origin) (n : Byte) (st : Status) :
    (s.noteRefusal o n st).inReset = s.inReset := by unfold State.noteRefusal; (repeat' split) <;> simp
@[simp] theorem State.noteRefusal_role (o : Origin) (n : Byte) (st : Status) :
    (s.noteRefusal o n st).role = s.role := by unfold State.noteRefusal; (repeat' split) <;> simp
@[simp] theorem State.noteRefusal_pins (o : Origin) (n : Byte) (st : Status) :
    (s.noteRefusal o n st).pins = s.pins := by unfold State.noteRefusal; (repeat' split) <;> simp
@[simp] theorem State.noteRefusal_clock (o : Origin) (n : Byte) (st : Status) :
    (s.noteRefusal o n st).clock = s.clock := by unfold State.noteRefusal; (repeat' split) <;> simp
@[simp] theorem State.noteRefusal_table (o : Origin) (n : Byte) (st : Status) :
    (s.noteRefusal o n st).table = s.table := by unfold State.noteRefusal; (repeat' split) <;> simp
@[simp] theorem State.noteRefusal_ingress (o : Origin) (n : Byte) (st : Status) :
    (s.noteRefusal o n st).ingress = s.ingress := by unfold State.noteRefusal; (repeat' split) <;> simp
@[simp] theorem State.noteRefusal_batch (o : Origin) (n : Byte) (st : Status) :
    (s.noteRefusal o n st).batch = s.batch := by unfold State.noteRefusal; (repeat' split) <;> simp
@[simp] theorem State.noteRefusal_fibreTx (o : Origin) (n : Byte) (st : Status) :
    (s.noteRefusal o n st).fibreTx = s.fibreTx := by unfold State.noteRefusal; (repeat' split) <;> simp
@[simp] theorem State.noteRefusal_radioTx (o : Origin) (n : Byte) (st : Status) :
    (s.noteRefusal o n st).radioTx = s.radioTx := by unfold State.noteRefusal; (repeat' split) <;> simp
@[simp] theorem State.noteRefusal_planner (o : Origin) (n : Byte) (st : Status) :
    (s.noteRefusal o n st).planner = s.planner := by unfold State.noteRefusal; (repeat' split) <;> simp
@[simp] theorem State.noteRefusal_fibreRx (o : Origin) (n : Byte) (st : Status) :
    (s.noteRefusal o n st).fibreRx = s.fibreRx := by unfold State.noteRefusal; (repeat' split) <;> simp
@[simp] theorem State.noteRefusal_radioRx (o : Origin) (n : Byte) (st : Status) :
    (s.noteRefusal o n st).radioRx = s.radioRx := by unfold State.noteRefusal; (repeat' split) <;> simp
@[simp] theorem State.noteRefusal_skew (o : Origin) (n : Byte) (st : Status) :
    (s.noteRefusal o n st).skew = s.skew := by unfold State.noteRefusal; (repeat' split) <;> simp
@[simp] theorem State.noteRefusal_merge (o : Origin) (n : Byte) (st : Status) :
    (s.noteRefusal o n st).merge = s.merge := by unfold State.noteRefusal; (repeat' split) <;> simp
@[simp] theorem State.noteRefusal_strike (o : Origin) (n : Byte) (st : Status) :
    (s.noteRefusal o n st).strike = s.strike := by unfold State.noteRefusal; (repeat' split) <;> simp
@[simp] theorem State.noteRefusal_egress (o : Origin) (n : Byte) (st : Status) :
    (s.noteRefusal o n st).egress = s.egress := by unfold State.noteRefusal; (repeat' split) <;> simp
@[simp] theorem State.noteRefusal_tally (o : Origin) (n : Byte) (st : Status) :
    (s.noteRefusal o n st).tally = s.tally := by unfold State.noteRefusal; (repeat' split) <;> simp
@[simp] theorem State.noteRefusal_mgmt (o : Origin) (n : Byte) (st : Status) :
    (s.noteRefusal o n st).mgmt = s.mgmt := by unfold State.noteRefusal; (repeat' split) <;> simp
@[simp] theorem State.noteRefusal_owed (o : Origin) (n : Byte) (st : Status) :
    (s.noteRefusal o n st).owed = s.owed := by unfold State.noteRefusal; (repeat' split) <;> simp
@[simp] theorem State.noteRefusal_expired (o : Origin) (n : Byte) (st : Status) :
    (s.noteRefusal o n st).expired = s.expired := by unfold State.noteRefusal; (repeat' split) <;> simp
@[simp] theorem State.noteRefusal_occasion (o : Origin) (n : Byte) (st : Status) :
    (s.noteRefusal o n st).occasion = s.occasion := by unfold State.noteRefusal; (repeat' split) <;> simp
@[simp] theorem State.noteRefusal_pending (o : Origin) (n : Byte) (st : Status) :
    (s.noteRefusal o n st).pending = s.pending := by unfold State.noteRefusal; (repeat' split) <;> simp

@[simp] theorem State.answer_inReset (o : Origin) (tag n : Byte) (r : Reply) :
    (s.answer o tag n r).inReset = s.inReset := by simp [State.answer]
@[simp] theorem State.answer_role (o : Origin) (tag n : Byte) (r : Reply) :
    (s.answer o tag n r).role = s.role := by simp [State.answer]
@[simp] theorem State.answer_pins (o : Origin) (tag n : Byte) (r : Reply) :
    (s.answer o tag n r).pins = s.pins := by simp [State.answer]
@[simp] theorem State.answer_clock (o : Origin) (tag n : Byte) (r : Reply) :
    (s.answer o tag n r).clock = s.clock := by simp [State.answer]
@[simp] theorem State.answer_table (o : Origin) (tag n : Byte) (r : Reply) :
    (s.answer o tag n r).table = s.table := by simp [State.answer]
@[simp] theorem State.answer_ingress (o : Origin) (tag n : Byte) (r : Reply) :
    (s.answer o tag n r).ingress = s.ingress := by simp [State.answer]
@[simp] theorem State.answer_batch (o : Origin) (tag n : Byte) (r : Reply) :
    (s.answer o tag n r).batch = s.batch := by simp [State.answer]
@[simp] theorem State.answer_fibreTx (o : Origin) (tag n : Byte) (r : Reply) :
    (s.answer o tag n r).fibreTx = s.fibreTx := by simp [State.answer]
@[simp] theorem State.answer_radioTx (o : Origin) (tag n : Byte) (r : Reply) :
    (s.answer o tag n r).radioTx = s.radioTx := by simp [State.answer]
@[simp] theorem State.answer_planner (o : Origin) (tag n : Byte) (r : Reply) :
    (s.answer o tag n r).planner = s.planner := by simp [State.answer]
@[simp] theorem State.answer_fibreRx (o : Origin) (tag n : Byte) (r : Reply) :
    (s.answer o tag n r).fibreRx = s.fibreRx := by simp [State.answer]
@[simp] theorem State.answer_radioRx (o : Origin) (tag n : Byte) (r : Reply) :
    (s.answer o tag n r).radioRx = s.radioRx := by simp [State.answer]
@[simp] theorem State.answer_skew (o : Origin) (tag n : Byte) (r : Reply) :
    (s.answer o tag n r).skew = s.skew := by simp [State.answer]
@[simp] theorem State.answer_merge (o : Origin) (tag n : Byte) (r : Reply) :
    (s.answer o tag n r).merge = s.merge := by simp [State.answer]
@[simp] theorem State.answer_strike (o : Origin) (tag n : Byte) (r : Reply) :
    (s.answer o tag n r).strike = s.strike := by simp [State.answer]
@[simp] theorem State.answer_egress (o : Origin) (tag n : Byte) (r : Reply) :
    (s.answer o tag n r).egress = s.egress := by simp [State.answer]
@[simp] theorem State.answer_tally (o : Origin) (tag n : Byte) (r : Reply) :
    (s.answer o tag n r).tally = s.tally := by simp [State.answer]
@[simp] theorem State.answer_owed (o : Origin) (tag n : Byte) (r : Reply) :
    (s.answer o tag n r).owed = s.owed := by simp [State.answer]
@[simp] theorem State.answer_expired (o : Origin) (tag n : Byte) (r : Reply) :
    (s.answer o tag n r).expired = s.expired := by simp [State.answer]
@[simp] theorem State.answer_pending (o : Origin) (tag n : Byte) (r : Reply) :
    (s.answer o tag n r).pending = s.pending := by simp [State.answer]

@[simp] theorem State.executeSwap_inReset (x : Superframe) :
    (s.executeSwap x).inReset = s.inReset := rfl
@[simp] theorem State.executeSwap_role (x : Superframe) : (s.executeSwap x).role = s.role := rfl
@[simp] theorem State.executeSwap_pins (x : Superframe) : (s.executeSwap x).pins = s.pins := rfl
@[simp] theorem State.executeSwap_clock (x : Superframe) : (s.executeSwap x).clock = s.clock := rfl
@[simp] theorem State.executeSwap_ingress (x : Superframe) :
    (s.executeSwap x).ingress = s.ingress := rfl
@[simp] theorem State.executeSwap_fibreTx (x : Superframe) :
    (s.executeSwap x).fibreTx = s.fibreTx := rfl
@[simp] theorem State.executeSwap_radioTx (x : Superframe) :
    (s.executeSwap x).radioTx = s.radioTx := rfl
@[simp] theorem State.executeSwap_planner (x : Superframe) :
    (s.executeSwap x).planner = s.planner := rfl
@[simp] theorem State.executeSwap_fibreRx (x : Superframe) :
    (s.executeSwap x).fibreRx = s.fibreRx := rfl
@[simp] theorem State.executeSwap_radioRx (x : Superframe) :
    (s.executeSwap x).radioRx = s.radioRx := rfl
@[simp] theorem State.executeSwap_skew (x : Superframe) : (s.executeSwap x).skew = s.skew := rfl
@[simp] theorem State.executeSwap_strike (x : Superframe) :
    (s.executeSwap x).strike = s.strike := rfl
@[simp] theorem State.executeSwap_egress (x : Superframe) :
    (s.executeSwap x).egress = s.egress := rfl
@[simp] theorem State.executeSwap_mgmt (x : Superframe) : (s.executeSwap x).mgmt = s.mgmt := rfl
@[simp] theorem State.executeSwap_owed (x : Superframe) : (s.executeSwap x).owed = s.owed := rfl
@[simp] theorem State.executeSwap_occasion (x : Superframe) :
    (s.executeSwap x).occasion = s.occasion := rfl
@[simp] theorem State.executeSwap_pending (x : Superframe) :
    (s.executeSwap x).pending = s.pending := rfl

@[simp] theorem State.swapAtStart_inReset (n : Superframe) :
    (s.swapAtStart n).1.inReset = s.inReset := by unfold State.swapAtStart; (repeat' split) <;> simp
@[simp] theorem State.swapAtStart_role (n : Superframe) :
    (s.swapAtStart n).1.role = s.role := by unfold State.swapAtStart; (repeat' split) <;> simp
@[simp] theorem State.swapAtStart_pins (n : Superframe) :
    (s.swapAtStart n).1.pins = s.pins := by unfold State.swapAtStart; (repeat' split) <;> simp
@[simp] theorem State.swapAtStart_clock (n : Superframe) :
    (s.swapAtStart n).1.clock = s.clock := by unfold State.swapAtStart; (repeat' split) <;> simp
@[simp] theorem State.swapAtStart_ingress (n : Superframe) :
    (s.swapAtStart n).1.ingress = s.ingress := by unfold State.swapAtStart; (repeat' split) <;> simp
@[simp] theorem State.swapAtStart_fibreTx (n : Superframe) :
    (s.swapAtStart n).1.fibreTx = s.fibreTx := by unfold State.swapAtStart; (repeat' split) <;> simp
@[simp] theorem State.swapAtStart_radioTx (n : Superframe) :
    (s.swapAtStart n).1.radioTx = s.radioTx := by unfold State.swapAtStart; (repeat' split) <;> simp
@[simp] theorem State.swapAtStart_planner (n : Superframe) :
    (s.swapAtStart n).1.planner = s.planner := by unfold State.swapAtStart; (repeat' split) <;> simp
@[simp] theorem State.swapAtStart_fibreRx (n : Superframe) :
    (s.swapAtStart n).1.fibreRx = s.fibreRx := by unfold State.swapAtStart; (repeat' split) <;> simp
@[simp] theorem State.swapAtStart_radioRx (n : Superframe) :
    (s.swapAtStart n).1.radioRx = s.radioRx := by unfold State.swapAtStart; (repeat' split) <;> simp
@[simp] theorem State.swapAtStart_skew (n : Superframe) :
    (s.swapAtStart n).1.skew = s.skew := by unfold State.swapAtStart; (repeat' split) <;> simp
@[simp] theorem State.swapAtStart_strike (n : Superframe) :
    (s.swapAtStart n).1.strike = s.strike := by unfold State.swapAtStart; (repeat' split) <;> simp
@[simp] theorem State.swapAtStart_egress (n : Superframe) :
    (s.swapAtStart n).1.egress = s.egress := by unfold State.swapAtStart; (repeat' split) <;> simp
@[simp] theorem State.swapAtStart_mgmt (n : Superframe) :
    (s.swapAtStart n).1.mgmt = s.mgmt := by unfold State.swapAtStart; (repeat' split) <;> simp
@[simp] theorem State.swapAtStart_owed (n : Superframe) :
    (s.swapAtStart n).1.owed = s.owed := by unfold State.swapAtStart; (repeat' split) <;> simp
@[simp] theorem State.swapAtStart_occasion (n : Superframe) :
    (s.swapAtStart n).1.occasion = s.occasion := by unfold State.swapAtStart; (repeat' split) <;> simp
@[simp] theorem State.swapAtStart_pending (n : Superframe) :
    (s.swapAtStart n).1.pending = s.pending := by unfold State.swapAtStart; (repeat' split) <;> simp

@[simp] theorem State.swapAtStep_inReset (a b : Superframe) :
    (s.swapAtStep a b).inReset = s.inReset := by unfold State.swapAtStep; (repeat' split) <;> simp
@[simp] theorem State.swapAtStep_role (a b : Superframe) :
    (s.swapAtStep a b).role = s.role := by unfold State.swapAtStep; (repeat' split) <;> simp
@[simp] theorem State.swapAtStep_pins (a b : Superframe) :
    (s.swapAtStep a b).pins = s.pins := by unfold State.swapAtStep; (repeat' split) <;> simp
@[simp] theorem State.swapAtStep_clock (a b : Superframe) :
    (s.swapAtStep a b).clock = s.clock := by unfold State.swapAtStep; (repeat' split) <;> simp
@[simp] theorem State.swapAtStep_ingress (a b : Superframe) :
    (s.swapAtStep a b).ingress = s.ingress := by unfold State.swapAtStep; (repeat' split) <;> simp
@[simp] theorem State.swapAtStep_fibreTx (a b : Superframe) :
    (s.swapAtStep a b).fibreTx = s.fibreTx := by unfold State.swapAtStep; (repeat' split) <;> simp
@[simp] theorem State.swapAtStep_radioTx (a b : Superframe) :
    (s.swapAtStep a b).radioTx = s.radioTx := by unfold State.swapAtStep; (repeat' split) <;> simp
@[simp] theorem State.swapAtStep_fibreRx (a b : Superframe) :
    (s.swapAtStep a b).fibreRx = s.fibreRx := by unfold State.swapAtStep; (repeat' split) <;> simp
@[simp] theorem State.swapAtStep_radioRx (a b : Superframe) :
    (s.swapAtStep a b).radioRx = s.radioRx := by unfold State.swapAtStep; (repeat' split) <;> simp
@[simp] theorem State.swapAtStep_skew (a b : Superframe) :
    (s.swapAtStep a b).skew = s.skew := by unfold State.swapAtStep; (repeat' split) <;> simp
@[simp] theorem State.swapAtStep_strike (a b : Superframe) :
    (s.swapAtStep a b).strike = s.strike := by unfold State.swapAtStep; (repeat' split) <;> simp
@[simp] theorem State.swapAtStep_egress (a b : Superframe) :
    (s.swapAtStep a b).egress = s.egress := by unfold State.swapAtStep; (repeat' split) <;> simp
@[simp] theorem State.swapAtStep_mgmt (a b : Superframe) :
    (s.swapAtStep a b).mgmt = s.mgmt := by unfold State.swapAtStep; (repeat' split) <;> simp
@[simp] theorem State.swapAtStep_owed (a b : Superframe) :
    (s.swapAtStep a b).owed = s.owed := by unfold State.swapAtStep; (repeat' split) <;> simp
@[simp] theorem State.swapAtStep_occasion (a b : Superframe) :
    (s.swapAtStep a b).occasion = s.occasion := by unfold State.swapAtStep; (repeat' split) <;> simp
@[simp] theorem State.swapAtStep_pending (a b : Superframe) :
    (s.swapAtStep a b).pending = s.pending := by unfold State.swapAtStep; (repeat' split) <;> simp

@[simp] theorem State.absenceAtStart_inReset : s.absenceAtStart.1.inReset = s.inReset := rfl
@[simp] theorem State.absenceAtStart_role : s.absenceAtStart.1.role = s.role := rfl
@[simp] theorem State.absenceAtStart_pins : s.absenceAtStart.1.pins = s.pins := rfl
@[simp] theorem State.absenceAtStart_clock : s.absenceAtStart.1.clock = s.clock := rfl
@[simp] theorem State.absenceAtStart_table : s.absenceAtStart.1.table = s.table := rfl
@[simp] theorem State.absenceAtStart_ingress : s.absenceAtStart.1.ingress = s.ingress := rfl
@[simp] theorem State.absenceAtStart_batch : s.absenceAtStart.1.batch = s.batch := rfl
@[simp] theorem State.absenceAtStart_fibreTx : s.absenceAtStart.1.fibreTx = s.fibreTx := rfl
@[simp] theorem State.absenceAtStart_radioTx : s.absenceAtStart.1.radioTx = s.radioTx := rfl
@[simp] theorem State.absenceAtStart_fibreRx : s.absenceAtStart.1.fibreRx = s.fibreRx := rfl
@[simp] theorem State.absenceAtStart_radioRx : s.absenceAtStart.1.radioRx = s.radioRx := rfl
@[simp] theorem State.absenceAtStart_skew : s.absenceAtStart.1.skew = s.skew := rfl
@[simp] theorem State.absenceAtStart_merge : s.absenceAtStart.1.merge = s.merge := rfl
@[simp] theorem State.absenceAtStart_strike : s.absenceAtStart.1.strike = s.strike := rfl
@[simp] theorem State.absenceAtStart_egress : s.absenceAtStart.1.egress = s.egress := rfl
@[simp] theorem State.absenceAtStart_tally : s.absenceAtStart.1.tally = s.tally := rfl
@[simp] theorem State.absenceAtStart_mgmt : s.absenceAtStart.1.mgmt = s.mgmt := rfl
@[simp] theorem State.absenceAtStart_events : s.absenceAtStart.1.events = s.events := rfl
@[simp] theorem State.absenceAtStart_owed : s.absenceAtStart.1.owed = s.owed := rfl
@[simp] theorem State.absenceAtStart_expired : s.absenceAtStart.1.expired = s.expired := rfl
@[simp] theorem State.absenceAtStart_occasion : s.absenceAtStart.1.occasion = s.occasion := rfl
@[simp] theorem State.absenceAtStart_pending : s.absenceAtStart.1.pending = s.pending := rfl

@[simp] theorem State.planAtStart_inReset (n : Superframe) :
    (s.planAtStart n).inReset = s.inReset := by simp [State.planAtStart]
@[simp] theorem State.planAtStart_role (n : Superframe) :
    (s.planAtStart n).role = s.role := by simp [State.planAtStart]
@[simp] theorem State.planAtStart_pins (n : Superframe) :
    (s.planAtStart n).pins = s.pins := by simp [State.planAtStart]
@[simp] theorem State.planAtStart_clock (n : Superframe) :
    (s.planAtStart n).clock = s.clock := by simp [State.planAtStart]
@[simp] theorem State.planAtStart_ingress (n : Superframe) :
    (s.planAtStart n).ingress = s.ingress := by simp [State.planAtStart]
@[simp] theorem State.planAtStart_fibreTx (n : Superframe) :
    (s.planAtStart n).fibreTx = s.fibreTx := by simp [State.planAtStart]
@[simp] theorem State.planAtStart_radioTx (n : Superframe) :
    (s.planAtStart n).radioTx = s.radioTx := by simp [State.planAtStart]
@[simp] theorem State.planAtStart_fibreRx (n : Superframe) :
    (s.planAtStart n).fibreRx = s.fibreRx := by simp [State.planAtStart]
@[simp] theorem State.planAtStart_radioRx (n : Superframe) :
    (s.planAtStart n).radioRx = s.radioRx := by simp [State.planAtStart]
@[simp] theorem State.planAtStart_skew (n : Superframe) :
    (s.planAtStart n).skew = s.skew := by simp [State.planAtStart]
@[simp] theorem State.planAtStart_strike (n : Superframe) :
    (s.planAtStart n).strike = s.strike := by simp [State.planAtStart]
@[simp] theorem State.planAtStart_egress (n : Superframe) :
    (s.planAtStart n).egress = s.egress := by simp [State.planAtStart]
@[simp] theorem State.planAtStart_mgmt (n : Superframe) :
    (s.planAtStart n).mgmt = s.mgmt := by simp [State.planAtStart]
@[simp] theorem State.planAtStart_owed (n : Superframe) :
    (s.planAtStart n).owed = s.owed := by simp [State.planAtStart]
@[simp] theorem State.planAtStart_occasion (n : Superframe) :
    (s.planAtStart n).occasion = s.occasion := by simp [State.planAtStart]
@[simp] theorem State.planAtStart_pending (n : Superframe) :
    (s.planAtStart n).pending = s.pending := by simp [State.planAtStart]

@[simp] theorem State.takeShare_inReset (o : OwedStart) :
    (s.takeShare o).inReset = s.inReset := by cases o <;> simp [State.takeShare]
@[simp] theorem State.takeShare_role (o : OwedStart) :
    (s.takeShare o).role = s.role := by cases o <;> simp [State.takeShare]
@[simp] theorem State.takeShare_pins (o : OwedStart) :
    (s.takeShare o).pins = s.pins := by cases o <;> simp [State.takeShare]
@[simp] theorem State.takeShare_table (o : OwedStart) :
    (s.takeShare o).table = s.table := by cases o <;> simp [State.takeShare]
@[simp] theorem State.takeShare_ingress (o : OwedStart) :
    (s.takeShare o).ingress = s.ingress := by cases o <;> simp [State.takeShare]
@[simp] theorem State.takeShare_batch (o : OwedStart) :
    (s.takeShare o).batch = s.batch := by cases o <;> simp [State.takeShare]
@[simp] theorem State.takeShare_fibreTx (o : OwedStart) :
    (s.takeShare o).fibreTx = s.fibreTx := by cases o <;> simp [State.takeShare]
@[simp] theorem State.takeShare_radioTx (o : OwedStart) :
    (s.takeShare o).radioTx = s.radioTx := by cases o <;> simp [State.takeShare]
@[simp] theorem State.takeShare_planner (o : OwedStart) :
    (s.takeShare o).planner = s.planner := by cases o <;> simp [State.takeShare]
@[simp] theorem State.takeShare_merge (o : OwedStart) :
    (s.takeShare o).merge = s.merge := by cases o <;> simp [State.takeShare]
@[simp] theorem State.takeShare_egress (o : OwedStart) :
    (s.takeShare o).egress = s.egress := by cases o <;> simp [State.takeShare]
@[simp] theorem State.takeShare_mgmt (o : OwedStart) :
    (s.takeShare o).mgmt = s.mgmt := by cases o <;> simp [State.takeShare]
@[simp] theorem State.takeShare_owed (o : OwedStart) :
    (s.takeShare o).owed = s.owed := by cases o <;> simp [State.takeShare]
@[simp] theorem State.takeShare_occasion (o : OwedStart) :
    (s.takeShare o).occasion = s.occasion := by cases o <;> simp [State.takeShare]
@[simp] theorem State.takeShare_pending (o : OwedStart) :
    (s.takeShare o).pending = s.pending := by cases o <;> simp [State.takeShare]

@[simp] theorem State.shareOrOwe_inReset (e n : Bool) (o : OwedStart) :
    (s.shareOrOwe e n o).inReset = s.inReset := by unfold State.shareOrOwe; (repeat' split) <;> simp
@[simp] theorem State.shareOrOwe_role (e n : Bool) (o : OwedStart) :
    (s.shareOrOwe e n o).role = s.role := by unfold State.shareOrOwe; (repeat' split) <;> simp
@[simp] theorem State.shareOrOwe_pins (e n : Bool) (o : OwedStart) :
    (s.shareOrOwe e n o).pins = s.pins := by unfold State.shareOrOwe; (repeat' split) <;> simp
@[simp] theorem State.shareOrOwe_table (e n : Bool) (o : OwedStart) :
    (s.shareOrOwe e n o).table = s.table := by unfold State.shareOrOwe; (repeat' split) <;> simp
@[simp] theorem State.shareOrOwe_ingress (e n : Bool) (o : OwedStart) :
    (s.shareOrOwe e n o).ingress = s.ingress := by unfold State.shareOrOwe; (repeat' split) <;> simp
@[simp] theorem State.shareOrOwe_batch (e n : Bool) (o : OwedStart) :
    (s.shareOrOwe e n o).batch = s.batch := by unfold State.shareOrOwe; (repeat' split) <;> simp
@[simp] theorem State.shareOrOwe_fibreTx (e n : Bool) (o : OwedStart) :
    (s.shareOrOwe e n o).fibreTx = s.fibreTx := by unfold State.shareOrOwe; (repeat' split) <;> simp
@[simp] theorem State.shareOrOwe_radioTx (e n : Bool) (o : OwedStart) :
    (s.shareOrOwe e n o).radioTx = s.radioTx := by unfold State.shareOrOwe; (repeat' split) <;> simp
@[simp] theorem State.shareOrOwe_planner (e n : Bool) (o : OwedStart) :
    (s.shareOrOwe e n o).planner = s.planner := by unfold State.shareOrOwe; (repeat' split) <;> simp
@[simp] theorem State.shareOrOwe_merge (e n : Bool) (o : OwedStart) :
    (s.shareOrOwe e n o).merge = s.merge := by unfold State.shareOrOwe; (repeat' split) <;> simp
@[simp] theorem State.shareOrOwe_egress (e n : Bool) (o : OwedStart) :
    (s.shareOrOwe e n o).egress = s.egress := by unfold State.shareOrOwe; (repeat' split) <;> simp
@[simp] theorem State.shareOrOwe_mgmt (e n : Bool) (o : OwedStart) :
    (s.shareOrOwe e n o).mgmt = s.mgmt := by unfold State.shareOrOwe; (repeat' split) <;> simp
@[simp] theorem State.shareOrOwe_occasion (e n : Bool) (o : OwedStart) :
    (s.shareOrOwe e n o).occasion = s.occasion := by unfold State.shareOrOwe; (repeat' split) <;> simp
@[simp] theorem State.shareOrOwe_pending (e n : Bool) (o : OwedStart) :
    (s.shareOrOwe e n o).pending = s.pending := by unfold State.shareOrOwe; (repeat' split) <;> simp

@[simp] theorem State.timersAtStart_inReset (n : Superframe) :
    (s.timersAtStart n).inReset = s.inReset := by simp [State.timersAtStart]
@[simp] theorem State.timersAtStart_role (n : Superframe) :
    (s.timersAtStart n).role = s.role := by simp [State.timersAtStart]
@[simp] theorem State.timersAtStart_pins (n : Superframe) :
    (s.timersAtStart n).pins = s.pins := by simp [State.timersAtStart]
@[simp] theorem State.timersAtStart_table (n : Superframe) :
    (s.timersAtStart n).table = s.table := by simp [State.timersAtStart]
@[simp] theorem State.timersAtStart_ingress (n : Superframe) :
    (s.timersAtStart n).ingress = s.ingress := by simp [State.timersAtStart]
@[simp] theorem State.timersAtStart_batch (n : Superframe) :
    (s.timersAtStart n).batch = s.batch := by simp [State.timersAtStart]
@[simp] theorem State.timersAtStart_fibreTx (n : Superframe) :
    (s.timersAtStart n).fibreTx = s.fibreTx := by simp [State.timersAtStart]
@[simp] theorem State.timersAtStart_radioTx (n : Superframe) :
    (s.timersAtStart n).radioTx = s.radioTx := by simp [State.timersAtStart]
@[simp] theorem State.timersAtStart_planner (n : Superframe) :
    (s.timersAtStart n).planner = s.planner := by simp [State.timersAtStart]
@[simp] theorem State.timersAtStart_merge (n : Superframe) :
    (s.timersAtStart n).merge = s.merge := by simp [State.timersAtStart]
@[simp] theorem State.timersAtStart_egress (n : Superframe) :
    (s.timersAtStart n).egress = s.egress := by simp [State.timersAtStart]
@[simp] theorem State.timersAtStart_mgmt (n : Superframe) :
    (s.timersAtStart n).mgmt = s.mgmt := by simp [State.timersAtStart]
@[simp] theorem State.timersAtStart_occasion (n : Superframe) :
    (s.timersAtStart n).occasion = s.occasion := by simp [State.timersAtStart]
@[simp] theorem State.timersAtStart_pending (n : Superframe) :
    (s.timersAtStart n).pending = s.pending := by simp [State.timersAtStart]

@[simp] theorem State.sharesAtStart_inReset (n : Superframe) :
    (s.sharesAtStart n).inReset = s.inReset := by simp [State.sharesAtStart]
@[simp] theorem State.sharesAtStart_role (n : Superframe) :
    (s.sharesAtStart n).role = s.role := by simp [State.sharesAtStart]
@[simp] theorem State.sharesAtStart_pins (n : Superframe) :
    (s.sharesAtStart n).pins = s.pins := by simp [State.sharesAtStart]
@[simp] theorem State.sharesAtStart_egress (n : Superframe) :
    (s.sharesAtStart n).egress = s.egress := by simp [State.sharesAtStart]
@[simp] theorem State.sharesAtStart_mgmt (n : Superframe) :
    (s.sharesAtStart n).mgmt = s.mgmt := by simp [State.sharesAtStart]
@[simp] theorem State.sharesAtStart_pending (n : Superframe) :
    (s.sharesAtStart n).pending = s.pending := by simp [State.sharesAtStart]

@[simp] theorem State.takeOwed_inReset : s.takeOwed.inReset = s.inReset := by
  unfold State.takeOwed
  have h : ∀ (l : List OwedStart) (t : State), (l.foldl State.takeShare t).inReset = t.inReset := by
    intro l
    induction l with
    | nil => intro t; rfl
    | cons a l ih => intro t; simp [ih]
  simp [h]
@[simp] theorem State.takeOwed_role : s.takeOwed.role = s.role := by
  unfold State.takeOwed
  have h : ∀ (l : List OwedStart) (t : State), (l.foldl State.takeShare t).role = t.role := by
    intro l
    induction l with
    | nil => intro t; rfl
    | cons a l ih => intro t; simp [ih]
  simp [h]
@[simp] theorem State.takeOwed_pins : s.takeOwed.pins = s.pins := by
  unfold State.takeOwed
  have h : ∀ (l : List OwedStart) (t : State), (l.foldl State.takeShare t).pins = t.pins := by
    intro l
    induction l with
    | nil => intro t; rfl
    | cons a l ih => intro t; simp [ih]
  simp [h]
@[simp] theorem State.takeOwed_table : s.takeOwed.table = s.table := by
  unfold State.takeOwed
  have h : ∀ (l : List OwedStart) (t : State), (l.foldl State.takeShare t).table = t.table := by
    intro l
    induction l with
    | nil => intro t; rfl
    | cons a l ih => intro t; simp [ih]
  simp [h]
@[simp] theorem State.takeOwed_ingress : s.takeOwed.ingress = s.ingress := by
  unfold State.takeOwed
  have h : ∀ (l : List OwedStart) (t : State), (l.foldl State.takeShare t).ingress = t.ingress := by
    intro l
    induction l with
    | nil => intro t; rfl
    | cons a l ih => intro t; simp [ih]
  simp [h]
@[simp] theorem State.takeOwed_batch : s.takeOwed.batch = s.batch := by
  unfold State.takeOwed
  have h : ∀ (l : List OwedStart) (t : State), (l.foldl State.takeShare t).batch = t.batch := by
    intro l
    induction l with
    | nil => intro t; rfl
    | cons a l ih => intro t; simp [ih]
  simp [h]
@[simp] theorem State.takeOwed_fibreTx : s.takeOwed.fibreTx = s.fibreTx := by
  unfold State.takeOwed
  have h : ∀ (l : List OwedStart) (t : State), (l.foldl State.takeShare t).fibreTx = t.fibreTx := by
    intro l
    induction l with
    | nil => intro t; rfl
    | cons a l ih => intro t; simp [ih]
  simp [h]
@[simp] theorem State.takeOwed_radioTx : s.takeOwed.radioTx = s.radioTx := by
  unfold State.takeOwed
  have h : ∀ (l : List OwedStart) (t : State), (l.foldl State.takeShare t).radioTx = t.radioTx := by
    intro l
    induction l with
    | nil => intro t; rfl
    | cons a l ih => intro t; simp [ih]
  simp [h]
@[simp] theorem State.takeOwed_planner : s.takeOwed.planner = s.planner := by
  unfold State.takeOwed
  have h : ∀ (l : List OwedStart) (t : State), (l.foldl State.takeShare t).planner = t.planner := by
    intro l
    induction l with
    | nil => intro t; rfl
    | cons a l ih => intro t; simp [ih]
  simp [h]
@[simp] theorem State.takeOwed_merge : s.takeOwed.merge = s.merge := by
  unfold State.takeOwed
  have h : ∀ (l : List OwedStart) (t : State), (l.foldl State.takeShare t).merge = t.merge := by
    intro l
    induction l with
    | nil => intro t; rfl
    | cons a l ih => intro t; simp [ih]
  simp [h]
@[simp] theorem State.takeOwed_egress : s.takeOwed.egress = s.egress := by
  unfold State.takeOwed
  have h : ∀ (l : List OwedStart) (t : State), (l.foldl State.takeShare t).egress = t.egress := by
    intro l
    induction l with
    | nil => intro t; rfl
    | cons a l ih => intro t; simp [ih]
  simp [h]
@[simp] theorem State.takeOwed_mgmt : s.takeOwed.mgmt = s.mgmt := by
  unfold State.takeOwed
  have h : ∀ (l : List OwedStart) (t : State), (l.foldl State.takeShare t).mgmt = t.mgmt := by
    intro l
    induction l with
    | nil => intro t; rfl
    | cons a l ih => intro t; simp [ih]
  simp [h]
@[simp] theorem State.takeOwed_occasion : s.takeOwed.occasion = s.occasion := by
  unfold State.takeOwed
  have h : ∀ (l : List OwedStart) (t : State), (l.foldl State.takeShare t).occasion = t.occasion := by
    intro l
    induction l with
    | nil => intro t; rfl
    | cons a l ih => intro t; simp [ih]
  simp [h]
@[simp] theorem State.takeOwed_pending : s.takeOwed.pending = s.pending := by
  unfold State.takeOwed
  have h : ∀ (l : List OwedStart) (t : State), (l.foldl State.takeShare t).pending = t.pending := by
    intro l
    induction l with
    | nil => intro t; rfl
    | cons a l ih => intro t; simp [ih]
  simp [h]

@[simp] theorem State.countRoutine_inReset : s.countRoutine.inReset = s.inReset := rfl
@[simp] theorem State.countRoutine_role : s.countRoutine.role = s.role := rfl
@[simp] theorem State.countRoutine_pins : s.countRoutine.pins = s.pins := rfl
@[simp] theorem State.countRoutine_clock : s.countRoutine.clock = s.clock := rfl
@[simp] theorem State.countRoutine_table : s.countRoutine.table = s.table := rfl
@[simp] theorem State.countRoutine_ingress : s.countRoutine.ingress = s.ingress := rfl
@[simp] theorem State.countRoutine_batch : s.countRoutine.batch = s.batch := rfl
@[simp] theorem State.countRoutine_fibreTx : s.countRoutine.fibreTx = s.fibreTx := rfl
@[simp] theorem State.countRoutine_radioTx : s.countRoutine.radioTx = s.radioTx := rfl
@[simp] theorem State.countRoutine_planner : s.countRoutine.planner = s.planner := rfl
@[simp] theorem State.countRoutine_fibreRx : s.countRoutine.fibreRx = s.fibreRx := rfl
@[simp] theorem State.countRoutine_radioRx : s.countRoutine.radioRx = s.radioRx := rfl
@[simp] theorem State.countRoutine_skew : s.countRoutine.skew = s.skew := rfl
@[simp] theorem State.countRoutine_merge : s.countRoutine.merge = s.merge := rfl
@[simp] theorem State.countRoutine_strike : s.countRoutine.strike = s.strike := rfl
@[simp] theorem State.countRoutine_egress : s.countRoutine.egress = s.egress := rfl
@[simp] theorem State.countRoutine_tally : s.countRoutine.tally = s.tally := rfl
@[simp] theorem State.countRoutine_mgmt : s.countRoutine.mgmt = s.mgmt := rfl
@[simp] theorem State.countRoutine_owed : s.countRoutine.owed = s.owed := rfl
@[simp] theorem State.countRoutine_expired : s.countRoutine.expired = s.expired := rfl
@[simp] theorem State.countRoutine_occasion : s.countRoutine.occasion = s.occasion := rfl
@[simp] theorem State.countRoutine_pending : s.countRoutine.pending = s.pending := rfl

@[simp] theorem State.placeNear_inReset (c : Option CellData) :
    (s.placeNear c).inReset = s.inReset := by unfold State.placeNear; (repeat' split) <;> simp
@[simp] theorem State.placeNear_role (c : Option CellData) :
    (s.placeNear c).role = s.role := by unfold State.placeNear; (repeat' split) <;> simp
@[simp] theorem State.placeNear_pins (c : Option CellData) :
    (s.placeNear c).pins = s.pins := by unfold State.placeNear; (repeat' split) <;> simp
@[simp] theorem State.placeNear_clock (c : Option CellData) :
    (s.placeNear c).clock = s.clock := by unfold State.placeNear; (repeat' split) <;> simp
@[simp] theorem State.placeNear_table (c : Option CellData) :
    (s.placeNear c).table = s.table := by unfold State.placeNear; (repeat' split) <;> simp
@[simp] theorem State.placeNear_ingress (c : Option CellData) :
    (s.placeNear c).ingress = s.ingress := by unfold State.placeNear; (repeat' split) <;> simp
@[simp] theorem State.placeNear_batch (c : Option CellData) :
    (s.placeNear c).batch = s.batch := by unfold State.placeNear; (repeat' split) <;> simp
@[simp] theorem State.placeNear_fibreTx (c : Option CellData) :
    (s.placeNear c).fibreTx = s.fibreTx := by unfold State.placeNear; (repeat' split) <;> simp
@[simp] theorem State.placeNear_radioTx (c : Option CellData) :
    (s.placeNear c).radioTx = s.radioTx := by unfold State.placeNear; (repeat' split) <;> simp
@[simp] theorem State.placeNear_planner (c : Option CellData) :
    (s.placeNear c).planner = s.planner := by unfold State.placeNear; (repeat' split) <;> simp
@[simp] theorem State.placeNear_fibreRx (c : Option CellData) :
    (s.placeNear c).fibreRx = s.fibreRx := by unfold State.placeNear; (repeat' split) <;> simp
@[simp] theorem State.placeNear_radioRx (c : Option CellData) :
    (s.placeNear c).radioRx = s.radioRx := by unfold State.placeNear; (repeat' split) <;> simp
@[simp] theorem State.placeNear_skew (c : Option CellData) :
    (s.placeNear c).skew = s.skew := by unfold State.placeNear; (repeat' split) <;> simp
@[simp] theorem State.placeNear_merge (c : Option CellData) :
    (s.placeNear c).merge = s.merge := by unfold State.placeNear; (repeat' split) <;> simp
@[simp] theorem State.placeNear_strike (c : Option CellData) :
    (s.placeNear c).strike = s.strike := by unfold State.placeNear; (repeat' split) <;> simp
@[simp] theorem State.placeNear_egress (c : Option CellData) :
    (s.placeNear c).egress = s.egress := by unfold State.placeNear; (repeat' split) <;> simp
@[simp] theorem State.placeNear_tally (c : Option CellData) :
    (s.placeNear c).tally = s.tally := by unfold State.placeNear; (repeat' split) <;> simp
@[simp] theorem State.placeNear_owed (c : Option CellData) :
    (s.placeNear c).owed = s.owed := by unfold State.placeNear; (repeat' split) <;> simp
@[simp] theorem State.placeNear_expired (c : Option CellData) :
    (s.placeNear c).expired = s.expired := by unfold State.placeNear; (repeat' split) <;> simp
@[simp] theorem State.placeNear_occasion (c : Option CellData) :
    (s.placeNear c).occasion = s.occasion := by unfold State.placeNear; (repeat' split) <;> simp
@[simp] theorem State.placeNear_pending (c : Option CellData) :
    (s.placeNear c).pending = s.pending := by unfold State.placeNear; (repeat' split) <;> simp

@[simp] theorem State.judge_inReset (n : Superframe) :
    (s.judge n).1.inReset = s.inReset := by unfold State.judge; dsimp only; (repeat' split) <;> simp
@[simp] theorem State.judge_role (n : Superframe) :
    (s.judge n).1.role = s.role := by unfold State.judge; dsimp only; (repeat' split) <;> simp
@[simp] theorem State.judge_pins (n : Superframe) :
    (s.judge n).1.pins = s.pins := by unfold State.judge; dsimp only; (repeat' split) <;> simp
@[simp] theorem State.judge_clock (n : Superframe) :
    (s.judge n).1.clock = s.clock := by unfold State.judge; dsimp only; (repeat' split) <;> simp
@[simp] theorem State.judge_table (n : Superframe) :
    (s.judge n).1.table = s.table := by unfold State.judge; dsimp only; (repeat' split) <;> simp
@[simp] theorem State.judge_ingress (n : Superframe) :
    (s.judge n).1.ingress = s.ingress := by unfold State.judge; dsimp only; (repeat' split) <;> simp
@[simp] theorem State.judge_batch (n : Superframe) :
    (s.judge n).1.batch = s.batch := by unfold State.judge; dsimp only; (repeat' split) <;> simp
@[simp] theorem State.judge_fibreTx (n : Superframe) :
    (s.judge n).1.fibreTx = s.fibreTx := by unfold State.judge; dsimp only; (repeat' split) <;> simp
@[simp] theorem State.judge_radioTx (n : Superframe) :
    (s.judge n).1.radioTx = s.radioTx := by unfold State.judge; dsimp only; (repeat' split) <;> simp
@[simp] theorem State.judge_planner (n : Superframe) :
    (s.judge n).1.planner = s.planner := by unfold State.judge; dsimp only; (repeat' split) <;> simp
@[simp] theorem State.judge_fibreRx (n : Superframe) :
    (s.judge n).1.fibreRx = s.fibreRx := by unfold State.judge; dsimp only; (repeat' split) <;> simp
@[simp] theorem State.judge_radioRx (n : Superframe) :
    (s.judge n).1.radioRx = s.radioRx := by unfold State.judge; dsimp only; (repeat' split) <;> simp
@[simp] theorem State.judge_skew (n : Superframe) :
    (s.judge n).1.skew = s.skew := by unfold State.judge; dsimp only; (repeat' split) <;> simp
@[simp] theorem State.judge_merge (n : Superframe) :
    (s.judge n).1.merge = s.merge := by unfold State.judge; dsimp only; (repeat' split) <;> simp
@[simp] theorem State.judge_strike (n : Superframe) :
    (s.judge n).1.strike = s.strike := by unfold State.judge; dsimp only; (repeat' split) <;> simp
@[simp] theorem State.judge_egress (n : Superframe) :
    (s.judge n).1.egress = s.egress := by unfold State.judge; dsimp only; (repeat' split) <;> simp
@[simp] theorem State.judge_tally (n : Superframe) :
    (s.judge n).1.tally = s.tally := by unfold State.judge; dsimp only; (repeat' split) <;> simp
@[simp] theorem State.judge_owed (n : Superframe) :
    (s.judge n).1.owed = s.owed := by unfold State.judge; dsimp only; (repeat' split) <;> simp
@[simp] theorem State.judge_expired (n : Superframe) :
    (s.judge n).1.expired = s.expired := by unfold State.judge; dsimp only; (repeat' split) <;> simp
@[simp] theorem State.judge_pending (n : Superframe) :
    (s.judge n).1.pending = s.pending := by unfold State.judge; dsimp only; (repeat' split) <;> simp

@[simp] theorem State.drainAndPlace_inReset (c : Option CellData) (b : Bool) :
    (s.drainAndPlace c b).inReset = s.inReset := by unfold State.drainAndPlace; (repeat' split) <;> simp
@[simp] theorem State.drainAndPlace_role (c : Option CellData) (b : Bool) :
    (s.drainAndPlace c b).role = s.role := by unfold State.drainAndPlace; (repeat' split) <;> simp
@[simp] theorem State.drainAndPlace_pins (c : Option CellData) (b : Bool) :
    (s.drainAndPlace c b).pins = s.pins := by unfold State.drainAndPlace; (repeat' split) <;> simp
@[simp] theorem State.drainAndPlace_clock (c : Option CellData) (b : Bool) :
    (s.drainAndPlace c b).clock = s.clock := by unfold State.drainAndPlace; (repeat' split) <;> simp
@[simp] theorem State.drainAndPlace_table (c : Option CellData) (b : Bool) :
    (s.drainAndPlace c b).table = s.table := by unfold State.drainAndPlace; (repeat' split) <;> simp
@[simp] theorem State.drainAndPlace_ingress (c : Option CellData) (b : Bool) :
    (s.drainAndPlace c b).ingress = s.ingress := by unfold State.drainAndPlace; (repeat' split) <;> simp
@[simp] theorem State.drainAndPlace_planner (c : Option CellData) (b : Bool) :
    (s.drainAndPlace c b).planner = s.planner := by unfold State.drainAndPlace; (repeat' split) <;> simp
@[simp] theorem State.drainAndPlace_fibreRx (c : Option CellData) (b : Bool) :
    (s.drainAndPlace c b).fibreRx = s.fibreRx := by unfold State.drainAndPlace; (repeat' split) <;> simp
@[simp] theorem State.drainAndPlace_radioRx (c : Option CellData) (b : Bool) :
    (s.drainAndPlace c b).radioRx = s.radioRx := by unfold State.drainAndPlace; (repeat' split) <;> simp
@[simp] theorem State.drainAndPlace_skew (c : Option CellData) (b : Bool) :
    (s.drainAndPlace c b).skew = s.skew := by unfold State.drainAndPlace; (repeat' split) <;> simp
@[simp] theorem State.drainAndPlace_merge (c : Option CellData) (b : Bool) :
    (s.drainAndPlace c b).merge = s.merge := by unfold State.drainAndPlace; (repeat' split) <;> simp
@[simp] theorem State.drainAndPlace_strike (c : Option CellData) (b : Bool) :
    (s.drainAndPlace c b).strike = s.strike := by unfold State.drainAndPlace; (repeat' split) <;> simp
@[simp] theorem State.drainAndPlace_egress (c : Option CellData) (b : Bool) :
    (s.drainAndPlace c b).egress = s.egress := by unfold State.drainAndPlace; (repeat' split) <;> simp
@[simp] theorem State.drainAndPlace_tally (c : Option CellData) (b : Bool) :
    (s.drainAndPlace c b).tally = s.tally := by unfold State.drainAndPlace; (repeat' split) <;> simp
@[simp] theorem State.drainAndPlace_owed (c : Option CellData) (b : Bool) :
    (s.drainAndPlace c b).owed = s.owed := by unfold State.drainAndPlace; (repeat' split) <;> simp
@[simp] theorem State.drainAndPlace_expired (c : Option CellData) (b : Bool) :
    (s.drainAndPlace c b).expired = s.expired := by unfold State.drainAndPlace; (repeat' split) <;> simp
@[simp] theorem State.drainAndPlace_occasion (c : Option CellData) (b : Bool) :
    (s.drainAndPlace c b).occasion = s.occasion := by unfold State.drainAndPlace; (repeat' split) <;> simp
@[simp] theorem State.drainAndPlace_pending (c : Option CellData) (b : Bool) :
    (s.drainAndPlace c b).pending = s.pending := by unfold State.drainAndPlace; (repeat' split) <;> simp

@[simp] theorem State.superframeStart_inReset (n : Superframe) (c : Bool) :
    (s.superframeStart n c).inReset = s.inReset := by unfold State.superframeStart; (repeat' split) <;> simp
@[simp] theorem State.superframeStart_role (n : Superframe) (c : Bool) :
    (s.superframeStart n c).role = s.role := by unfold State.superframeStart; (repeat' split) <;> simp
@[simp] theorem State.superframeStart_pins (n : Superframe) (c : Bool) :
    (s.superframeStart n c).pins = s.pins := by unfold State.superframeStart; (repeat' split) <;> simp
@[simp] theorem State.superframeStart_egress (n : Superframe) (c : Bool) :
    (s.superframeStart n c).egress = s.egress := by unfold State.superframeStart; (repeat' split) <;> simp
@[simp] theorem State.superframeStart_pending (n : Superframe) (c : Bool) :
    (s.superframeStart n c).pending = s.pending := by unfold State.superframeStart; (repeat' split) <;> simp

@[simp] theorem State.enterSlot_inReset (st : Option Superframe) :
    (s.enterSlot st).inReset = s.inReset := by unfold State.enterSlot; (repeat' split) <;> simp
@[simp] theorem State.enterSlot_role (st : Option Superframe) :
    (s.enterSlot st).role = s.role := by unfold State.enterSlot; (repeat' split) <;> simp
@[simp] theorem State.enterSlot_pins (st : Option Superframe) :
    (s.enterSlot st).pins = s.pins := by unfold State.enterSlot; (repeat' split) <;> simp
@[simp] theorem State.enterSlot_egress (st : Option Superframe) :
    (s.enterSlot st).egress = s.egress := by unfold State.enterSlot; (repeat' split) <;> simp
@[simp] theorem State.enterSlot_pending (st : Option Superframe) :
    (s.enterSlot st).pending = s.pending := by unfold State.enterSlot; (repeat' split) <;> simp

end Sys2Proof.Machine
end

