-- ==== Sys2Proof/Laws/Ops.lean ====
section
/-! SUPPORT. What the shared operations do: link time that is advanced by nothing (R7), the Buffer
Pool's contents read after a write, and their canonical form (R128), and byte order (R183). -/

namespace Sys2Proof.Machine

/-! ### Link time -/

@[simp] theorem LinkTime.advance_zero (t : LinkTime) : t.advance 0 = t := by
  have h := t.slot.isLt
  have e : (t.slot.val : Int) / 1536 = 0 := by omega
  unfold LinkTime.advance
  simp only [Int.add_zero, e, Int.mul_zero, Int.sub_zero, Int.toNat_natCast, BitVec.ofInt_natCast,
    BitVec.ofNat_toNat, BitVec.setWidth_eq]
  congr 1
  exact Fin.ext (Nat.mod_eq_of_lt h)

@[simp] theorem difference_self (t : LinkTime) : difference t t = 0 := by
  simp [difference]

@[simp] theorem age_self (t : LinkTime) : age t t = 0 := by
  simp [age]

/-! ### The Buffer Pool's contents -/

theorem poolRising_weaken {l : Nat} {pool : List (Nat × CellData)}
    (h : poolRising (some l) pool = true) : poolRising none pool = true := by
  cases pool with
  | nil => rfl
  | cons p rest =>
    obtain ⟨a, x⟩ := p
    simp only [poolRising, Bool.and_eq_true] at h ⊢
    exact ⟨⟨trivial, h.1.2⟩, h.2⟩

/-- A buffer below every listed one reads as a blank one. -/
theorem poolRead_below {l k : Nat} {pool : List (Nat × CellData)}
    (h : poolRising (some l) pool = true) (hk : k ≤ l) : poolRead pool k = blankBuffer := by
  induction pool generalizing l with
  | nil => rfl
  | cons p rest ih =>
    obtain ⟨a, x⟩ := p
    simp only [poolRising, Bool.and_eq_true, decide_eq_true_eq] at h
    have : a ≠ k := by omega
    simp only [poolRead, this, if_false]
    exact ih h.2 (by omega)

/-- A store keeps the pool's numbers rising and lists nothing blank. -/
theorem poolRising_write {low : Option Nat} {pool : List (Nat × CellData)} (k : Nat) (v : CellData)
    (h : poolRising low pool = true) (hk : ∀ l, low = some l → l < k) :
    poolRising low (poolWrite pool k v) = true := by
  induction pool generalizing low with
  | nil =>
    unfold poolWrite
    split
    · rfl
    · next hv =>
      cases low with
      | none => simp [poolRising, hv]
      | some l => simp [poolRising, hv, hk l rfl]
  | cons p rest ih =>
    obtain ⟨a, x⟩ := p
    simp only [poolRising, Bool.and_eq_true, decide_eq_true_eq] at h
    have hrest : ∀ l : Nat, l ≤ a → poolRising (some l) rest = true := by
      intro l hl
      cases rest with
      | nil => rfl
      | cons q rest' =>
        obtain ⟨b, y⟩ := q
        simp only [poolRising, Bool.and_eq_true, decide_eq_true_eq] at h ⊢
        exact ⟨⟨by omega, h.2.1.2⟩, h.2.2⟩
    unfold poolWrite
    split
    · next hak =>
      simp only [poolRising, Bool.and_eq_true, decide_eq_true_eq]
      exact ⟨⟨h.1.1, h.1.2⟩, ih h.2 (fun l hl => by cases hl; exact hak)⟩
    · split
      · next hak heq =>
        subst heq
        split
        · cases low with
          | none => exact poolRising_weaken h.2
          | some l => exact hrest l (by have := hk l rfl; omega)
        · next hv =>
          simp only [poolRising, Bool.and_eq_true, decide_eq_true_eq]
          exact ⟨⟨h.1.1, hv⟩, h.2⟩
      · next hak hne =>
        have hka : k < a := by omega
        split
        · simp only [poolRising, Bool.and_eq_true, decide_eq_true_eq]
          exact ⟨⟨h.1.1, h.1.2⟩, h.2⟩
        · next hv =>
          simp only [poolRising, Bool.and_eq_true, decide_eq_true_eq]
          refine ⟨⟨?_, hv⟩, ⟨hka, h.1.2⟩, h.2⟩
          cases low with
          | none => rfl
          | some l => simpa using hk l rfl

/-- Every store keeps the canonical form of the Buffer Pool's contents. -/
theorem poolWf_write {pool : List (Nat × CellData)} (k : Nat) (v : CellData)
    (h : poolWf pool = true) : poolWf (poolWrite pool k v) = true :=
  poolRising_write k v h (fun _ hl => by cases hl)

/-- A buffer reads as what was stored in it. -/
theorem poolRead_write_same {low : Option Nat} {pool : List (Nat × CellData)} (k : Nat) (v : CellData)
    (h : poolRising low pool = true) : poolRead (poolWrite pool k v) k = v := by
  induction pool generalizing low with
  | nil =>
    unfold poolWrite
    split
    · next hv => rw [hv]; rfl
    · simp [poolRead]
  | cons p rest ih =>
    obtain ⟨a, x⟩ := p
    simp only [poolRising, Bool.and_eq_true, decide_eq_true_eq] at h
    unfold poolWrite
    split
    · next hak =>
      have : a ≠ k := by omega
      simp only [poolRead, this, if_false]
      exact ih h.2
    · split
      · next hak heq =>
        subst heq
        split
        · next hv => rw [hv]; exact poolRead_below h.2 (Nat.le_refl _)
        · simp [poolRead]
      · next hak hne =>
        split
        · next hv =>
          simp only [poolRead, hne, if_false]
          rw [hv]; exact poolRead_below h.2 (by omega)
        · simp [poolRead]

/-- A store leaves every other buffer as it reads. -/
theorem poolRead_write_other (pool : List (Nat × CellData)) {j k : Nat} (v : CellData)
    (h : j ≠ k) : poolRead (poolWrite pool k v) j = poolRead pool j := by
  have hkj : k ≠ j := fun e => h e.symm
  induction pool with
  | nil =>
    unfold poolWrite
    split
    · rfl
    · simp [poolRead, hkj]
  | cons p rest ih =>
    obtain ⟨a, x⟩ := p
    unfold poolWrite
    (repeat' split) <;> simp_all [poolRead]

/-- The Buffer Pool at power-on is in canonical form. -/
theorem poolWf_powerOn : poolWf MergeUnit.powerOn.pool = true := rfl

/-! ### Byte order -/

@[simp] theorem bytesOf_length (count v : Nat) : (bytesOf count v).length = count := by
  induction count with
  | zero => rfl
  | succ n ih => simp [bytesOf, ih]

@[simp] theorem signedBytesOf_length (count : Nat) (v : Int) :
    (signedBytesOf count v).length = count := by
  simp [signedBytesOf]

/-- Two bytes give back the value they were made from. -/
theorem valueOf_bytesOf_two (v : Nat) (h : v < 65536) : valueOf (bytesOf 2 v) = v := by
  simp [valueOf, bytesOf]; omega

/-- The byte that several record bytes could be called reduces to the one there is. -/
@[simp] theorem blame_single (b : Nat) : blame [b] = b := rfl

end Sys2Proof.Machine
end

