-- ==== Sys2Proof/Laws/Word.lean ====
section
/-! SUPPORT. Reading the fixed-size tables after each way of making one, and the counters that hold
at the top. -/

namespace Sys2Proof

variable {n : Nat} {α : Type}

@[simp] theorem Tab.read_write_same (t : Tab n α) (i : Fin n) (v : α) :
    Tab.read (Tab.write t i v) i = v := by
  simp [Tab.read, Tab.write]

@[simp] theorem Tab.read_write_other (t : Tab n α) {i j : Fin n} (v : α) (h : j ≠ i) :
    Tab.read (Tab.write t i v) j = Tab.read t j := by
  have h' : i.val ≠ j.val := fun e => h (Fin.ext e.symm)
  simp [Tab.read, Tab.write, h']

theorem Tab.read_write (t : Tab n α) (i j : Fin n) (v : α) :
    Tab.read (Tab.write t i v) j = if j = i then v else Tab.read t j := by
  by_cases h : j = i
  · subst h; simp
  · simp [h]

@[simp] theorem Tab.read_modify_same (t : Tab n α) (i : Fin n) (f : α → α) :
    Tab.read (Tab.modify t i f) i = f (Tab.read t i) := by
  simp [Tab.modify]

@[simp] theorem Tab.read_modify_other (t : Tab n α) {i j : Fin n} (f : α → α) (h : j ≠ i) :
    Tab.read (Tab.modify t i f) j = Tab.read t j := by
  simp [Tab.modify, h]

@[simp] theorem Tab.read_fill (v : α) (i : Fin n) : Tab.read (Tab.fill n v) i = v := by
  simp [Tab.read, Tab.fill]

@[simp] theorem Tab.read_build (f : Fin n → α) (i : Fin n) : Tab.read (Tab.build f) i = f i := by
  simp [Tab.read, Tab.build]

/-- Two tables that read alike everywhere are one. -/
theorem Tab.ext_read {t u : Tab n α} (h : ∀ i, Tab.read t i = Tab.read u i) : t = u := by
  refine Vector.ext fun i hi => ?_
  exact h ⟨i, hi⟩

@[simp] theorem Tab.write_read (t : Tab n α) (i : Fin n) : Tab.write t i (Tab.read t i) = t := by
  refine Tab.ext_read fun j => ?_
  rw [Tab.read_write]; split
  · next h => rw [h]
  · rfl

@[simp] theorem Tab.write_write (t : Tab n α) (i : Fin n) (v w : α) :
    Tab.write (Tab.write t i v) i w = Tab.write t i w := by
  refine Tab.ext_read fun j => ?_
  simp only [Tab.read_write]; split <;> rfl

@[simp] theorem mem_allFlows (f : Flow) : f ∈ allFlows := List.mem_finRange f

@[simp] theorem mem_userFlows (f : Flow) : f ∈ userFlows ↔ f ≠ 0 := by
  simp only [userFlows, List.mem_filter, mem_allFlows, true_and, bne_iff_ne, ne_eq, Fin.ext_iff]
  rfl

@[simp] theorem satAdd_zero {w : Nat} (c : BitVec w) : satAdd c 0 = c := by
  have := c.isLt
  apply BitVec.eq_of_toNat_eq
  simp only [satAdd, BitVec.toNat_ofNat, Nat.add_zero]
  rw [Nat.mod_eq_of_lt] <;> omega

theorem satAdd_toNat {w : Nat} (c : BitVec w) (k : Nat) :
    (satAdd c k).toNat = min (c.toNat + k) (2 ^ w - 1) := by
  have : 0 < 2 ^ w := Nat.two_pow_pos w
  simp only [satAdd, BitVec.toNat_ofNat]
  rw [Nat.mod_eq_of_lt]; omega

theorem satAdd_satAdd {w : Nat} (c : BitVec w) (a b : Nat) :
    satAdd (satAdd c a) b = satAdd c (a + b) := by
  apply BitVec.eq_of_toNat_eq
  simp only [satAdd_toNat]; omega

theorem satInc_eq {w : Nat} (c : BitVec w) : satInc c = satAdd c 1 := by
  have hc := c.isLt
  apply BitVec.eq_of_toNat_eq
  rw [satAdd_toNat]
  unfold satInc
  split
  · next h => rw [h, BitVec.toNat_allOnes]; omega
  · next h =>
    have h' : c.toNat ≠ 2 ^ w - 1 := fun e =>
      h (BitVec.eq_of_toNat_eq (by rw [e, BitVec.toNat_allOnes]))
    cases w with
    | zero => omega
    | succ w =>
      have : 1 < 2 ^ (w + 1) := Nat.one_lt_two_pow (by omega)
      have one : BitVec.toNat (1 : BitVec (w + 1)) = 1 := Nat.mod_eq_of_lt this
      rw [BitVec.toNat_add, one, Nat.mod_eq_of_lt] <;> omega

end Sys2Proof
end

