-- ==== Sys2Proof/Laws/Blocks.lean ====
section
/-! SUPPORT. What the shared operations of the blocks do, once each: raising events (R177), the
strikes (R136, R137), the Radio Plan (R71 to R75), the far fibre status (R69), the Skew Unit (R97 to
R105), the hand-over (R144, R145), the transmitters (R58) and the receivers (R88 to R92). -/

namespace Sys2Proof.Machine

/-! ### Raising events -/

theorem EventUnit.raise_read (u : EventUnit) (e : EventId) (d : EventDetail) (n : Fin 20) :
    (u.raise e d).event.read n =
      if n = e.num then EventState.raised d else u.event.read n := by
  simp [EventUnit.raise, Tab.read_write]

@[simp] theorem EventUnit.raise_routineCount (u : EventUnit) (e : EventId) (d : EventDetail) :
    (u.raise e d).routineCount = u.routineCount := rfl

@[simp] theorem EventUnit.raise_raise (u : EventUnit) (e : EventId) (d d' : EventDetail) :
    (u.raise e d).raise e d' = u.raise e d' := by
  simp [EventUnit.raise]

@[simp] theorem State.raise_events (s : State) (e : EventId) (d : EventDetail) :
    (s.raise e d).events = s.events.raise e d := rfl

theorem EventUnit.acknowledge_read (u : EventUnit) (named : Tab 20 Bool) (n : Fin 20) :
    (u.acknowledge named).event.read n =
      if named.read n = true then (u.event.read n).acknowledged else u.event.read n := by
  simp [EventUnit.acknowledge]

theorem EventUnit.takeRaisings_read (u r : EventUnit) (taken : Fin 20 → Bool) (n : Fin 20) :
    (u.takeRaisings r taken).event.read n =
      if ((r.event.read n).flag && taken n) = true then r.event.read n else u.event.read n := by
  simp [EventUnit.takeRaisings]

@[simp] theorem EventUnit.takeRaisings_routineCount (u r : EventUnit) (taken : Fin 20 → Bool) :
    (u.takeRaisings r taken).routineCount = u.routineCount := rfl

/-! ### The Strike Monitor -/

/-- A sample that shows the accepted level changes nothing but the pending change. -/
theorem LineFilter.take_same (l : LineFilter) :
    l.take l.level = ({ l with changePending := false }, false) := by
  simp [LineFilter.take]

/-- A strike needs a LOW accepted level, a pending change and a HIGH sample. -/
theorem LineFilter.take_strikes (l : LineFilter) (sample : Bool) :
    (l.take sample).2 = true ↔ l.level = false ∧ l.changePending = true ∧ sample = true := by
  obtain ⟨level, pending, strikes⟩ := l
  cases level <;> cases pending <;> cases sample <;> simp [LineFilter.take]

theorem LineFilter.take_strikeCount (l : LineFilter) (sample : Bool) :
    (l.take sample).1.strikes = l.strikes := by
  unfold LineFilter.take; (repeat' split) <;> rfl

/-- Samples that complete no strike only move the line filters. -/
theorem State.sampleStrikes_quiet (s : State) (h : s.strike.strikesOf s.pins = (false, false)) :
    s.sampleStrikes = s.withStrike { s.strike with
      lineA := (s.strike.lineA.take s.pins.strikeA).1
      lineB := (s.strike.lineB.take s.pins.strikeB).1 } := by
  simp only [State.sampleStrikes, h]

/-! ### The Radio Plan and the far fibre status -/

theorem RadioPlanner.compute_compute (p : RadioPlanner) (entries : Tab 64 Entry) :
    (p.compute entries).compute entries = p.compute entries := rfl

theorem State.raiseFlows_read (s : State) (e : EventId) (fs : List Flow) (n : Fin 20)
    (h : n ≠ e.num) : (s.raiseFlows e fs).events.event.read n = s.events.event.read n := by
  unfold State.raiseFlows
  split
  · rfl
  · simp [EventUnit.raise_read, h]

@[simp] theorem State.raiseFlows_routineCount (s : State) (e : EventId) (fs : List Flow) :
    (s.raiseFlows e fs).events.routineCount = s.events.routineCount := by
  unfold State.raiseFlows; split <;> rfl

/-- A computation of the plan raises SHED and RESTORE and no other event. -/
theorem State.recomputePlan_read (s : State) (n : Fin 20) (h6 : n ≠ EventId.shed.num)
    (h11 : n ≠ EventId.restore.num) :
    s.recomputePlan.events.event.read n = s.events.event.read n := by
  simp only [State.recomputePlan]
  rw [State.raiseFlows_read _ _ _ _ h11, State.raiseFlows_read _ _ _ _ h6]
  rfl

@[simp] theorem State.recomputePlan_routineCount (s : State) :
    s.recomputePlan.events.routineCount = s.events.routineCount := by
  simp [State.recomputePlan]

/-- The three things a marker's report can do to the far fibre status (R69). -/
theorem State.farReport_cases (s : State) (timed : Bool) :
    (timed = decide (s.planner.farFibre = .present) ∧
      s.farReport timed =
        s.withPlanner { s.planner with markerAbsence := 0, opposingRun := 0 }) ∨
    (timed ≠ decide (s.planner.farFibre = .present) ∧ 1 ≤ s.planner.opposingRun ∧
      s.farReport timed =
        (s.withPlanner { s.planner with
          markerAbsence := 0, farFibre := s.planner.farFibre.other, opposingRun := 0
        }).recomputePlan) ∨
    (timed ≠ decide (s.planner.farFibre = .present) ∧ s.planner.opposingRun = 0 ∧
      s.farReport timed =
        s.withPlanner { s.planner with markerAbsence := 0, opposingRun := 1 }) := by
  by_cases h : timed = decide (s.planner.farFibre = .present)
  · exact Or.inl ⟨h, by simp [State.farReport, h]⟩
  · by_cases h1 : 1 ≤ s.planner.opposingRun
    · exact Or.inr (Or.inl ⟨h, h1, by simp [State.farReport, h, h1]⟩)
    · have h0 : s.planner.opposingRun = 0 := by omega
      exact Or.inr (Or.inr ⟨h, h0, by simp [State.farReport, h, h0]⟩)

/-! ### The Skew Unit -/

@[simp] theorem SkewUnit.withList_same (u : SkewUnit) (b : Bearer) (v : List MarkerEntry) :
    (u.withList b v).list b = v := by
  cases b <;> rfl

@[simp] theorem SkewUnit.withList_other (u : SkewUnit) (b : Bearer) (v : List MarkerEntry) :
    (u.withList b v).list (otherBearer b) = u.list (otherBearer b) := by
  cases b <;> rfl

/-- A Marker List never grows beyond 8 (R97). -/
theorem appendEntry_length (list : List MarkerEntry) (e : MarkerEntry) (h : list.length ≤ 8) :
    (appendEntry list e).length ≤ 8 := by
  unfold appendEntry Config.markerEntries
  split <;> simp <;> omega

/-- Pairing changes one mark and no list's length. -/
theorem pairNewest_length (t : Superframe) (list : List MarkerEntry) (stamp : LinkTime)
    (rest : List MarkerEntry) (h : pairNewest t list = some (stamp, rest)) :
    rest.length = list.length := by
  induction list generalizing rest with
  | nil => simp [pairNewest] at h
  | cons e es ih =>
    unfold pairNewest at h
    split at h
    · simp only [Option.some.injEq, Prod.mk.injEq] at h
      rw [← h.2]; rfl
    · simp only [Option.map_eq_some_iff] at h
      obtain ⟨r, hr, he⟩ := h
      obtain ⟨r1, r2⟩ := r
      simp only [Prod.mk.injEq] at he
      rw [← he.2]
      simp [ih r2 (by rw [hr, he.1])]

/-! ### Egress -/

theorem State.handEntry_room (s : State) (n : Trib) (f : Flow) (e : EgressEntry)
    (h : (s.egress.fifo.read n).length < 64) :
    State.handEntry n f s e = s.withEgress { s.egress with
      fifo := s.egress.fifo.write n (s.egress.fifo.read n ++ [e]) } := by
  simp [State.handEntry, Config.fifoCells, h, EgressPorts.place]

theorem State.handEntry_full (s : State) (n : Trib) (f : Flow) (e : EgressEntry)
    (h : ¬ (s.egress.fifo.read n).length < 64) :
    State.handEntry n f s e = (s.withEgress { s.egress with
      dropCount := s.egress.dropCount.modify f satInc }).raise .egressOverflow
        (.tributaryFlow n f) := by
  simp [State.handEntry, Config.fifoCells, h, EgressPorts.countDrop]

theorem State.handOver_nil (s : State) (n : Trib) (f : Flow) : s.handOver n f [] = s := rfl

theorem State.handOver_cons (s : State) (n : Trib) (f : Flow) (e : EgressEntry)
    (run : List EgressEntry) :
    s.handOver n f (e :: run) = (State.handEntry n f s e).handOver n f run := rfl

/-! ### Transmitters -/

/-- Marking a cell sent leaves the list's length. -/
theorem markSent_length (f : Flow) (list : List BatchCell) :
    (markSent f list).2.length = list.length := by
  induction list with
  | nil => rfl
  | cons c cs ih =>
    unfold markSent
    split <;> simp [ih]

/-- Sending a cell skips nothing. -/
theorem Transmitter.sendOne_skippedCount (t : Transmitter) :
    t.sendOne.skippedCount = t.skippedCount := by
  unfold Transmitter.sendOne Transmitter.sendOf
  (repeat' split) <;> rfl

/-- A marker that stands is sent before anything else (R58). -/
theorem Transmitter.sendOne_marker (t : Transmitter) (m : Marker) (h : t.marker = some m) :
    t.sendOne = { t with marker := none, lane := some (markerCellBytes m) } := by
  simp [Transmitter.sendOne, h]

/-- With nothing to send, an idle cell is sent (R61). -/
theorem Transmitter.sendOne_idle (t : Transmitter) (h : t.marker = none) (hl : t.sendList = []) :
    t.sendOne = { t with lane := some idleCellBytes } := by
  have : t.served = none := by
    have nobody : userFlows.find? (fun _ => false) = none := List.find?_eq_none.mpr (by simp)
    simp [Transmitter.served, hl, hasUnsent, nobody]
  simp [Transmitter.sendOne, h, this]

/-! ### Receivers -/

@[simp] theorem State.withRx_same (s : State) (b : Bearer) (r : Receiver) :
    (s.withRx b r).rx b = r := by
  cases b <;> rfl

@[simp] theorem State.withRx_other (s : State) (b : Bearer) (r : Receiver) :
    (s.withRx b r).rx (otherBearer b) = s.rx (otherBearer b) := by
  cases b <;> rfl

@[simp] theorem State.withRx_withRx (s : State) (b : Bearer) (r r' : Receiver) :
    (s.withRx b r).withRx b r' = s.withRx b r' := by
  cases b <;> rfl

/-- The receiver that starts to be TIMED is the one the choice of source sees. -/
theorem State.chooseSource_mast (s : State) (h : s.role = .mast) :
    s.chooseSource.clock.source = sourceOf (s.timed .fibre) (s.timed .radio) := by
  simp only [State.chooseSource, h, State.withClock_clock, LinkClock.choose]
  split
  · next e => exact e
  · rfl

theorem State.chooseSource_truck (s : State) (h : s.role = .truck) : s.chooseSource = s := by
  simp only [State.chooseSource, h]

/-! ### The bytes of a lane (R79, R91, R92) -/

@[simp] theorem State.leftTimed_rx (s : State) (b c : Bearer) (w : WayOut) :
    (s.leftTimed b w).rx c = s.rx c := by cases c <;> simp [State.rx]

@[simp] theorem State.enterHunt_rx_same (s : State) (b : Bearer) (k : Nat) (w : WayOut) :
    (s.enterHunt b k w).rx b = (s.rx b).enterHunt k := by
  unfold State.enterHunt; (repeat' split) <;> simp

@[simp] theorem State.enterHunt_rx_other (s : State) (b : Bearer) (k : Nat) (w : WayOut) :
    (s.enterHunt b k w).rx (otherBearer b) = s.rx (otherBearer b) := by
  unfold State.enterHunt; (repeat' split) <;> simp

/-- No byte that a command told of is still to arrive. -/
theorem Receiver.arrived_le_nextByte (r : Receiver) (k : Nat) : r.arrived ≤ r.nextByte k := by
  unfold Receiver.nextByte; split <;> omega

/-- At a cell boundary the next byte to arrive is one of the cell that is taken next. -/
theorem Receiver.nextByte_lt (r : Receiver) (k : Nat) (hb : r.boundary ≠ none)
    (h : r.arrived < r.cellBegin + 192) : r.nextByte k < r.cellBegin + 192 := by
  unfold Receiver.nextByte
  split
  · exact absurd ‹_› hb
  · have := Nat.mod_lt k (Nat.sub_pos_of_lt h); omega

/-- After a datapath reset the search stands at the next byte to arrive, and at no other (R92). -/
theorem State.resetReceiver_rx_same (s : State) (b : Bearer) :
    (s.resetReceiver b).rx b =
      { Receiver.powerOn with
        badCount := (s.rx b).badCount
        searchFrom := (s.rx b).nextByte (s.bytesUntold b)
        arrived := (s.rx b).nextByte (s.bytesUntold b) } := by
  simp [State.resetReceiver, Receiver.enterHunt, Receiver.reach]

@[simp] theorem State.resetReceiver_rx_other (s : State) (b : Bearer) :
    (s.resetReceiver b).rx (otherBearer b) = s.rx (otherBearer b) := by
  simp [State.resetReceiver]

end Sys2Proof.Machine
end

