-- ==== Sys2Proof/Laws/Clocking.lean ====
section
/-! SUPPORT. What settling, a superframe start and the entry of a slot do, part by part (R2, R56,
R57, R58, R90, R138, R150). -/

namespace Sys2Proof.Machine

/-! ### Settling -/

theorem State.takeOwed_nil (s : State) (h : s.owed = []) : s.takeOwed = s := by
  unfold State.takeOwed; rw [h]
  show s.withOwed [] = s
  unfold State.withOwed; rw [← h]

theorem State.takeExpiry_idle (s : State) (f : Flow) (h : s.holdExpired f = false) :
    s.takeExpiry f = s := by
  simp [State.takeExpiry, h]

/-- A settled state has nothing to settle. -/
theorem State.settle_settled (s : State) (h : s.settled) : s.settle = s := by
  unfold State.settle
  rw [s.takeOwed_nil h.2.1]
  induction settleOrder with
  | nil => rfl
  | cons f fs ih => rw [List.foldl_cons, s.takeExpiry_idle f (h.2.2 f), ih]

/-! ### Shares of a start -/

theorem State.shareOrOwe_quiet (s : State) (now : Bool) (o : OwedStart) :
    s.shareOrOwe false now o = s.takeShare o := by
  simp [State.shareOrOwe]

theorem State.stormStart_timer (s : State) (h : s.strike.ending = false) :
    s.stormStart = s.withStrike { s.strike with timer :=
      match s.strike.timer with
      | .stopped => .stopped
      | .running n => .running (n - 1) } := by
  cases e : s.strike.timer with
  | stopped => simp only [State.stormStart, e]; rw [← e]; rfl
  | running n =>
    have : ¬ n ≤ 1 := by simpa [StrikeMonitor.ending, e] using h
    simp [State.stormStart, e, this]

theorem State.tallyStart_timer (s : State) (sf : Superframe) (h : s.tally.ending = false) :
    s.tallyStart sf = s.withTally { s.tally with timer :=
      match s.tally.timer with
      | .stopped => .stopped
      | .running n => .running (n - 1)
      | .expired => .expired } := by
  unfold State.tallyStart
  split
  · next n hn =>
    have : ¬ n ≤ 1 := by simpa [TallyUnit.ending, hn] using h
    simp [hn, this]
  · next h =>
    rw [h]; show s = s.withTally { s.tally with timer := .stopped }
    rw [← h]; rfl
  · next h =>
    rw [h]; show s = s.withTally { s.tally with timer := .expired }
    rw [← h]; rfl

theorem State.receiverStart_quiet (s : State) (b : Bearer) (h : (s.rx b).ending = false) :
    s.receiverStart b = s.withRx b { s.rx b with
      markerAbsence := (s.rx b).markerAbsence + if s.timed b = true then 1 else 0 } := by
  unfold State.receiverStart State.timed
  dsimp only
  by_cases ht : (s.rx b).state = .timed
  · have : ¬ 3 ≤ (s.rx b).markerAbsence + 1 := by simpa [Receiver.ending, ht] using h
    simp [ht, this]
  · simp only [ht, if_false, beq_iff_eq]
    cases b <;> rfl

/-! ### Link time -/

@[simp] theorem State.setTime_clock (s : State) (t : LinkTime) :
    (s.setTime t).clock = { s.clock with time := t } := rfl

/-- One slot on within a superframe. -/
theorem LinkTime.advance_one (t : LinkTime) (h : t.slot ≠ 1535) :
    t.advance 1 = ⟨t.sf, t.slot + 1⟩ := by
  have h1 : t.slot.val ≠ 1535 := fun e => h (Fin.ext e)
  have h2 := t.slot.isLt
  have e : ((t.slot.val : Int) + 1) / 1536 = 0 := by omega
  unfold LinkTime.advance
  simp only [e]
  congr 1
  simp [BitVec.ofInt_natCast]

/-- One slot on from the last slot of a superframe. -/
theorem LinkTime.advance_one_wrap (t : LinkTime) (h : t.slot = 1535) :
    t.advance 1 = ⟨t.sf + 1, 0⟩ := by
  unfold LinkTime.advance
  simp only [h]
  congr 1

/-! ### The blocks' shares of a superframe start -/

theorem State.swapAtStart_table (s : State) (n : Superframe) :
    (s.swapAtStart n).1.table =
      if s.table.pendingSwap = some n then s.table.swapped else s.table := by
  unfold State.swapAtStart
  split
  · next x hx =>
    by_cases h : x = n
    · simp [h, hx, State.executeSwap, State.raise]
    · simp [h, hx]
  · next hx => simp [hx]

theorem State.recomputePlan_planner (s : State) :
    s.recomputePlan.planner = s.planner.compute s.table.activeBank := by
  simp [State.recomputePlan, State.raiseFlows_planner]

theorem State.recomputeIf_grade (s : State) (due : Bool) :
    (s.recomputeIf due).planner.grade = s.planner.grade := by
  cases due <;> simp [State.recomputeIf, State.recomputePlan_planner, RadioPlanner.compute]

theorem State.gradeTakesEffect_grade (s : State) :
    s.gradeTakesEffect.1.planner.grade = s.planner.awaiting.getD s.planner.grade := by
  unfold State.gradeTakesEffect
  split <;> next h => simp [h]

theorem RadioPlanner.countAbsence_kept (p : RadioPlanner) :
    p.countAbsence.1.grade = p.grade ∧ p.countAbsence.1.awaiting = p.awaiting := by
  unfold RadioPlanner.countAbsence; dsimp only; split <;> exact ⟨rfl, rfl⟩

theorem State.absenceAtStart_kept (s : State) :
    s.absenceAtStart.1.planner.grade = s.planner.grade ∧
    s.absenceAtStart.1.planner.awaiting = s.planner.awaiting := by
  exact s.planner.countAbsence_kept

theorem State.planAtStart_grade (s : State) (n : Superframe) :
    (s.planAtStart n).planner.grade = s.planner.awaiting.getD s.planner.grade := by
  simp only [State.planAtStart, State.recomputeIf_grade, State.gradeTakesEffect_grade,
    State.swapAtStart_planner, s.absenceAtStart_kept]

theorem State.planAtStart_table (s : State) (n : Superframe) :
    (s.planAtStart n).table =
      if s.table.pendingSwap = some n then s.table.swapped else s.table := by
  simp only [State.planAtStart, State.recomputeIf_table, State.gradeTakesEffect_table,
    State.swapAtStart_table, State.absenceAtStart_table]
  rfl

/-- At a start at which nothing ends, each timer and absence is only counted. -/
theorem State.timersAtStart_quiet (s : State) (n : Superframe) (hs : s.strike.ending = false)
    (ht : s.tally.ending = false) (hf : s.fibreRx.ending = false) (hr : s.radioRx.ending = false) :
    s.timersAtStart n =
      (((s.stormStart).tallyStart n).receiverStart .fibre).receiverStart .radio := by
  have hr' : (((s.stormStart).tallyStart n).receiverStart .fibre).radioRx.ending = false := by
    rw [State.receiverStart_quiet _ _ (by simpa [State.rx] using hf)]
    simpa [State.withRx] using hr
  simp only [State.timersAtStart, hs, State.shareOrOwe_quiet, State.takeShare,
    State.stormStart_tally, ht, State.tallyStart_fibreRx, State.stormStart_fibreRx, hf, hr']

theorem RadioPlanner.takeSample_kept (p : RadioPlanner) (d u : Nat) (storm : Bool) (g : Grade) :
    (p.takeSample d u storm g).grade = p.grade ∧ (p.takeSample d u storm g).plan = p.plan ∧
    (p.takeSample d u storm g).farFibre = p.farFibre := by
  unfold RadioPlanner.takeSample RadioPlanner.sampleBelow RadioPlanner.sampleAbove
    RadioPlanner.clearRuns
  (repeat' split) <;> exact ⟨rfl, rfl, rfl⟩

/-! ### What is on the lanes -/

/-- Joining cells to a send list touches nothing else of the transmitter. -/
theorem Transmitter.addCells_kept (t : Transmitter) (here : Bool) (cells : List BatchCell) :
    (t.addCells here cells).marker = t.marker ∧
    (t.addCells here cells).skippedCount = t.skippedCount ∧
    (t.addCells here cells).usedSlots = t.usedSlots := by
  cases here <;> exact ⟨rfl, rfl, rfl⟩

theorem State.batchCells_tx (s : State) (b : Bearer) (f : Flow) (p : Protection)
    (ds : List CellData) :
    ((s.batchCells f p ds).tx b).marker = (s.tx b).marker ∧
    ((s.batchCells f p ds).tx b).skippedCount = (s.tx b).skippedCount ∧
    ((s.batchCells f p ds).tx b).usedSlots = (s.tx b).usedSlots := by
  cases b <;> simp [State.tx, State.batchCells, Transmitter.addCells_kept]

theorem State.formBatch_tx (s : State) (b : Bearer) (f : Flow) :
    ((s.formBatch f).tx b).marker = (s.tx b).marker ∧
    ((s.formBatch f).tx b).skippedCount = (s.tx b).skippedCount ∧
    ((s.formBatch f).tx b).usedSlots = (s.tx b).usedSlots := by
  have tr (x : EntryFields) (n : Trib) : (s.tributaryBatch f x n).tx b =
      ((s.withIngress (s.ingress.remove (s.mgmt.settings.watermark.read n) n
        (min x.rate (s.ingress.fifo.read n).length))).batchCells f x.protection
        ((s.ingress.fifo.read n).take (min x.rate (s.ingress.fifo.read n).length))).tx b := by
    cases b <;> simp [State.tributaryBatch, State.tx]
  have ta (x : EntryFields) : (s.tallyBatch f x).tx b =
      (s.batchCells f x.protection [s.tallyCell]).tx b := by
    cases b <;> simp [State.tallyBatch, State.tx]
  unfold State.formBatch
  (repeat' split)
  · exact ⟨rfl, rfl, rfl⟩
  · rw [tr]; simpa [State.tx] using State.batchCells_tx (s.withIngress _) b f _ _
  · rw [ta]; exact State.batchCells_tx s b f _ _
  · exact ⟨rfl, rfl, rfl⟩

theorem State.formBatches_tx (s : State) (b : Bearer) :
    (s.formBatches.tx b).marker = (s.tx b).marker ∧
    (s.formBatches.tx b).skippedCount = (s.tx b).skippedCount ∧
    (s.formBatches.tx b).usedSlots = (s.tx b).usedSlots := by
  unfold State.formBatches
  induction userFlows generalizing s with
  | nil => exact ⟨rfl, rfl, rfl⟩
  | cons f fs ih =>
    rw [List.foldl_cons]
    have h := ih (s.formBatch f)
    have g := s.formBatch_tx b f
    exact ⟨h.1.trans g.1, h.2.1.trans g.2.1, h.2.2.trans g.2.2⟩

theorem State.flow0Batch_tx (s : State) (b : Bearer) :
    (s.flow0Batch.tx b).marker = (s.tx b).marker ∧
    (s.flow0Batch.tx b).skippedCount = (s.tx b).skippedCount ∧
    (s.flow0Batch.tx b).usedSlots = (s.tx b).usedSlots := by
  unfold State.flow0Batch
  have h := State.batchCells_tx
    (s.withMgmt { s.mgmt with flow0Queue := s.mgmt.flow0Queue.drop 8 }) b 0 .both
    (s.mgmt.flow0Queue.take 8)
  have e : (s.withMgmt { s.mgmt with flow0Queue := s.mgmt.flow0Queue.drop 8 }).tx b = s.tx b := by
    cases b <;> rfl
  rw [e] at h; exact h

theorem State.drainAndPlace_tx (s : State) (b : Bearer) (far : Option CellData) (first : Bool) :
    ((s.drainAndPlace far first).tx b).marker = (s.tx b).marker ∧
    ((s.drainAndPlace far first).tx b).skippedCount = (s.tx b).skippedCount ∧
    ((s.drainAndPlace far first).tx b).usedSlots = (s.tx b).usedSlots := by
  have p (u : State) (c : CellData) : (u.placeFlow0 .notice c).tx b = u.tx b := by
    cases b <;> simp [State.tx]
  unfold State.drainAndPlace
  (repeat' split)
  · exact s.flow0Batch_tx b
  · next cell _ =>
    have h := (s.placeFlow0 .notice cell).flow0Batch_tx b
    rw [p] at h; exact h
  · rw [p]; exact s.flow0Batch_tx b

/-! ### The superframe start as a whole -/

/-- What a superframe start works on once the owed shares are taken and the Event Unit is set to
collect. -/
def State.collectingStart (s : State) (n : Superframe) : State :=
  let s0 := s.takeOwed.withClock { s.takeOwed.clock with lastStarted := n }
  s0.withEvents s0.events.collecting

/-- The blocks that the report at a start leaves alone stand as the blocks' shares leave them. -/
theorem State.superframeStart_shares (s : State) (n : Superframe) (c : Bool) :
    let u := (s.collectingStart n).sharesAtStart n
    let t := s.superframeStart n c
    t.clock = u.clock ∧ t.table = u.table ∧ t.ingress = u.ingress ∧ t.planner = u.planner ∧
    t.fibreRx = u.fibreRx ∧ t.radioRx = u.radioRx ∧ t.skew = u.skew ∧ t.merge = u.merge ∧
    t.strike = u.strike ∧ t.tally = u.tally ∧ t.owed = u.owed ∧
    t.mgmt.settings = u.mgmt.settings ∧
    (∀ b : Bearer, (t.tx b).marker = (u.tx b).marker ∧
      (t.tx b).skippedCount = (u.tx b).skippedCount ∧ (t.tx b).usedSlots = (u.tx b).usedSlots) := by
  intro u t
  have ht : ∃ (v : State) (far : Option CellData) (first : Bool) (e : EventUnit),
      t = (v.drainAndPlace far first).withEvents e ∧
      v.clock = u.clock ∧ v.table = u.table ∧ v.ingress = u.ingress ∧ v.planner = u.planner ∧
      v.fibreRx = u.fibreRx ∧ v.radioRx = u.radioRx ∧ v.skew = u.skew ∧ v.merge = u.merge ∧
      v.strike = u.strike ∧ v.tally = u.tally ∧ v.owed = u.owed ∧
      v.mgmt.settings = u.mgmt.settings ∧ v.fibreTx = u.fibreTx ∧ v.radioTx = u.radioTx := by
    refine ⟨_, _, _, _, rfl, ?_⟩
    have js (w : State) : (w.judge n).1.mgmt.settings = w.mgmt.settings := by
      unfold State.judge; dsimp only
      split
      · unfold State.placeNear; split
        · rfl
        · simp only [State.placePort]; split <;> rfl
      · rfl
    cases c <;> simp [js, u, State.collectingStart]
  obtain ⟨v, far, first, e, ht, h⟩ := ht
  rw [ht]
  have dm : (v.drainAndPlace far first).mgmt.settings = v.mgmt.settings := by
    unfold State.drainAndPlace
    (repeat' split) <;> simp only [State.placeFlow0, State.flow0Batch, State.batchCells] <;>
      (repeat' split) <;> rfl
  refine ⟨by simp [h], by simp [h], by simp [h], by simp [h], by simp [h], by simp [h],
    by simp [h], by simp [h], by simp [h], by simp [h], by simp [h],
    dm.trans h.2.2.2.2.2.2.2.2.2.2.2.1, fun b => ?_⟩
  have hv : v.tx b = u.tx b := by cases b <;> simp [State.tx, h]
  have := v.drainAndPlace_tx b far first
  rw [hv] at this
  cases b <;> exact this

/-- The marker that the Fibre Transmitter holds once the batches of a start are formed. -/
theorem State.opened_marker (s : State) (n : Superframe) :
    ((s.openTransmitters n).formBatches).fibreTx.marker = some (s.buildMarker n) := by
  have h := ((s.openTransmitters n).formBatches_tx .fibre).1
  have e : (s.openTransmitters n).fibreTx.marker = some (s.buildMarker n) := by
    simp [State.openTransmitters]
  simpa only [State.tx, e] using h

/-- The skipped counts once the batches of a start are formed. -/
theorem State.opened_skipped (s : State) (n : Superframe) (b : Bearer) (f : Flow) :
    (((s.openTransmitters n).formBatches).tx b).skippedCount.read f =
      satAdd ((s.tx b).skippedCount.read f) (unsentOf (s.tx b).sendList f) := by
  rw [((s.openTransmitters n).formBatches_tx b).2.1]
  cases b <;> simp [State.tx, State.openTransmitters, Transmitter.openSuperframe]

/-- A swap at a start brings no tally-loss timer to its last superframe. -/
theorem State.planAtStart_tally_ending (s : State) (n : Superframe) (h : s.tally.ending = false)
    (hl : 2 ≤ s.mgmt.settings.tallyLoss) : (s.planAtStart n).tally.ending = false := by
  have key (g : Bool) : (s.tally.atSwap g s.mgmt.settings.tallyLoss).ending = false := by
    unfold TallyUnit.atSwap
    (repeat' split)
    · simp [TallyUnit.ending]; omega
    · exact h
    · rfl
  unfold State.planAtStart State.swapAtStart
  simp only [State.recomputeIf_tally, State.gradeTakesEffect_tally]
  (repeat' split)
  · simpa [State.executeSwap] using key _
  · simpa using h
  · simpa using h

/-- The shares of a start at which nothing ends: what each block then holds. -/
theorem State.sharesAtStart_quiet (s : State) (n : Superframe) (hs : s.strike.ending = false)
    (hf : s.fibreRx.ending = false) (hr : s.radioRx.ending = false)
    (ht : (s.planAtStart n).tally.ending = false) :
    let u := s.sharesAtStart n
    u.clock = s.clock ∧ u.skew = s.skew ∧ u.owed = s.owed ∧
    u.table = (if s.table.pendingSwap = some n then s.table.swapped else s.table) ∧
    u.planner.grade = s.planner.awaiting.getD s.planner.grade ∧
    u.strike = { s.strike with timer := match s.strike.timer with
      | .stopped => .stopped
      | .running k => .running (k - 1) } ∧
    (∀ b : Bearer, u.rx b = { s.rx b with
      markerAbsence := (s.rx b).markerAbsence + if s.timed b = true then 1 else 0 }) ∧
    (u.fibreTx.marker = some ⟨n, s.timed .fibre, s.timed .radio,
      s.planner.awaiting.getD s.planner.grade⟩) ∧
    ∀ (b : Bearer) (f : Flow), (u.tx b).skippedCount.read f =
      satAdd ((s.tx b).skippedCount.read f) (unsentOf (s.tx b).sendList f) := by
  intro u
  have e : u = (((((s.planAtStart n).timersAtStart n).sampleGrade).openTransmitters n).formBatches) :=
    rfl
  rw [State.timersAtStart_quiet _ _ (by simpa using hs) ht (by simpa using hf) (by simpa using hr)]
    at e
  have hst : (s.planAtStart n).strike.ending = false := by simpa using hs
  rw [State.stormStart_timer _ hst,
    State.tallyStart_timer _ _ (by simpa using ht)] at e
  generalize (s.planAtStart n).tally.timer = timer at e
  have hp := s.planAtStart_grade n
  have hv : ∀ v : State, v.rx .fibre = s.rx .fibre → v.rx .radio = s.rx .radio →
      (v.receiverStart .fibre).receiverStart .radio =
        (v.withRx .fibre { s.rx .fibre with
          markerAbsence := (s.rx .fibre).markerAbsence + if s.timed .fibre = true then 1 else 0 }
        ).withRx .radio { s.rx .radio with
          markerAbsence := (s.rx .radio).markerAbsence + if s.timed .radio = true then 1 else 0 } := by
    intro v h1 h2
    have t1 : v.timed .fibre = s.timed .fibre := by simp [State.timed, h1]
    have t2 (x : Receiver) : (v.withRx .fibre x).timed .radio = s.timed .radio := by
      simpa [State.timed, State.withRx, State.rx] using congrArg (fun r => r.state == .timed) h2
    have r2 (x : Receiver) : (v.withRx .fibre x).rx .radio = s.rx .radio := by
      simpa [State.withRx, State.rx] using h2
    rw [State.receiverStart_quiet _ .fibre (by rw [h1]; exact hf),
      State.receiverStart_quiet _ .radio (by rw [r2]; exact hr), t2, r2, t1, h1]
  rw [hv _ (by simp [State.rx]) (by simp [State.rx])] at e
  refine ⟨?_, ?_, ?_, ?_, ?_, ?_, ?_, ?_, ?_⟩
  all_goals rw [e]
  · simp
  · simp
  · simp
  · simp [State.planAtStart_table]
  · simp [State.sampleGrade, RadioPlanner.takeSample_kept, hp]
  · simp
  · intro b; cases b <;> simp [State.rx, State.withRx]
  · rw [State.opened_marker]
    simp [State.buildMarker, State.timed, State.rx, State.withRx, State.sampleGrade,
      RadioPlanner.takeSample_kept, hp]
  · intro b f
    rw [State.opened_skipped]
    cases b <;> simp [State.tx]

end Sys2Proof.Machine
end

