-- ==== Sys2Proof/Laws/Holds.lean ====
section
/-! SUPPORT. What the judging of the holds does (R123, R124): what a hold's expiry depends on, and what
is kept of it at each moment that judges it. -/

namespace Sys2Proof.Machine

/-! ### What an expiry depends on -/

/-- A hold expires at a lowest held cell of a RUNNING window that is held long enough (R123). -/
theorem State.expiryDue_iff (s : State) (f : Flow) :
    s.expiryDue f = true ↔ ∃ x r rest, s.receiving f = some x ∧
      (s.merge.window.read f).held = r :: rest ∧ (s.merge.window.read f).running = true ∧
      s.holdTimeOf x ≤ age s.clock.time r.stamp := by
  cases hx : s.receiving f with
  | none => simp [State.expiryDue, hx]
  | some x =>
    cases hh : (s.merge.window.read f).held with
    | nil => simp [State.expiryDue, hx, hh]
    | cons r rest => simp [State.expiryDue, State.holdOver, hx, hh]

/-- An expiry depends on the flow's window, its entry as this end receives it, the inputs of H and the
link time alone (R107, R123). -/
theorem State.expiryDue_congr {s t : State} (f : Flow)
    (hw : t.merge.window.read f = s.merge.window.read f) (hx : t.receiving f = s.receiving f)
    (hk : t.skew.skewTerm = s.skew.skewTerm) (hj : t.skew.j = s.skew.j) (hg : t.guard = s.guard)
    (ht : t.clock.time = s.clock.time) : t.expiryDue f = s.expiryDue f := by
  have hh : t.holdTimeOf = s.holdTimeOf := by funext x; simp only [State.holdTimeOf, hk, hj, hg]
  rw [Bool.eq_iff_iff, State.expiryDue_iff, State.expiryDue_iff, hw, hx, hh, ht]

/-- What is kept of the holds has no part in judging them. -/
@[simp] theorem State.expiryDue_withExpired (s : State) (e : Tab 64 Bool) (f : Flow) :
    (s.withExpired e).expiryDue f = s.expiryDue f := rfl

/-! ### What is kept of it -/

/-- Judging every hold keeps what was found and adds what is found now. -/
@[simp] theorem State.judgeHolds_read (s : State) (f : Flow) :
    s.judgeHolds.expired.read f = s.holdExpired f := by
  simp [State.judgeHolds]

/-- A second judging at the same moment finds nothing more. -/
@[simp] theorem State.judgeHolds_holdExpired (s : State) (f : Flow) :
    s.judgeHolds.holdExpired f = s.holdExpired f := by
  rw [State.holdExpired, State.judgeHolds_read, State.judgeHolds, State.expiryDue_withExpired]
  simp [State.holdExpired]

/-- An event of flow `f`'s window judges its own hold and leaves what is kept of the others. -/
theorem State.followHold_read (s : State) (before : MergeUnit) (f g : Flow) :
    (s.followHold before f).expired.read g =
      if g = f then s.holdFollowed before f else s.expired.read g := by
  simp [State.followHold, Tab.read_write]

/-- A change of windows and entries together judges every hold. -/
@[simp] theorem State.followHolds_read (s : State) (before : MergeUnit) (f : Flow) :
    (s.followHolds before).expired.read f = s.holdFollowed before f := by
  simp [State.followHolds]

end Sys2Proof.Machine
end

