-- ==== Sys2Proof/Laws/Management.lean ====
section
/-! SUPPORT. What placing a cell in a management queue and answering a command can do (R157, R159,
R162, R163), and what the tests of origin let through (R161). -/

namespace Sys2Proof.Machine

/-! ### Placing a cell -/

theorem State.placePort_room (s : State) (kind : RecordKind) (cell : CellData)
    (h : s.mgmt.portQueue.length < 16) :
    s.placePort kind cell =
      { s with mgmt := { s.mgmt with portQueue := s.mgmt.portQueue ++ [cell] } } := by
  simp [State.placePort, joinQueue, Config.queueCells, h, State.withMgmt]

theorem State.placePort_full (s : State) (kind : RecordKind) (cell : CellData)
    (h : ¬ s.mgmt.portQueue.length < 16) :
    s.placePort kind cell =
      { s with
        mgmt := { s.mgmt with portDrops := satInc s.mgmt.portDrops }
        events := s.events.raise .mgmtDrop (.dropped .port kind) } := by
  simp [State.placePort, joinQueue, Config.queueCells, h, State.withMgmt, State.raise,
    State.withEvents]

theorem State.placeFlow0_room (s : State) (kind : RecordKind) (cell : CellData)
    (h : s.mgmt.flow0Queue.length < 16) :
    s.placeFlow0 kind cell =
      { s with mgmt := { s.mgmt with flow0Queue := s.mgmt.flow0Queue ++ [cell] } } := by
  simp [State.placeFlow0, joinQueue, Config.queueCells, h, State.withMgmt]

theorem State.placeFlow0_full (s : State) (kind : RecordKind) (cell : CellData)
    (h : ¬ s.mgmt.flow0Queue.length < 16) :
    s.placeFlow0 kind cell =
      { s with
        mgmt := { s.mgmt with flow0Drops := satInc s.mgmt.flow0Drops }
        events := s.events.raise .mgmtDrop (.dropped .flow0 kind) } := by
  simp [State.placeFlow0, joinQueue, Config.queueCells, h, State.withMgmt, State.raise,
    State.withEvents]

/-! ### Answering -/

theorem paddedCell_len (k : Nat) (bytes : List Byte) : (paddedCell k bytes).len = bytes.length := rfl

theorem paddedCell_record (k : Nat) (bytes : List Byte) : (paddedCell k bytes).record = bytes := by
  simp [paddedCell, CellData.record]

theorem paddedCell_payload_length (k : Nat) (bytes : List Byte) (h : bytes.length ≤ 180) :
    (paddedCell k bytes).payload.length = 180 := by
  simp [paddedCell, payloadBytes]; omega

theorem joined_paddedCell (k : Nat) (old : List CellData) (bytes : List Byte)
    (h : bytes.length ≤ 180) : joined old (old ++ [paddedCell k bytes]) bytes :=
  ⟨_, paddedCell_record k bytes, paddedCell_len k bytes, paddedCell_payload_length k bytes h, rfl⟩

theorem Status.isRefusal_iff (x : Status) : x.isRefusal = true ↔ x ≠ .ok ∧ x ≠ .none := by
  cases x <;> simp [Status.isRefusal]

theorem responseRecord_length (tag number : Byte) (r : Reply) :
    (responseRecord tag number r).length = 10 + r.results.length := by
  simp [responseRecord, zeroBytes]; omega

/-- A response placed in the queue of its origin, once the refusal of a far command is raised. -/
theorem State.answer_answered (s : State) (o : Origin) (tag number : Byte) (r : Reply)
    (hr : r.results.length ≤ 170) :
    Answered (s.noteRefusal o number r.status) (s.answer o tag number r) o
      (responseRecord tag number r) := by
  have hl : (responseRecord tag number r).length ≤ 180 := by
    rw [responseRecord_length]; omega
  unfold State.answer
  generalize hs : s.noteRefusal o number r.status = u
  cases o with
  | near =>
    by_cases h : u.mgmt.portQueue.length < 16
    · refine ⟨u.mgmt.portQueue ++ [paddedCell s.occasion (responseRecord tag number r)], ?_⟩
      simp only [h, if_true, State.placeResponse, State.placePort_room _ _ _ h]
      exact ⟨joined_paddedCell _ _ _ hl, rfl⟩
    · refine ⟨[], ?_⟩
      simp only [h, if_false, State.placeResponse, State.placePort_full _ _ _ h]
      rfl
  | far =>
    by_cases h : u.mgmt.flow0Queue.length < 16
    · refine ⟨u.mgmt.flow0Queue ++ [paddedCell s.occasion (responseRecord tag number r)], ?_⟩
      simp only [h, if_true, State.placeResponse, State.placeFlow0_room _ _ _ h]
      exact ⟨joined_paddedCell _ _ _ hl, rfl⟩
    · refine ⟨[], ?_⟩
      simp only [h, if_false, State.placeResponse, State.placeFlow0_full _ _ _ h]
      rfl

/-- A command answered OK or NONE raises nothing of its own. -/
theorem State.noteRefusal_none (s : State) (o : Origin) (number : Byte) (x : Status)
    (h : x = .ok ∨ x = .none) : s.noteRefusal o number x = s := by
  cases o <;> rcases h with rfl | rfl <;> rfl

theorem State.noteRefusal_near (s : State) (number : Byte) (x : Status) :
    s.noteRefusal .near number x = s := rfl

theorem State.noteRefusal_far (s : State) (number : Byte) (x : Status) (h : x.isRefusal = true) :
    s.noteRefusal .far number x =
      { s with events := s.events.raise .farRefused (.refused number x) } := by
  simp [State.noteRefusal, h, State.raise, State.withEvents]

/-- A response with no detail has the plain record. -/
theorem responseRecord_plain (tag number : Byte) (status : Status) (clamped : Bool)
    (results : List Byte) :
    responseRecord tag number ⟨status, clamped, [], results⟩ =
      plainRecord tag number status.number (if clamped = true then 1 else 0) results := by
  simp [responseRecord, plainRecord, zeroBytes, RecordKind.number, flagByte, List.replicate]

/-! ### A command that passes the tests of origin -/

theorem ManagementUnit.refusal_near (m : ManagementUnit) (c : Command) : m.refusal .near c = none :=
  rfl

/-- A command that no test of origin turns away is carried out by its block and answered. -/
theorem State.carryOut_passed (s : State) (o : Origin) (tag : Byte) (c : Command)
    (h : s.mgmt.refusal o c = none) :
    s.carryOut o tag c = (s.run c).2.answer o tag c.number (s.run c).1 := by
  simp [State.carryOut, h]

/-- A command that a test of origin turns away is answered with that status alone. -/
theorem State.carryOut_refused (s : State) (o : Origin) (tag : Byte) (c : Command) (x : Status)
    (h : s.mgmt.refusal o c = some x) :
    s.carryOut o tag c = s.answer o tag c.number (Reply.bare x) := by
  simp [State.carryOut, h]

/-- A command carried out whose reply is OK with no detail: what it did, then its response. -/
theorem State.carryOut_ok (s u : State) (o : Origin) (tag : Byte) (c : Command) (clamped : Bool)
    (results : List Byte) (h : s.mgmt.refusal o c = none)
    (hrun : s.run c = (Reply.okClamped clamped results, u)) (hl : results.length ≤ 170) :
    Answered u (s.carryOut o tag c) o (clampedRecord tag c.number clamped results) := by
  rw [State.carryOut_passed _ _ _ _ h, hrun]
  have := State.answer_answered u o tag c.number (Reply.okClamped clamped results)
    (by simpa [Reply.okClamped] using hl)
  have quiet := State.noteRefusal_none u o c.number (Reply.okClamped clamped results).status
    (Or.inl rfl)
  rw [quiet] at this
  simpa [Reply.okClamped, responseRecord_plain, clampedRecord, Status.number] using this

end Sys2Proof.Machine
end

