-- ==== Sys2Proof/Laws/Merge.lean ====
section
/-! SUPPORT. What the operations on a Merge Window do (R114 to R130): what a release, a loss, a
drain of the held list and a flush leave alone, and how a drain goes on. -/

namespace Sys2Proof.Machine

/-! ### Single releases and losses -/

@[simp] theorem MergeTurn.loseTo_window (m : MergeTurn) (fills : Bool) (q : Seq) :
    (m.loseTo fills q).window = { m.window with next := q } := rfl

@[simp] theorem MergeTurn.loseTo_pool (m : MergeTurn) (fills : Bool) (q : Seq) :
    (m.loseTo fills q).pool = m.pool := rfl

@[simp] theorem MergeTurn.loseTo_free (m : MergeTurn) (fills : Bool) (q : Seq) :
    (m.loseTo fills q).free = m.free := rfl

@[simp] theorem MergeTurn.releaseHeld_window (m : MergeTurn) (r : HeldRecord) :
    (m.releaseHeld r).window = { m.window with next := r.sequence + 1 } := rfl

@[simp] theorem MergeTurn.releaseHeld_pool (m : MergeTurn) (r : HeldRecord) :
    (m.releaseHeld r).pool = m.pool := rfl

@[simp] theorem MergeTurn.releaseHeld_free (m : MergeTurn) (r : HeldRecord) :
    (m.releaseHeld r).free = r.buffer :: m.free := rfl

@[simp] theorem MergeTurn.releaseHeld_out (m : MergeTurn) (r : HeldRecord) :
    (m.releaseHeld r).out = m.out ++ [.cell (poolRead m.pool r.buffer.val)] := rfl

/-- A released cell changes no count but the first count of its bearer. -/
theorem MergeCounts.released_kept (c : MergeCounts) (b : Bearer) :
    (c.released b).lost = c.lost ∧ (c.released b).fill = c.fill ∧
    (c.released b).redundant = c.redundant ∧ (c.released b).stale = c.stale ∧
    (c.released b).forced = c.forced ∧ (c.released b).jump = c.jump ∧
    (c.released b).staleFlush = c.staleFlush ∧ (c.released b).flushed = c.flushed ∧
    (c.released b).starved = c.starved := by
  cases b <;> exact ⟨rfl, rfl, rfl, rfl, rfl, rfl, rfl, rfl, rfl⟩

/-! ### How a drain goes on -/

theorem MergeTurn.drain_nil (fills : Bool) (givenUp : HeldRecord → Bool) (m : MergeTurn) :
    m.drain fills givenUp [] = { m with window := { m.window with held := [] } } := rfl

/-- A lowest held cell that carries N is released. -/
theorem MergeTurn.drain_next (fills : Bool) (givenUp : HeldRecord → Bool) (m : MergeTurn)
    (r : HeldRecord) (rs : List HeldRecord) (h : r.sequence = m.window.next) :
    m.drain fills givenUp (r :: rs) = (m.releaseHeld r).drain fills givenUp rs := by
  simp [MergeTurn.drain, h]

/-- The gap before a lowest held cell is given up and the cell released. -/
theorem MergeTurn.drain_gap (fills : Bool) (givenUp : HeldRecord → Bool) (m : MergeTurn)
    (r : HeldRecord) (rs : List HeldRecord) (h : r.sequence ≠ m.window.next)
    (hg : givenUp r = true) :
    m.drain fills givenUp (r :: rs) =
      ((m.loseTo fills r.sequence).releaseHeld r).drain fills givenUp rs := by
  simp [MergeTurn.drain, h, hg]

/-- A lowest held cell that neither carries N nor is given up stays. -/
theorem MergeTurn.drain_stays (fills : Bool) (givenUp : HeldRecord → Bool) (m : MergeTurn)
    (r : HeldRecord) (rs : List HeldRecord) (h : r.sequence ≠ m.window.next)
    (hg : givenUp r = false) :
    m.drain fills givenUp (r :: rs) = { m with window := { m.window with held := r :: rs } } := by
  simp [MergeTurn.drain, h, hg]

/-- What a drain leaves alone, and where its released cells' buffers go. -/
theorem MergeTurn.drain_kept (fills : Bool) (givenUp : HeldRecord → Bool) (m : MergeTurn)
    (held : List HeldRecord) :
    let t := m.drain fills givenUp held
    t.window.running = m.window.running ∧ t.window.staleRun = m.window.staleRun ∧
    t.pool = m.pool ∧
    ∃ gone : List HeldRecord, held = gone ++ t.window.held ∧
      t.free = (gone.map HeldRecord.buffer).reverse ++ m.free := by
  induction held generalizing m with
  | nil => exact ⟨rfl, rfl, rfl, [], rfl, rfl⟩
  | cons r rs ih =>
    intro t
    by_cases h : r.sequence = m.window.next
    · have e : t = (m.releaseHeld r).drain fills givenUp rs := m.drain_next fills givenUp r rs h
      obtain ⟨a, b, c, gone, hg, hf⟩ := ih (m.releaseHeld r)
      rw [e]
      refine ⟨a, b, c, r :: gone, by rw [List.cons_append, ← hg], ?_⟩
      simp [hf]
    · by_cases hg : givenUp r = true
      · have e : t = ((m.loseTo fills r.sequence).releaseHeld r).drain fills givenUp rs :=
          m.drain_gap fills givenUp r rs h hg
        obtain ⟨a, b, c, gone, hh, hf⟩ := ih ((m.loseTo fills r.sequence).releaseHeld r)
        rw [e]
        refine ⟨a, b, c, r :: gone, by rw [List.cons_append, ← hh], ?_⟩
        simp [hf]
      · have e : t = { m with window := { m.window with held := r :: rs } } :=
          m.drain_stays fills givenUp r rs h (by simpa using hg)
        rw [e]
        exact ⟨rfl, rfl, rfl, [], rfl, rfl⟩

/-- A drain that gives up every gap leaves nothing held. -/
theorem MergeTurn.drain_all (fills : Bool) (m : MergeTurn) (held : List HeldRecord) :
    (m.drain fills (fun _ => true) held).window.held = [] := by
  induction held generalizing m with
  | nil => rfl
  | cons r rs ih =>
    by_cases h : r.sequence = m.window.next
    · rw [m.drain_next fills _ r rs h]; exact ih _
    · rw [m.drain_gap fills _ r rs h rfl]; exact ih _

/-! ### Holding and flushing -/

/-- A record put among the held ones is one more of them. -/
theorem insertHeld_perm (n : Seq) (r : HeldRecord) (held : List HeldRecord) :
    (insertHeld n r held).Perm (r :: held) := by
  induction held with
  | nil => exact List.Perm.refl _
  | cons x xs ih =>
    unfold insertHeld
    split
    · exact List.Perm.refl _
    · exact (List.Perm.cons x ih).trans (List.Perm.swap r x xs)

/-- A flush returns the buffers in sequence order, the last on top. -/
theorem MergeTurn.flush_free (m : MergeTurn) :
    m.flush.free = (m.window.held.map HeldRecord.buffer).reverse ++ m.free := by
  have key : ∀ (l : List HeldRecord) (free : List BufferNo),
      l.foldl (fun free r => r.buffer :: free) free =
        (l.map HeldRecord.buffer).reverse ++ free := by
    intro l
    induction l with
    | nil => intro free; rfl
    | cons r rs ih => intro free; simp [ih]
  exact key _ _

@[simp] theorem MergeTurn.flush_window (m : MergeTurn) :
    m.flush.window = ⟨false, m.window.next, [], 0⟩ := rfl

@[simp] theorem MergeTurn.flush_pool (m : MergeTurn) : m.flush.pool = m.pool := rfl

/-! ### One flow's event in the Merge Unit -/

@[simp] theorem MergeUnit.done_window (u : MergeUnit) (f : Flow) (m : MergeTurn) :
    (u.done f m).window = u.window.write f m.window := rfl

@[simp] theorem MergeUnit.done_counts (u : MergeUnit) (f : Flow) (m : MergeTurn) :
    (u.done f m).counts = u.counts.write f m.counts := rfl

@[simp] theorem MergeUnit.done_unrouted (u : MergeUnit) (f : Flow) (m : MergeTurn) :
    (u.done f m).unrouted = u.unrouted := rfl

/-- A flush of one flow leaves every other window and its counts alone. -/
theorem MergeUnit.flushFlow_other (u : MergeUnit) (f g : Flow) (h : g ≠ f) :
    (u.flushFlow f).window.read g = u.window.read g ∧
    (u.flushFlow f).counts.read g = u.counts.read g := by
  simp [MergeUnit.flushFlow, h]

theorem MergeUnit.flushFlow_same (u : MergeUnit) (f : Flow) :
    (u.flushFlow f).window.read f = ⟨false, (u.window.read f).next, [], 0⟩ ∧
    (u.flushFlow f).counts.read f = { u.counts.read f with
      flushed := satAdd (u.counts.read f).flushed (u.window.read f).held.length } := by
  simp [MergeUnit.flushFlow, MergeTurn.flush, MergeUnit.turn]

/-- Flushing some flows leaves the windows of all others alone. -/
theorem MergeUnit.flushFlows_other (u : MergeUnit) (flows : List Flow) (g : Flow)
    (h : g ∉ flows) : (u.flushFlows flows).window.read g = u.window.read g ∧
    (u.flushFlows flows).counts.read g = u.counts.read g := by
  unfold MergeUnit.flushFlows
  induction flows generalizing u with
  | nil => exact ⟨rfl, rfl⟩
  | cons f fs ih =>
    simp only [List.mem_cons, not_or] at h
    rw [List.foldl_cons]
    have a := ih (u.flushFlow f) h.2
    have b := u.flushFlow_other f g h.1
    exact ⟨a.1.trans b.1, a.2.trans b.2⟩

end Sys2Proof.Machine
end

