-- ==== Sys2Proof/Laws/PerInstr.lean ====
section
/-! SUPPORT. What is said row by row of the table: the record that carries a management command is read
back as that command, with every operand at every value (R185). -/

namespace Sys2Proof.Machine

theorem Command.record_byte3 (c : Command) (tag target : Byte) :
    byteAt (c.record tag target) 3 = c.number := rfl

theorem readCommandRecord_record (c : Command) (tag target : Byte) :
    readCommandRecord (c.record tag target) = .command c := by
  cases c with
  | writeEntry bank flow fields =>
    have r := fields.rate.isLt
    have d := fields.depth.isLt
    obtain ⟨state, endpoint, cls, protection, rate, rank, margin, depth⟩ := fields
    simp [readCommandRecord, Command.record, Command.operandBytes, Command.number, rawEntryBytes,
      byteAt, operandWidths, missingOperand, commandOf, rawEntryOperand, slice, bytesOf, valueOf]
    constructor <;> apply BitVec.eq_of_toNat_eq <;> simp <;> omega
  | swapAt target' =>
    have t := target'.isLt
    simp [readCommandRecord, Command.record, Command.operandBytes, Command.number, byteAt,
      operandWidths, missingOperand, commandOf, slice, bytesOf, valueOf]
    apply BitVec.eq_of_toNat_eq; simp; omega
  | setSetting name index value =>
    have t := value.isLt
    simp [readCommandRecord, Command.record, Command.operandBytes, Command.number, byteAt,
      operandWidths, missingOperand, commandOf, slice, bytesOf, valueOf]
    apply BitVec.eq_of_toNat_eq; simp; omega
  | ackEvents events =>
    have t := events.isLt
    simp [readCommandRecord, Command.record, Command.operandBytes, Command.number, byteAt,
      operandWidths, missingOperand, commandOf, slice, bytesOf, valueOf]
    apply BitVec.eq_of_toNat_eq; simp; omega
  | setTally object mask lamps =>
    have h : lampOperands ([1, tag, target, 18, object, mask] ++ (List.finRange 8).map lamps.read) =
        lamps := by
      refine Tab.ext_read fun i => ?_
      simp only [lampOperands, Tab.read_build, byteAt]
      fin_cases i <;> rfl
    simp [readCommandRecord, Command.record, Command.operandBytes, Command.number, byteAt,
      operandWidths, missingOperand, commandOf]
    simpa using h
  | _ =>
    simp [readCommandRecord, Command.record, Command.operandBytes, Command.number, byteAt,
      operandWidths, missingOperand, commandOf]

end Sys2Proof.Machine

namespace Sys2Proof.Laws.RecordReadsBack

open Sys2Proof.Machine

/-- The record of a command whose row is `i`, whatever its target, is read as that command. -/
def Statement (i : Instr) : Prop :=
  ∀ (c : Command) (o : Origin) (tag target : Byte), c.row o tag = some i →
    byteAt (c.record tag target) 1 = tag ∧ readCommandRecord (c.record tag target) = .command c

theorem every (i : Instr) : Statement i := fun c _ tag target _ =>
  ⟨rfl, readCommandRecord_record c tag target⟩

theorem resetAssert : Statement (.resetAssert) := every _
theorem resetRelease (role : Role) (pins : Pins) : Statement (.resetRelease role pins) := every _
theorem slotEntry (pins : Pins) : Statement (.slotEntry pins) := every _
theorem refEdge (pins : Pins) : Statement (.refEdge pins) := every _
theorem farMarkerAbsence : Statement (.farMarkerAbsence) := every _
theorem markerAbsenceExpiry (bearer : Bearer) : Statement (.markerAbsenceExpiry bearer) := every _
theorem stormEnd : Statement (.stormEnd) := every _
theorem tallyLoss : Statement (.tallyLoss) := every _
theorem tributaryCellArrival (trib : Trib) (payload : List Byte) (len : Nat) :
    Statement (.tributaryCellArrival trib payload len) := every _
theorem egressTake (trib : Trib) : Statement (.egressTake trib) := every _
theorem mgmtPortCell (payload : List Byte) (len : Nat) :
    Statement (.mgmtPortCell payload len) := every _
theorem mgmtPortTake : Statement (.mgmtPortTake) := every _
theorem huntCandidateFound (bearer : Bearer) (position : Nat) (header : List Byte) :
    Statement (.huntCandidateFound bearer position header) := every _
theorem receivedCell (bearer : Bearer) (cell : List Byte) (pins : Pins) :
    Statement (.receivedCell bearer cell pins) := every _
theorem holdExpiry (flow : Flow) : Statement (.holdExpiry flow) := every _
theorem identify (origin : Origin) (tag : Byte) : Statement (.identify origin tag) := every _
theorem readEntry (origin : Origin) (tag : Byte) (bank flow : Byte) :
    Statement (.readEntry origin tag bank flow) := every _
theorem writeEntry (origin : Origin) (tag : Byte) (bank flow : Byte) (fields : RawEntry) :
    Statement (.writeEntry origin tag bank flow fields) := every _
theorem clearEntry (origin : Origin) (tag : Byte) (bank flow : Byte) :
    Statement (.clearEntry origin tag bank flow) := every _
theorem copyEntries (origin : Origin) (tag : Byte) (source destination first count : Byte) :
    Statement (.copyEntries origin tag source destination first count) := every _
theorem checkShadow (origin : Origin) (tag : Byte) : Statement (.checkShadow origin tag) := every _
theorem swapAt (origin : Origin) (tag : Byte) (target : BitVec 16) :
    Statement (.swapAt origin tag target) := every _
theorem cancelSwap (origin : Origin) (tag : Byte) : Statement (.cancelSwap origin tag) := every _
theorem readFlowCounts (origin : Origin) (tag : Byte) (flow clear : Byte) :
    Statement (.readFlowCounts origin tag flow clear) := every _
theorem readBearer (origin : Origin) (tag : Byte) (bearer clear : Byte) :
    Statement (.readBearer origin tag bearer clear) := every _
theorem readLink (origin : Origin) (tag : Byte) : Statement (.readLink origin tag) := every _
theorem setSetting (origin : Origin) (tag : Byte) (name index : Byte) (value : BitVec 16) :
    Statement (.setSetting origin tag name index value) := every _
theorem readSettings (origin : Origin) (tag : Byte) :
    Statement (.readSettings origin tag) := every _
theorem setWindow (origin : Origin) (tag : Byte) (low high : Byte) :
    Statement (.setWindow origin tag low high) := every _
theorem freezeWindow (origin : Origin) (tag : Byte) :
    Statement (.freezeWindow origin tag) := every _
theorem setBar (origin : Origin) (tag : Byte) : Statement (.setBar origin tag) := every _
theorem clearBar (origin : Origin) (tag : Byte) : Statement (.clearBar origin tag) := every _
theorem setTallySource (origin : Origin) (tag : Byte) (mask : Byte) (lamps : Tab 8 Byte) :
    Statement (.setTallySource origin tag mask lamps) := every _
theorem setTallyOverride (origin : Origin) (tag : Byte) (mask : Byte) (lamps : Tab 8 Byte) :
    Statement (.setTallyOverride origin tag mask lamps) := every _
theorem clearTallyOverride (origin : Origin) (tag : Byte) :
    Statement (.clearTallyOverride origin tag) := every _
theorem readEvents (origin : Origin) (tag : Byte) : Statement (.readEvents origin tag) := every _
theorem ackEvents (origin : Origin) (tag : Byte) (events : BitVec 24) :
    Statement (.ackEvents origin tag events) := every _
theorem flushTributary (origin : Origin) (tag : Byte) (trib : Byte) :
    Statement (.flushTributary origin tag trib) := every _
theorem resetDatapath (origin : Origin) (tag : Byte) :
    Statement (.resetDatapath origin tag) := every _
theorem egressReadyChange (trib : Trib) (ready : Bool) :
    Statement (.egressReadyChange trib ready) := every _

end Sys2Proof.Laws.RecordReadsBack
end

