-- ==== Sys2Proof/WellFormed.lean ====
section
/-! DEFINITION. When a command is one the part can be given: a payload has 180 bytes (R42, R185), a
received cell has 192 and a header 12 (R79, R81). Every other operand is in range by its type; an
operand value that the spec calls undefined is well formed, since the part answers it. -/

namespace Sys2Proof

/-- The command can be given to the part. -/
def Instr.wf : Instr → Bool
  | .tributaryCellArrival _ payload _ => payload.length == 180
  | .mgmtPortCell payload _ => payload.length == 180
  | .huntCandidateFound _ _ header => header.length == 12
  | .receivedCell _ cell _ => cell.length == 192
  | .resetAssert | .resetRelease .. | .slotEntry _ | .refEdge _ | .farMarkerAbsence
  | .markerAbsenceExpiry _ | .stormEnd | .tallyLoss | .egressTake _ | .mgmtPortTake
  | .holdExpiry _ | .identify .. | .readEntry .. | .writeEntry .. | .clearEntry ..
  | .copyEntries .. | .checkShadow .. | .swapAt .. | .cancelSwap .. | .readFlowCounts ..
  | .readBearer .. | .readLink .. | .setSetting .. | .readSettings .. | .setWindow ..
  | .freezeWindow .. | .setBar .. | .clearBar .. | .setTallySource .. | .setTallyOverride ..
  | .clearTallyOverride .. | .readEvents .. | .ackEvents .. | .flushTributary ..
  | .resetDatapath .. | .egressReadyChange .. => true

end Sys2Proof
end

