-- ==== Sys2Proof/Tests/Slice0.lean ====
section
/-! SUPPORT. Tests on small states: the smoke test of well-formedness, the spec's worked cases, and for
every obligation with hypotheses a state and operands that meet them, with what the spec says
follows there. -/

set_option Elab.async false

namespace Sys2Proof.Machine

/-! ### Small states -/

/-- The state a command leads to, or the state itself when it leads to none. -/
def after (c : Instr) (s : State) : State :=
  match exec c s with
  | .next t => t
  | _ => s

/-- A command completes. -/
def completes (c : Instr) (s : State) : Bool :=
  match exec c s with
  | .next _ => true
  | _ => false

/-- A part that runs in the given role, everything else at power-on and every device ready. -/
def rig (role : Role) : State :=
  State.powerOn false role ⟨false, false, 0⟩ (Tab.fill 8 true) 0 []

/-- A state with an entry in its active bank 0. -/
def State.putEntry (s : State) (f : Flow) (e : Entry) : State :=
  s.withTable { s.table with bank0 := s.table.bank0.write f e }

/-- A state with a Merge Window of a flow. -/
def State.putWindow (s : State) (f : Flow) (w : MergeWindow) : State :=
  s.withMerge { s.merge with window := s.merge.window.write f w }

/-- A state at a link time. -/
def State.at_ (s : State) (sf : Superframe) (slot : Slot) : State := s.setTime ⟨sf, slot⟩

/-- A receiver in a state that has a cell boundary. -/
def rxIn (state : RxState) : Receiver :=
  { Receiver.powerOn with state := state, boundary := some 192, arrived := 192 }

/-- The inbound entry of the worked flow 21 (07_the_merge.md). -/
def entry21 : EntryFields :=
  { endpoint := .trib 3, cls := .sound, protection := .both, rate := 2, rank := 0, margin := 16,
    depth := 8 }

/-- A cell of 180 bytes that carries `n` bytes. -/
def cellOf (n : Nat) : CellData := ⟨zeroBytes 180, n⟩

/-- The TRUCK of the worked sequence of flow 21, at a link time. -/
def truck21 (sf : Superframe) (slot : Slot) : State :=
  let s := ((rig .truck).putEntry 21 (.used .inbound entry21)).at_ sf slot
  let t := s.withSkew { s.skew with valid := true, e := 43905, j := 10 }
  (t.withFibreRx (rxIn .timed)).withRadioRx (rxIn .timed)

/-- Buffers 40 to 44 on top of the stack. -/
def State.withStack (s : State) (free : List BufferNo) : State :=
  s.withMerge { s.merge with free := free }

/-! ### Well-formedness -/

theorem test_wf_tributary_payload_short :
    (Instr.tributaryCellArrival 0 (zeroBytes 179) 10).wf = false := by decide +kernel
theorem test_wf_port_payload_long : (Instr.mgmtPortCell (zeroBytes 181) 10).wf = false := by decide +kernel
theorem test_wf_header_short : (Instr.huntCandidateFound .fibre 0 (zeroBytes 11)).wf = false := by
  decide +kernel
theorem test_wf_cell_short : (Instr.receivedCell .radio (zeroBytes 191) ⟨false, false, 0⟩).wf = false := by
  decide +kernel
theorem test_wf_full_sizes :
    (Instr.tributaryCellArrival 0 (zeroBytes 180) 181).wf = true ∧
    (Instr.receivedCell .radio (zeroBytes 192) ⟨false, false, 0⟩).wf = true ∧
    (Instr.huntCandidateFound .fibre 0 (zeroBytes 12)).wf = true ∧
    (Instr.readEntry .far 0 255 255).wf = true := by decide +kernel

/-- No word spells a command, since the table gives no row any bits. -/
theorem test_no_word : decodeTableWord 8 5 = none := by decide

/-! ### Link time (01_link_time.md, Worked Differences) -/

theorem test_difference_plain : difference ⟨1024, 1201⟩ ⟨1022, 1530⟩ = 2743 := by decide
theorem test_difference_over_the_wrap : difference ⟨3, 10⟩ ⟨4090, 1500⟩ = 12334 := by decide
theorem test_difference_negative : difference ⟨100, 5⟩ ⟨102, 700⟩ = -3767 := by decide
theorem test_ages : age ⟨0, 20⟩ ⟨4095, 1400⟩ = 156 ∧ age ⟨790, 50⟩ ⟨812, 300⟩ = 0 := by decide

/-- δ = 2 takes (1021, 1535) over slot 0 to (1022, 1) (01_link_time.md, R13). -/
theorem test_advance_over_slot_zero : LinkTime.advance ⟨1021, 1535⟩ 2 = ⟨1022, 1⟩ := by decide

/-! ### Cell headers (R184) -/

/-- The published check value of this register and polynomial over "123456789" (CRC-8/LTE). -/
theorem test_header_check_published :
    headerCheck [0x31, 0x32, 0x33, 0x34, 0x35, 0x36, 0x37, 0x38, 0x39] = 0xEA := by decide +kernel

theorem test_header_flipped_bit :
    framingTest (markerCellBytes ⟨2202, true, false, 15⟩) = true ∧
    framingTest ((markerCellBytes ⟨2202, true, false, 15⟩).set 6 0x9B) = false := by
  decide +kernel

/-- A grade above 15 and a superframe number above 4095 fail the content test (R184). -/
theorem test_content_out_of_range :
    contentTest (headerBytes 2 0 0 [0x0F, 0xFF, 0, 16] 0) = none ∧
    contentTest (headerBytes 2 0 0 [0x10, 0x00, 0, 15] 0) = none ∧
    contentTest (headerBytes 1 5 9 [0, 0, 0, 0] 181) = none ∧
    contentTest (headerBytes 1 5 9 [0, 0, 0, 0] 180) = some (.data 5 9 180) ∧
    contentTest (headerBytes 0 0 0 [0, 0, 0, 0] 0) = none := by decide

/-! ### Radio slots (R59), the grade filter and the plan (04_radio_grade_and_the_radio_plan.md) -/

/-- At grade 1 the radio slots fall at fibre slots 0, 48, 96, … (03, Worked Superframe). -/
theorem test_radio_slots_grade_one :
    radioSlotDue 1 0 0 = true ∧ radioSlotDue 1 1 47 = false ∧ radioSlotDue 1 1 48 = true ∧
    radioSlotDue 1 31 1488 = true ∧ radioSlotDue 1 32 1535 = false ∧ radioSlotDue 0 0 0 = false := by
  decide

/-- The filter of the worked grade sequence: superframe starts 101 to 104. -/
theorem test_grade_filter :
    let p := { RadioPlanner.powerOn with grade := 6 }
    let p101 := p.takeSample 2 16 false 4
    let p102 := p101.takeSample 2 16 false 7
    let p104 := (p102.takeSample 2 16 false 4).takeSample 2 16 false 3
    (p101.downRun, p101.upRun, p102.downRun, p102.upRun, p102.upLeast) = (1, 0, 0, 1, some 7) ∧
    (p104.downRun, p104.awaiting) = (0, some 3) := by decide

/-- The up run is held at 0 under STORM (worked grade sequence, start 120). -/
theorem test_grade_storm :
    ({ RadioPlanner.powerOn with grade := 3, upRun := 15, upLeast := some 4 }.takeSample 2 16 true 6
      ).upRun = 0 := by decide

def planEntry (p : Protection) (rank rate : Nat) : Entry :=
  .used .outbound { endpoint := .trib 0, cls := .data, protection := p, rate := rate, rank := rank,
                    margin := 16, depth := 256 }

def planBank : Tab 64 Entry :=
  (((powerOnBank.write 3 (planEntry .both 0 40)).write 5 (planEntry .bothShed 1 100)).write 6
    (planEntry .bothShed 2 60)).write 7 (planEntry .fibreSwitch 0 300)

/-- The four cases of the worked plan. -/
theorem test_worked_plans :
    let plan (g : Grade) (far : FarFibre) :=
      let p := { RadioPlanner.powerOn with grade := g, farFibre := far }.compute planBank
      (p.plan, p.usable, p.fixedDemand, p.plannedDemand, p.overcommit)
    plan 6 .present = ([5], 183, 40, 140, false) ∧ plan 4 .present = ([6], 119, 40, 100, false) ∧
    plan 15 .present = ([5, 6], 471, 40, 200, false) ∧
    plan 15 .lost = ([5, 7], 471, 40, 440, false) := by decide +kernel

/-! ### Skew and hold time (06_skew_and_hold_time.md, Worked Case) -/

theorem test_skew_filter :
    let u := (((({ SkewUnit.powerOn with valid := false }.accept 2743).accept 2751).accept 2735
      ).accept 2753).accept 2744
    (u.valid, u.e, u.j) = (true, 43905, 10) := by decide

theorem test_hold_time_21 :
    (truck21 4000 10).holdTimeOf entry21 = 2771 := by decide +kernel

/-! ### The queue of commands, reset -/

/-- Witness of `StepTakesFrontCommand`'s use: a command leaves the queue and is carried out. -/
theorem test_step_takes_front :
    (match step ((rig .mast).withPending [.setBar .near 9, .clearBar .near 10]) with
      | .next t => (t.mgmt.bar, t.pending)
      | _ => (false, [])) = (true, [.clearBar .near 10]) := by decide +kernel

theorem test_step_idles : (match step State.reset with
    | .next t => decide (t.clock = State.reset.clock ∧ t.events = State.reset.events ∧ t.occasion = 0)
    | _ => false) = true := by decide +kernel

/-- Power-on reset takes back a window and a count. -/
theorem test_reset_assert :
    let s := (truck21 4000 10).putWindow 21 ⟨true, 700, [], 3⟩
    let t := after .resetAssert s
    (t.inReset, t.merge.window.read 21, t.skew.valid, t.fibreRx.state, t.clock.time) =
      (true, ⟨false, 0, [], 0⟩, false, .hunt, ⟨0, 0⟩) := by decide +kernel

/-- Witness of `ResetReleaseStartsSuperframeZero`: the reset state, in either role. -/
theorem witness_reset_release :
    State.reset.inReset = true ∧
    (after (.resetRelease .truck ⟨true, false, 5⟩) State.reset).fibreTx.lane =
      some (markerCellBytes ⟨0, false, false, 0⟩) ∧
    (after (.resetRelease .truck ⟨true, false, 5⟩) State.reset).planner.upRun = 1 ∧
    (after (.resetRelease .truck ⟨true, false, 5⟩) State.reset).strike.lineA = ⟨true, false, 0⟩ ∧
    (after (.resetRelease .mast ⟨false, false, 0⟩) State.reset).planner.upRun = 0 ∧
    (after (.resetRelease .mast ⟨false, false, 0⟩) State.reset).events = EventUnit.powerOn := by
  decide +kernel

/-! ### Slots and superframe starts -/

/-- Witness of `DifferenceOfLinkTimes`: its range's two ends and the half of the wrap. -/
theorem witness_difference :
    difference (LinkTime.advance ⟨4095, 1535⟩ 3145727) ⟨4095, 1535⟩ = 3145727 ∧
    difference (LinkTime.advance ⟨0, 0⟩ (-3145728)) ⟨0, 0⟩ = -3145728 ∧
    (2048 : Superframe) = 0 + 2048 ∧ difference ⟨2048, 7⟩ ⟨0, 7⟩ = -3145728 ∧
    difference ⟨0, 7⟩ ⟨2048, 7⟩ = -3145728 := by decide

/-- Witness of `UsedRadioSlotsOfASuperframe`: 1536 slots are a whole superframe. -/
theorem witness_used_radio_slots : (1536 : Nat) ≤ 1536 ∧ (1536 * 15 + 47) / 48 = 32 * 15 := by decide

/-- Witness of `SlotEntryWithinSuperframe`, within a superframe and into slot 0 of one that has been
started (R2). -/
theorem witness_slot_entry :
    let s := (rig .truck).at_ 2200 47
    let z := (rig .truck).at_ 4095 1535
    (s.settled ∧ s.clock.time.slot ≠ 1535 ∧
      s.strike.strikesOf ⟨true, false, 3⟩ = (false, false)) ∧
    (z.settled ∧ z.clock.time.sf + 1 = z.clock.lastStarted) ∧
    (after (.slotEntry ⟨true, false, 3⟩) s).clock.time = ⟨2200, 48⟩ ∧
    (after (.slotEntry ⟨true, false, 3⟩) s).strike.lineA = ⟨false, true, 0⟩ ∧
    (after (.slotEntry ⟨true, false, 3⟩) s).fibreTx.lane = some idleCellBytes ∧
    (after (.slotEntry ⟨false, false, 3⟩) z).clock.time = ⟨0, 0⟩ ∧
    (after (.slotEntry ⟨false, false, 3⟩) z).planner.upRun = 0 ∧
    (after (.slotEntry ⟨false, false, 3⟩) z).fibreTx.lane = some idleCellBytes := by
  unfold State.settled; decide +kernel

/-- Witness of the slot arbiter in `SlotEntryWithinSuperframe`: flow 0 before the others, then the round
from after flow 5 over 63 to 5 itself, then the idle cell (R58). -/
theorem witness_send_one :
    let cell (f : Flow) (q : Seq) (sent : Bool) : BatchCell := ⟨f, q, cellOf 9, sent⟩
    let t (list : List BatchCell) : Transmitter :=
      { Transmitter.powerOn with sendList := list, turn := 5 }
    let a := t [cell 5 8 false, cell 3 4 false, cell 0 7 true, cell 0 9 false]
    (a.sendOne.turn, a.sendOne.lane) = (5, some (dataCellBytes 0 9 (cellOf 9))) ∧
    (a.sendOne.sendOne.turn, a.sendOne.sendOne.lane) = (3, some (dataCellBytes 3 4 (cellOf 9))) ∧
    a.sendOne.sendOne.sendOne.turn = 5 ∧
    a.sendOne.sendOne.sendOne.sendOne.lane = some idleCellBytes ∧
    a.sendOne.sendOne.sendOne.sentCount.read 5 = 1 ∧
    { a with marker := some ⟨9, true, true, 3⟩ }.sendOne.lane =
      some (markerCellBytes ⟨9, true, true, 3⟩) := by decide +kernel

/-- Witness of `SlotEntryTakesAStrike` (08, Worked Sequence: the second high sample in a row): line A alone
and both lines, within a superframe and at a superframe start, no storm running and one with one
superframe left; and line B's strike. -/
theorem witness_strike :
    let r := (rig .truck).at_ 119 699
    let s (b : LineFilter) (timer : StormTimer) (slot : Slot) :=
      (r.withStrike { r.strike with lineA := ⟨false, true, 4⟩, lineB := b, timer := timer }).at_ 119 slot
    let pins : Pins := ⟨true, true, 0⟩
    (∀ b ∈ [(⟨false, true, 0⟩ : LineFilter), ⟨true, false, 0⟩],
      ∀ timer ∈ [StormTimer.stopped, .running 1], ∀ slot ∈ [(699 : Slot), 1535],
      (s b timer slot).settled ∧ ((s b timer slot).strike.lineA.take true).2 = true ∧
      (s b timer slot).clock.time.sf + 1 ≠ (s b timer slot).clock.lastStarted) ∧
    (⟨false, true, 0⟩ : LineFilter).take true = (⟨true, false, 0⟩, true) ∧
    ((⟨true, false, 0⟩ : LineFilter).take true).2 = false ∧
    (after (.slotEntry pins) (s ⟨true, false, 0⟩ .stopped 699)).strike.timer = .running 122880 ∧
    (after (.slotEntry pins) (s ⟨true, false, 0⟩ .stopped 699)).strike.stormStrikes = 1 ∧
    (after (.slotEntry ⟨false, true, 0⟩) (s ⟨false, true, 6⟩ (.running 1) 699)).strike.lineB =
      ⟨true, false, 7⟩ := by
  unfold State.settled; decide +kernel

/-- A TRUCK in the last slot of superframe 10 with its reports OFF, a swap pending for superframe 11, two
cells waiting for flow 21 at tributary 3 and one for flow 0, and a grade awaiting. -/
def starting : State :=
  let r := (rig .truck).at_ 10 1535
  let t := r.withTable { r.table with
    bank1 := r.table.bank1.write 21 (.used .outbound { entry21 with rate := 1 })
    pendingSwap := some 11 }
  let p := t.withPlanner { t.planner with awaiting := some 3 }
  (p.withIngress { p.ingress with
      fifo := p.ingress.fifo.write 3 [cellOf 1, cellOf 2] }).withMgmt
    { p.mgmt with
      flow0Queue := [cellOf 7], settings := { p.mgmt.settings with reportEnable := false } }

/-- Witness of `SlotEntryStartsSuperframe` and of `RefEdgeStartsNextSuperframe`: the swap, the grade and
the batches of the start stand in both. -/
theorem witness_superframe_start :
    let s := starting
    let pins : Pins := ⟨false, true, 6⟩
    let t := after (.slotEntry pins) s
    (s.settled ∧ s.clock.time.slot = 1535 ∧ s.clock.time.sf + 1 ≠ s.clock.lastStarted ∧
      s.quietStart pins ∧ s.role = .truck ∧ s.clock.time.slot ≠ 0 ∧ s.table.lawful) ∧
    (t.clock.time, t.table.active, t.planner.grade, t.events.routineCount) = (⟨11, 0⟩, .bank1, 3, 1) ∧
    t.fibreTx.sendList = [⟨21, 0, cellOf 1, false⟩, ⟨0, 0, cellOf 7, false⟩] ∧
    t.ingress.fifo.read 3 = [cellOf 2] ∧ t.mgmt.flow0Queue = [] ∧
    (after (.refEdge pins) (s.at_ 10 1)).clock.time = ⟨11, 0⟩ ∧
    (after (.refEdge pins) (s.at_ 10 1)).radioTx.sendList =
      [⟨21, 0, cellOf 1, false⟩, ⟨0, 0, cellOf 7, false⟩] := by
  unfold State.settled State.quietStart TableControl.lawful; decide +kernel

/-- The clause on the report in `SlotEntryStartsSuperframe`: a ROUTINE event whose interval runs out at
this start, enabled and not MGMT-DROP (R176, R179). -/
theorem witness_report_waits :
    let r := (rig .truck).raise .radioUp (.superframe 9)
    let s := r.withEvents { r.events with routineCount := 63 }
    s.reportWaits 9 ∧ (9 : Fin 20) ≠ EventId.mgmtDrop.num ∧
    (rig .mast).mgmt.settings.reportEnable = true ∧ (rig .mast).mgmt.settings.reportNear = true ∧
    s.mgmt.portQueue.length < 16 := by
  unfold State.reportWaits; decide +kernel

/-- The settings, timers and counts of the states of these witnesses are in range, a storm in its last
superframe among them. -/
theorem witness_ranges_kept : (rig .truck).rangesKept ∧ starting.rangesKept ∧
    ((rig .truck).withStrike { (rig .truck).strike with timer := .running 1 }).rangesKept := by
  refine ⟨⟨?_, trivial, trivial, ?_⟩, ⟨?_, trivial, trivial, ?_⟩, ?_, ⟨by decide, by decide⟩, trivial, ?_⟩
  · unfold Settings.inRange; decide +kernel
  · decide +kernel
  · unfold Settings.inRange; decide +kernel
  · decide +kernel
  · unfold Settings.inRange; decide +kernel
  · decide +kernel

/-- Witness of the second part of `RefEdgeStartsNextSuperframe`. -/
theorem witness_ref_edge_ignored :
    (rig .mast).role = .mast ∧ ((rig .truck).at_ 7 0).clock.time.slot = 0 ∧
    State.reset.inReset = true ∧
    (after (.refEdge ⟨false, false, 0⟩) ((rig .mast).at_ 7 9)).clock.time = ⟨7, 9⟩ := by
  decide +kernel

/-! ### Timers and absences -/

/-- Witness of `FarMarkerAbsenceRestoresFarFibre`: the start that brings the absence to 3, for both
statuses, and the states in which the row is nothing. -/
theorem witness_far_absence :
    let base (far : FarFibre) :=
      starting.withPlanner { starting.planner with
        markerAbsence := 2, farFibre := far, opposingRun := 1 }
    (∀ far ∈ [FarFibre.lost, .present], (base far).settled ∧ (base far).quietStart (base far).pins ∧
      (base far).planner.markerAbsence = 2 ∧ (base far).clock.time.slot = 1535 ∧
      (base far).clock.time.sf + 1 ≠ (base far).clock.lastStarted) ∧
    (starting.planFresh ∧ (base .lost).planFresh) ∧
    (after .farMarkerAbsence (base .lost)).planner.farFibre = .present ∧
    (after .farMarkerAbsence (base .lost)).planner.markerAbsence = 3 ∧
    (after .farMarkerAbsence (base .lost)).planner.opposingRun = 0 ∧
    (after .farMarkerAbsence (base .lost)).clock.time = ⟨11, 0⟩ ∧
    (after .farMarkerAbsence starting).clock.time = ⟨10, 1535⟩ ∧
    (after .farMarkerAbsence ((base .lost).at_ 10 9)).planner.markerAbsence = 2 := by
  unfold State.settled State.quietStart State.planFresh; decide +kernel

/-- Witness of `MarkerAbsenceExpiryLeavesTimed` (05, Worked Sequence, event 23). -/
theorem witness_marker_absence :
    let r := (rig .mast).withFibreRx { rxIn .timed with markerAbsence := 2 }
    let s := (r.withClock { r.clock with source := some .fibre }).withOwed [.storm, .receiver .fibre]
    (s.inReset = false ∧
      splitOwed (fun o => o == .receiver .fibre) s.owed = some (.receiver .fibre, [.storm]) ∧
      (s.rx .fibre).state = .timed ∧ (s.rx .fibre).markerAbsence = 2) ∧
    (after (.markerAbsenceExpiry .fibre) s).fibreRx.state = .aligned ∧
    (after (.markerAbsenceExpiry .fibre) s).clock.source = none ∧
    ((after (.markerAbsenceExpiry .fibre) s).events.event.read 0).detail =
      some (.wayOut .absence) := by decide +kernel

/-- Witness of `StormEndStopsTheTimer`, in each of its cases. -/
theorem witness_storm_end :
    let storm (t : StormTimer) :=
      ((rig .truck).withStrike { (rig .truck).strike with timer := t, stormStrikes := 3 }).withOwed
        [.storm]
    (splitOwed (fun o => o == .storm) (storm (.running 1)).owed = some (.storm, []) ∧
      (rig .truck).owed = []) ∧
    (after .stormEnd (storm (.running 1))).strike.storm = false ∧
    ((after .stormEnd (storm (.running 1))).events.event.read 12).detail = some (.strikes 3) ∧
    (after .stormEnd (storm (.running 2))).strike.timer = .running 1 := by decide +kernel

/-- Witness of `TallyLossExpiresTheTimer`, under both policies and restarted meanwhile. -/
theorem witness_tally_loss :
    let tally (t : TallyTimer) (p : TallyPolicy) :=
      let r := rig .truck
      let u := r.withTally { r.tally with timer := t, received := Tab.fill 8 .program }
      (u.withMgmt { u.mgmt with settings := { u.mgmt.settings with tallyPolicy := p } }).withOwed
        [.tally 300]
    splitOwed OwedStart.isTally (tally (.running 1) .dark).owed = some (.tally 300, []) ∧
    (after .tallyLoss (tally (.running 1) .dark)).tally.received.read 7 = .off ∧
    (after .tallyLoss (tally (.running 1) .hold)).tally.received.read 7 = .program ∧
    ((after .tallyLoss (tally (.running 1) .dark)).events.event.read 15).detail =
      some (.tally .dark 300) ∧
    (after .tallyLoss (tally (.running 250) .dark)).tally.timer = .running 249 := by decide +kernel

/-! ### Ingress, batches, egress -/

/-- Witness of `TributaryCellPlacedOrDropped`: a cell that reaches the watermark, one of length 0, one
of length 181, one that finds the FIFO full, with and without an OUTBOUND entry. -/
theorem witness_tributary_cell :
    let full (n : Nat) :=
      (rig .mast).withIngress { (rig .mast).ingress with
        fifo := (rig .mast).ingress.fifo.write 4 (List.replicate n (cellOf 180)) }
    let out := (rig .mast).putEntry 10
      (.used .outbound { entry21 with endpoint := .trib 4 })
    ((1 : Nat) ≤ 180 ∧ ((full 47).ingress.fifo.read 4).length < 64 ∧
      64 ≤ ((full 64).ingress.fifo.read 4).length ∧
      outboundFlowOf out.table.activeBank 4 = some 10 ∧
      outboundFlowOf (rig .mast).table.activeBank 4 = none) ∧
    (after (.tributaryCellArrival 4 (zeroBytes 180) 180) (full 47)).ingress.hold.read 4 = true ∧
    (after (.tributaryCellArrival 4 (zeroBytes 180) 180) (full 46)).ingress.hold.read 4 = false ∧
    (after (.tributaryCellArrival 4 (zeroBytes 180) 181) out).ingress.dropCount.read 10 = 1 ∧
    (after (.tributaryCellArrival 4 (zeroBytes 180) 0) (rig .mast)).ingress.unrouted = 1 ∧
    (after (.tributaryCellArrival 4 (zeroBytes 180) 1) (full 64)).ingress.unrouted = 1 := by
  decide +kernel

/-- Two cells leave a FIFO of three at rate 2, numbered from 65535 over the wrap, on both bearers. -/
theorem test_tributary_batch :
    let r := rig .mast
    let s := (r.withIngress { r.ingress with
        fifo := r.ingress.fifo.write 3 [cellOf 1, cellOf 2, cellOf 3] }).withBatch
      { r.batch with flow := r.batch.flow.write 21 ⟨65535, 7, false, 0⟩ }
    let t := s.tributaryBatch 21 entry21 3
    (t.ingress.fifo.read 3, t.batch.flow.read 21, t.fibreTx.sendList.map BatchCell.sequence,
        t.radioTx.sendList.map fun c => c.data.len) =
      ([cellOf 3], ⟨1, 0, false, 2⟩, [65535, 0], [1, 2]) := by decide +kernel

/-- Witness of `TakesRemoveTheHead`: the head of an egress FIFO and of the management port's queue. -/
theorem witness_takes :
    let r := rig .truck
    let s := (r.withEgress { r.egress with fifo := r.egress.fifo.write 3 [.fill, .cell (cellOf 9)] }
      ).withMgmt { r.mgmt with portQueue := [cellOf 5, cellOf 6] }
    (s.inReset = false ∧ s.egress.fifo.read 3 = [.fill, .cell (cellOf 9)] ∧
      s.egress.ready.read 3 = true ∧ s.mgmt.portQueue = [cellOf 5, cellOf 6] ∧
      (after (.egressReadyChange 3 false) s).egress.ready.read 3 = false) ∧
    (s.presented 3 = some ⟨List.replicate 180 0, 0, true⟩ ∧ s.presented 4 = none ∧
      (after (.egressTake 3) s).presented 3 = some ⟨(cellOf 9).payload, 9, false⟩) ∧
    (after (.egressTake 3) s).egress.fifo.read 3 = [.cell (cellOf 9)] ∧
    (after .mgmtPortTake s).mgmt.portQueue = [cellOf 6] ∧
    (after (.egressTake 3) (after (.egressReadyChange 3 false) s)).egress.fifo.read 3 =
      [.fill, .cell (cellOf 9)] := by decide +kernel

/-- Witness of `HandOverPlacesThenDrops`: two entries and room for one. -/
theorem witness_hand_over :
    let r := rig .truck
    let s := r.withEgress { r.egress with
      fifo := r.egress.fifo.write 3 (List.replicate 63 (.cell (cellOf 1))) }
    let t := s.handOver 3 21 [.fill, .cell (cellOf 2)]
    (s.egress.fifo.read 3).length ≤ 64 ∧ (t.egress.fifo.read 3).length = 64 ∧
    (t.egress.fifo.read 3).getLast? = some .fill ∧ t.egress.dropCount.read 21 = 1 ∧
    (t.events.event.read 5).detail = some (.tributaryFlow 3 21) := by decide +kernel

/-! ### The management port and flow 0 -/

/-- A payload that begins with some bytes. -/
def payloadOf (bytes : List Byte) : List Byte := bytes ++ zeroBytes (180 - bytes.length)

/-- The records that wait for the near host. -/
def portRecords (s : State) : List (List Byte) := s.mgmt.portQueue.map CellData.record

/-- The records that wait for the far end. -/
def flow0Records (s : State) : List (List Byte) := s.mgmt.flow0Queue.map CellData.record

/-- Witness of `MgmtPortForwardsFarCommand`, its three clauses, with a record of the least length. -/
theorem witness_far_command :
    let r := rig .mast
    let s := r.withRadioRx (rxIn .timed)
    let full := s.withMgmt { s.mgmt with flow0Queue := List.replicate 16 (cellOf 4) }
    let p := payloadOf [1, 77, 2, 1]
    (byteAt (p.take 4) 0 = 1 ∧ byteAt (p.take 4) 2 = 2 ∧ s.timed .radio = true ∧
      s.mgmt.flow0Queue.length < 16 ∧ 16 ≤ full.mgmt.flow0Queue.length ∧
      r.timed .fibre = false ∧ r.timed .radio = false) ∧
    flow0Records (after (.mgmtPortCell p 4) s) = [[1, 77, 2, 1]] ∧
    portRecords (after (.mgmtPortCell p 4) r) = [[2, 77, 1, 13, 0, 0, 0, 0, 0, 0]] ∧
    portRecords (after (.mgmtPortCell p 4) full) = [[2, 77, 1, 14, 0, 0, 0, 0, 0, 0]] := by
  decide +kernel

/-- Witness of `MgmtPortRunsNearCommand`, its four clauses: SET-BAR, command numbers 0 and 24, targets 0
and 3, and the cells that are malformed. -/
theorem witness_near_command :
    let r := rig .mast
    (readCommandRecord ((payloadOf [1, 77, 1, 16]).take 4) = .command .setBar ∧
      Command.row .near 77 .setBar = some (.setBar .near 77) ∧
      byteAt ((payloadOf [1, 77, 1, 0]).take 4) 3 = 0 ∧
      24 ≤ (byteAt ((payloadOf [1, 77, 1, 24]).take 4) 3).toNat ∧
      3 ≤ (byteAt ((payloadOf [1, 77, 3, 16]).take 4) 2).toNat ∧
      byteAt ((payloadOf [2, 77, 1, 16]).take 180) 0 ≠ 1) ∧
    (after (.mgmtPortCell (payloadOf [1, 77, 1, 16]) 4) r).mgmt.bar = true ∧
    portRecords (after (.mgmtPortCell (payloadOf [1, 77, 1, 24]) 4) r) =
      [[2, 77, 24, 15, 0, 0, 0, 0, 0, 0]] ∧
    portRecords (after (.mgmtPortCell (payloadOf [1, 77, 3, 16]) 180) r) =
      [[2, 77, 16, 2, 0, 2, 0, 0, 0, 0]] ∧
    (after (.mgmtPortCell (payloadOf [1, 77, 1, 16]) 3) r).mgmt.malformed = 1 ∧
    (after (.mgmtPortCell (payloadOf [2, 77, 1, 16]) 181) r).mgmt.malformed = 1 := by decide +kernel

/-- A WRITE-ENTRY record that ends inside its depth misses an operand (R186). -/
theorem test_missing_operand :
    readCommandRecord ([1, 77, 1, 3, 1, 4, 1, 0, 5, 0, 2, 0, 0, 16, 1]) = .missing [6, 14] ∧
    readCommandRecord [1, 77, 1, 2, 0] = .missing [5] := by decide +kernel

/-- Witness of `FlowZeroCellByItsKind`: a far READ-LINK, a RESPONSE, a NOTICE that finds the queue full,
and a kind that is none. -/
theorem witness_flow_zero :
    let r := rig .mast
    let full := r.withMgmt { r.mgmt with portQueue := List.replicate 16 (cellOf 4) }
    let c (bytes : List Byte) (n : Nat) : CellData := ⟨payloadOf bytes, n⟩
    (byteAt (c [1, 9, 1, 8] 4).record 0 = 1 ∧ byteAt (c [1, 9, 1] 3).record 0 = 1 ∧
      r.mgmt.portQueue.length < 16 ∧ 16 ≤ full.mgmt.portQueue.length ∧
      4 ≤ (byteAt (c [4] 1).record 0).toNat) ∧
    flow0Records (r.flow0Cell (c [1, 9, 1, 8] 4)) = [[2, 9, 8, 1, 0, 0, 0, 0, 0, 0]] ∧
    portRecords (r.flow0Cell (c [2, 9, 8, 1] 4)) = [[2, 9, 8, 1]] ∧
    ((full.flow0Cell (c [2, 0] 2)).events.event.read 19).detail = some (.dropped .port .response) ∧
    ((full.flow0Cell (c [3, 0] 2)).events.event.read 19).detail = some (.dropped .port .notice) ∧
    (r.flow0Cell (c [4] 1)).mgmt.malformed = 1 := by decide +kernel

/-! ### Reception -/

/-- Witness of `HuntAndConfirmFindCells` in HUNT: a candidate and a position that is none. -/
theorem witness_hunt :
    let r := rig .truck
    let s := r.withFibreRx { Receiver.powerOn with searchFrom := 500, arrived := 511 }
    ((s.rx .fibre).state = .hunt ∧ (s.rx .fibre).searchFrom ≤ 500) ∧
    (after (.huntCandidateFound .fibre 500 (idleCellBytes.take 12)) s).fibreRx.boundary = some 500 ∧
    (after (.huntCandidateFound .fibre 500 (zeroBytes 12)) s).fibreRx.searchFrom = 501 ∧
    (after (.huntCandidateFound .fibre 499 (idleCellBytes.take 12)) s).fibreRx.state = .hunt := by
  decide +kernel

/-- Witness of `HuntAndConfirmFindCells` in CONFIRM: the third confirming cell and a failing one, which
is not counted (05, Worked Sequence, events 11 and 13). -/
theorem witness_confirm :
    let r := rig .truck
    let s (n : Nat) := r.withFibreRx
      { rxIn .confirm with boundary := some 1000, arrived := 1012, atFoundCell := true, confirmCount := n }
    ((s 2).rx .fibre).state = .confirm ∧
    (after (.receivedCell .fibre idleCellBytes ⟨false, false, 0⟩) (s 2)).fibreRx.state = .aligned ∧
    (after (.receivedCell .fibre idleCellBytes ⟨false, false, 0⟩) (s 1)).fibreRx.confirmCount = 2 ∧
    (after (.receivedCell .fibre (zeroBytes 192) ⟨false, false, 0⟩) (s 2)).fibreRx =
      { Receiver.powerOn with searchFrom := 1193, arrived := 1384 } := by decide +kernel

/-- Witness of `BadHeaderCountsAndHunts`: below the threshold under STORM, at it, and the run of 5 that
the end of STORM leaves (05, Worked Sequence, events 4 and 8). -/
theorem witness_bad_header :
    let r := rig .truck
    let s (run : Nat) (t : StormTimer) := (r.withFibreRx { rxIn .timed with badRun := run }).withStrike
      { r.strike with timer := t }
    let cell := zeroBytes 192
    (goodHeader cell = none ∧ ((s 3 (.running 9)).rx .fibre).state = .timed) ∧
    (after (.receivedCell .fibre cell ⟨false, false, 0⟩) (s 3 (.running 9))).fibreRx.badRun = 4 ∧
    (after (.receivedCell .fibre cell ⟨false, false, 0⟩) (s 5 .stopped)).fibreRx.state = .hunt ∧
    ((after (.receivedCell .fibre cell ⟨false, false, 0⟩) (s 7 (.running 1))).events.event.read 0
      ).detail = some (.wayOut .headers) ∧
    (after (.receivedCell .fibre cell ⟨false, false, 0⟩) (s 2 .stopped)).fibreRx.badCount = 1 := by
  decide +kernel

/-- Witness of `IdleAndUnroutedCellsAreDropped`. -/
theorem witness_idle_and_unrouted :
    let s := (rig .truck).withRadioRx { rxIn .aligned with badRun := 3 }
    let data := dataCellBytes 5 9 (cellOf 180)
    ((s.rx .radio).state = .aligned ∧ goodHeader idleCellBytes = some .idle ∧
      goodHeader data = some (.data 5 9 180) ∧ (s.activeEntry 5).inbound = none) ∧
    (after (.receivedCell .radio idleCellBytes ⟨false, false, 0⟩) s).radioRx.badRun = 0 ∧
    (after (.receivedCell .radio data ⟨false, false, 0⟩) s).merge.unrouted = 1 := by decide +kernel

/-- Witness of `DataCellReleasedInOrder` (07, Worked Sequence, event 2). -/
theorem witness_data_cell :
    let s := (truck21 4000 20).putWindow 21 ⟨true, 701, [], 5⟩
    let t := after (.receivedCell .fibre (dataCellBytes 21 701 (cellOf 180)) ⟨false, false, 0⟩) s
    (s.inReset = false ∧ (s.rx .fibre).state = .timed ∧
      s.activeEntry 21 = .used .inbound entry21 ∧ (cellOf 180).payload.length = 180 ∧
      (s.merge.window.read 21).running = true ∧ (s.merge.window.read 21).held = [] ∧
      (s.egress.fifo.read 3).length < 64) ∧
    t.merge.window.read 21 = ⟨true, 702, [], 0⟩ ∧ (t.merge.counts.read 21).firstFibre = 1 ∧
    t.egress.fifo.read 3 = [.cell (cellOf 180)] := by decide +kernel

/-- Witness of `GoodMarkerMakesTimed` (05, Worked Sequence, event 17). -/
theorem witness_good_marker :
    let s := ((rig .truck).at_ 2202 40).withFibreRx (rxIn .aligned)
    let t := after (.receivedCell .fibre (markerCellBytes ⟨2202, true, false, 15⟩)
      ⟨false, false, 0⟩) s
    (s.inReset = false ∧ s.role = .truck ∧ (s.rx .fibre).state = .aligned ∧
      s.timed .radio = false ∧ s.skew.adjustment = none) ∧
    t.fibreRx.state = .timed ∧
    t.fibreRx.record = some ⟨2202, ⟨2202, 40⟩, true, false, 15⟩ ∧
    (t.events.event.read 8).detail = some (.superframe 2202) := by decide +kernel

/-- A MAST that follows the fibre, at a link time, with a disagreement count. -/
def mastAt (sf : Superframe) (slot : Slot) (disagreements : Nat) : State :=
  let r := ((rig .mast).at_ sf slot).withFibreRx (rxIn .timed)
  r.withClock { r.clock with source := some .fibre, disagreements := disagreements }

theorem witness_mast_ranges (sf : Superframe) (slot : Slot) (n : Nat) :
    (mastAt sf slot n).rangesKept := by
  refine ⟨?_, trivial, trivial, ?_⟩
  · show (rig .mast).mgmt.settings.inRange
    unfold Settings.inRange; decide +kernel
  · show (rig .mast).events.routineCount ≤ 1024 ∧ 1 ≤ (rig .mast).mgmt.windowLow ∧
      (rig .mast).mgmt.windowLow ≤ (rig .mast).mgmt.windowHigh ∧ (rig .mast).mgmt.windowHigh ≤ 63
    decide +kernel

/-- A MAST that follows the radio with a Radio Offset, its Fibre Receiver in HUNT, at a link time. -/
def mastOnRadio (offset : Option Int) (sf : Superframe) (slot : Slot) : State :=
  let r := ((rig .mast).at_ sf slot).withRadioRx (rxIn .timed)
  r.withClock { r.clock with source := some .radio, radioOffset := offset }

/-- Witness of `SourceMarkerMovesLinkTime`: the fibre at slot 769, the last that agrees within its
superframe, in slot 0 and with both receivers TIMED; the start of superframe 1022 from (1021, 1535) (01,
Worked Sequence, event 1); and the radio with an offset of −2743. -/
theorem witness_source_marker :
    let pins : Pins := ⟨false, false, 0⟩
    let both := (mastAt 1022 1 0).withRadioRx (rxIn .timed)
    (∀ u ∈ [mastAt 1022 769 1, mastAt 1022 0 1, both, mastAt 1021 1535 0,
        mastOnRadio (some (-2743)) 1023 1200, mastOnRadio none 1022 5],
      u.settled ∧ u.role = .mast ∧ u.sourceChosen ∧ u.skew.adjustment = none ∧
      u.strike.strikesOf pins = (false, false) ∧ u.quietStart pins) ∧
    both.timed (otherBearer .fibre) = true ∧ (∀ f : Flow, (both.merge.window.read f).held = []) ∧
    (mastAt 1022 769 1).timed (otherBearer .fibre) = false ∧
    (mastAt 1021 1535 0).clock.lastStarted ≠ 1022 ∧
    difference ⟨1022, 1⟩ ⟨1022, 769⟩ = -768 ∧ difference ⟨1022, 1⟩ ⟨1021, 1535⟩ = 2 ∧
    LinkTime.advance ⟨1022, 1⟩ 2743 = ⟨1023, 1208⟩ := by
  unfold State.settled State.sourceChosen State.quietStart; decide +kernel

/-- Witness of `SecondDisagreementSteps`: the first disagreement on either side of slot 769, both ways out
of −768..767, and a swap whose target the step passes over and one that it does not. -/
theorem witness_second_disagreement :
    let pins : Pins := ⟨false, false, 0⟩
    let s := mastAt 1022 770 1
    let swap (x : Superframe) := s.withTable { s.table with pendingSwap := some x }
    let judged (u : State) := u.judgeMarker .fibre 1025 u.clock.time pins none
    (∀ u ∈ [s, mastAt 1022 770 0, mastAt 1022 769 0, mastAt 1022 0 0, swap 1025], u.settled ∧
      u.role = .mast ∧ u.sourceChosen ∧ u.clock.source = some .fibre ∧
      u.timed (otherBearer .fibre) = false ∧ u.skew.adjustment = none ∧
      u.strike.strikesOf pins = (false, false) ∧ u.quietStart pins ∧
      u.clock.time.sf + 1 ≠ u.clock.lastStarted) ∧
    (difference ⟨1022, 1⟩ s.clock.time < -768 ∧ 767 < difference ⟨1023, 2⟩ s.clock.time ∧
      767 < difference ⟨1025, 1⟩ ⟨1022, 769⟩ ∧ (1 : Int) - 769 = -768 + 1536 * 0 ∧
      (1 : Int) - 770 = 767 + 1536 * -1) ∧
    ((mastOnRadio none 1022 1).settled ∧ (mastOnRadio none 1022 1).sourceChosen ∧
      (mastOnRadio none 1022 1).timed (otherBearer .radio) = false) ∧
    (judged (mastAt 1022 769 0)).clock.time = ⟨1022, 1⟩ ∧
    (judged (mastAt 1022 769 0)).clock.disagreements = 1 ∧
    (judged (mastAt 1022 770 0)).clock.time = ⟨1023, 1⟩ ∧
    (judged (mastAt 1022 770 0)).clock.lastStarted = 1023 ∧
    (judged (swap 1025)).table.active = .bank1 ∧
    (judged (swap 1026)).table.pendingSwap = some 1026 ∧
    (judged (swap 1025)).clock.time = ⟨1025, 1⟩ := by
  unfold State.settled State.sourceChosen State.quietStart; decide +kernel

/-- Witness of `SentCellReadsBack`: the least and the greatest payload length. -/
theorem witness_sent_cell :
    ((cellOf 1).payload.length = 180 ∧ (1 : Nat) ≤ (cellOf 1).len ∧ (cellOf 180).len ≤ 180) ∧
    goodHeader (dataCellBytes 63 65535 (cellOf 1)) = some (.data 63 65535 1) ∧
    goodHeader (dataCellBytes 0 256 (cellOf 180)) = some (.data 0 256 180) ∧
    goodHeader (markerCellBytes ⟨4095, false, true, 15⟩) = some (.marker 4095 false true 15) := by
  decide +kernel

/-! ### Skew, hold time and the merge -/

/-- Witness of `SkewSampleUpdatesEAndJ`: E INVALID and VALID, the ends of the range, and the samples 3
and 5 of the worked case. -/
theorem witness_skew_sample :
    let s := rig .mast
    let v := s.withSkew { s.skew with valid := true, e := 43888, j := 0 }
    (s.skew.valid = false ∧ v.skew.valid = true ∧ (-8191 : Int) ≤ -8191 ∧ (8191 : Int) ≤ 8191) ∧
    (s.skewSample 2743).skew.e = 43888 ∧ (s.skewSample 2743).clock.radioOffset = some (-2743) ∧
    ((v.skewSample 2751).skew.e, (v.skewSample 2751).skew.j) = (43904, 8) ∧
    (s.skewSample (-8191)).clock.radioOffset = some 8191 ∧
    ((s.skewSample 8192).events.event.read 13).detail = some (.skew 8192) := by decide +kernel

/-- Witness of `HoldTimeByProtection`: each protection, and the clamp at 4 and at 12,288. -/
theorem witness_hold_time :
    let s := truck21 4000 10
    let x (p : Protection) (margin : Nat) : EntryFields := { entry21 with protection := p, margin := margin }
    let big := s.withSkew { s.skew with e := 131056, j := 16382 }
    s.holdTimeOf (x .fibre 16) = 16 ∧ s.holdTimeOf (x .radio 1) = 4 ∧
    s.holdTimeOf (x .fibreSwitch 16) = 2771 ∧ s.holdTimeOf (x .bothShed 255) = 3010 ∧
    big.holdTimeOf (x .both 16) = 12288 := by decide +kernel

/-- A record of a held cell of flow 21. -/
def heldOf (q : Seq) (b : BufferNo) (sf : Superframe) (slot : Slot) : HeldRecord :=
  ⟨q, b, ⟨sf, slot⟩, .fibre⟩

/-- Witness of `BandsOfAnArrival`: the ends of every band (07, R115), and in each band an arrival that
meets its clause: expected with a run of one before a gap, ahead held, redundant, starved and filling
the window, stale below the sixteenth and at it. -/
theorem witness_bands :
    let m (held : List HeldRecord) (free : List BufferNo) (run : Nat) : MergeTurn :=
      { window := ⟨true, 702, held, run⟩, counts := MergeCounts.zero, pool := [], free := free
        out := [] }
    let go (t : MergeTurn) (q : Seq) := t.arrive 21 entry21.rule ⟨.radio, q, cellOf 3, ⟨0, 0⟩⟩
    let two := [heldOf 703 40 0 0, heldOf 705 41 0 0]
    ([0, 1, 7, 8, 32767, 32768, 57343, 57344, 65535].map (bandOf 8)) =
      [.expected, .ahead, .ahead, .jump, .jump, .stale, .stale, .behind, .behind] ∧
    (4 ≤ entry21.rule.depth ∧ entry21.rule.depth ≤ 1024 ∧
      57344 ≤ MergeWindow.distance ⟨true, 702, [], 4⟩ 701) ∧
    (go (m two [9] 4) 702).1.window = ⟨true, 704, [heldOf 705 41 0 0], 0⟩ ∧
    (go (m two [9] 4) 702).1.free = [40, 9] ∧
    (go (m two [9] 4) 704).1.window =
      ⟨true, 702, [heldOf 703 40 0 0, ⟨704, 9, ⟨0, 0⟩, .radio⟩, heldOf 705 41 0 0], 0⟩ ∧
    (go (m two [9] 4) 705).1.counts.redundant = 1 ∧
    (go (m two [] 4) 704).2 = some (.poolEmpty, .flow 21) ∧
    (go (m ((List.range 6).map fun i => heldOf (703 + BitVec.ofNat 16 i) 40 0 0) [9] 4) 709
      ).1.counts.forced = 1 ∧
    (go (m two [9] 14) (702 + 32768)).1.window = ⟨true, 702, two, 15⟩ ∧
    (go (m two [9] 15) (702 + 57343)).1.window = ⟨false, 702, [], 0⟩ ∧
    (go (m two [9] 15) (702 + 57343)).2 = some (.windowJump, .jump 21 .stale) ∧
    (go (m two [9] 15) 701).1.window.staleRun = 0 ∧
    (({ m [] [9] 15 with window := ⟨false, 5, [], 0⟩ }.arrive 21 entry21.rule
      ⟨.radio, 300, cellOf 3, ⟨0, 0⟩⟩).1.window) = ⟨true, 301, [], 0⟩ := by decide +kernel

/-- Event 7 of the worked sequence: radio 702 releases the run 703..705, and the buffers return. -/
theorem test_merge_event_7 :
    let r := (truck21 4002 1218).putWindow 21
      ⟨true, 702, [heldOf 703 40 4001 20, heldOf 704 41 4002 10, heldOf 705 42 4002 20], 0⟩
    let t := (r.withStack [43, 44]).takeArrival 21 ⟨.radio, 702, cellOf 9, ⟨4002, 1218⟩⟩
    t.merge.window.read 21 = ⟨true, 706, [], 0⟩ ∧ t.merge.free = [42, 41, 40, 43, 44] ∧
    (t.egress.fifo.read 3).length = 4 ∧ (t.merge.counts.read 21).firstRadio = 1 ∧
    (t.merge.counts.read 21).firstFibre = 3 := by decide +kernel

/-- Event 3: fibre 703 is held in buffer 40, with its stamp and bearer. -/
theorem test_merge_event_3 :
    let s := ((truck21 4001 20).putWindow 21 ⟨true, 702, [], 0⟩).withStack [40, 41, 42]
    let t := s.takeArrival 21 ⟨.fibre, 703, cellOf 9, ⟨4001, 20⟩⟩
    t.merge.window.read 21 = ⟨true, 702, [heldOf 703 40 4001 20], 0⟩ ∧ t.merge.free = [41, 42] ∧
    poolRead t.merge.pool 40 = cellOf 9 ∧ t.egress.fifo.read 3 = [] := by decide +kernel

/-- The window in which `JumpLosesWhatWasNotHeld` and `ForcedReleaseEmptiesAFullWindow` are tried. -/
def turnOf (held : List HeldRecord) (next : Seq) : MergeTurn :=
  { window := ⟨true, next, held, 0⟩, counts := MergeCounts.zero, pool := [], free := [44], out := [] }

theorem turnOf_lawful :
    (turnOf [heldOf 703 40 0 0, heldOf 705 41 0 0] 702).window.lawful (some entry21) := by
  refine ⟨by simp [turnOf], by decide, by decide⟩

/-- Witness of `JumpLosesWhatWasNotHeld`, at distance 8, the least of the band at depth 8. -/
theorem witness_jump :
    let m := turnOf [heldOf 703 40 0 0, heldOf 705 41 0 0] 702
    let a : Arrival := ⟨.radio, 710, cellOf 1, ⟨0, 0⟩⟩
    (m.window.running = true ∧ 1 ≤ entry21.depth ∧ entry21.depth ≤ m.window.distance a.sequence ∧
      m.window.distance a.sequence ≤ 32767) ∧
    (m.arrive 21 entry21.rule a).1.counts.lost = 6 ∧
    (m.arrive 21 entry21.rule a).1.free = [41, 40, 44] ∧
    (m.arrive 21 entry21.rule a).1.window = ⟨true, 711, [], 0⟩ ∧
    (m.arrive 21 entry21.rule a).1.out.length = 9 := by decide +kernel

/-- The third case of the worked restart: 25,536 sequences lost before sequence 0. -/
theorem test_restart_jump :
    (((turnOf [] 40000).jump { entry21.rule with fills := false } ⟨.fibre, 0, cellOf 1, ⟨0, 0⟩⟩).counts.lost,
      ((turnOf [] 40000).jump { entry21.rule with fills := false } ⟨.fibre, 0, cellOf 1, ⟨0, 0⟩⟩).window.next) =
      (25536, 1) := by decide +kernel

def fullWindow : List HeldRecord :=
  [heldOf 703 40 0 0, heldOf 704 41 0 0, heldOf 705 42 0 0]

/-- Witness of `ForcedReleaseEmptiesAFullWindow`, at depth 4. -/
theorem witness_forced_release :
    (turnOf fullWindow 702).window.lawful (some { entry21 with depth := 4 }) ∧
    (2 : Nat) ≤ 4 ∧ (turnOf fullWindow 702).window.held.length = 4 - 1 ∧
    ((turnOf fullWindow 702).forcedRelease { entry21.rule with depth := 4 }).window.next = 706 ∧
    ((turnOf fullWindow 702).forcedRelease { entry21.rule with depth := 4 }).counts.lost = 1 ∧
    ((turnOf fullWindow 702).forcedRelease { entry21.rule with depth := 4 }).free = [42, 41, 40, 44] := by
  refine ⟨⟨by simp [turnOf], by decide, by decide⟩, by decide, by decide, by decide, by decide,
    by decide⟩

/-- Witness of `HoldExpiryEndsTheGap` (07, Worked Sequence, event 16, with 708 alone held): one slot
before the expiry nothing is due. -/
theorem witness_hold_expiry :
    let at_ (slot : Slot) := ((truck21 4005 slot).putWindow 21 ⟨true, 707, [heldOf 708 42 4004 10], 0⟩
      ).withStack [44]
    let s := at_ 1245
    (s.inReset = false ∧ s.activeEntry 21 = .used .inbound entry21 ∧
      (s.merge.window.read 21).running = true ∧
      (s.merge.window.read 21).held = [heldOf 708 42 4004 10] ∧
      s.holdTimeOf entry21 ≤ age s.clock.time ⟨4004, 10⟩ ∧
      (s.egress.fifo.read 3).length + 1 + 1 ≤ 64 ∧ (at_ 1244).expiryDue 21 = false) ∧
    (after (.holdExpiry 21) s).merge.window.read 21 = ⟨true, 709, [], 0⟩ ∧
    (after (.holdExpiry 21) s).egress.fifo.read 3 = [.fill, .cell blankBuffer] ∧
    (after (.holdExpiry 21) s).merge.free = [42, 44] ∧
    ((after (.holdExpiry 21) s).merge.counts.read 21).lost = 1 := by decide +kernel

/-- A strike accepted during the wait lengthens it by the storm guard (07, Worked Sequence). -/
theorem test_hold_under_storm :
    let s := (truck21 4005 1245).putWindow 21 ⟨true, 707, [heldOf 708 42 4004 10], 0⟩
    (s.withStrike { s.strike with timer := .running 9 }).expiryDue 21 = false := by decide +kernel

/-- An expiry that has been found stands though a strike then lengthens the hold time, and is taken by
HOLD_EXPIRY (R123, R124). -/
theorem witness_hold_latched :
    let s := (truck21 4005 1245).putWindow 21 ⟨true, 707, [heldOf 708 42 4004 10], 0⟩
    let found := s.judgeHolds
    let late := found.withStrike { found.strike with timer := .running 9 }
    late.expiryDue 21 = false ∧ late.expired.read 21 = true ∧
    (after (.holdExpiry 21) late).merge.window.read 21 = ⟨true, 709, [], 0⟩ ∧
    (after (.holdExpiry 21) late).expired.read 21 = false ∧
    s.inReset = false ∧ (s.withStrike { s.strike with timer := .running 9 }).expired.read 21 = false
    := by decide +kernel

/-- The storm guard brought down ends the hold at once, and brought up again does not take that back
(R124). -/
theorem test_guard_down_and_up :
    let r := (truck21 4005 1245).putWindow 21 ⟨true, 707, [heldOf 708 42 4004 10], 0⟩
    let s := r.withStrike { r.strike with timer := .running 9 }
    let t := after (.setSetting .near 3 3 0 192) (after (.setSetting .near 3 3 0 0) s)
    s.expired.read 21 = false ∧ t.expired.read 21 = true ∧ t.expiryDue 21 = false := by decide +kernel

/-! ### Reading commands -/

/-- Witness of `IdentifyReturnsTheIdentity`, near and far. -/
theorem witness_identify :
    (rig .truck).inReset = false ∧
    portRecords (after (.identify .near 7) (rig .truck)) =
      [[2, 7, 1, 0, 0, 0, 0, 0, 0, 0, 16, 24, 1, 1, 64, 8, 64, 0, 6, 0, 15]] ∧
    flow0Records (after (.identify .far 7) (rig .mast)) =
      [[2, 7, 1, 0, 0, 0, 0, 0, 0, 0, 16, 24, 1, 0, 64, 8, 64, 0, 6, 0, 15]] := by decide +kernel

/-- Witness of `ReadingCommandsOnlyAnswer`: entry 0, entry 21 and a shadow that passes. -/
theorem witness_reading :
    let s := truck21 4000 10
    (s.inReset = false ∧ consistencyCheck s.table.shadowBank = .pass) ∧
    portRecords (after (.readEntry .near 3 0 21) s) =
      [[2, 3, 2, 0, 0, 0, 0, 0, 0, 0, 0, 21, 0, 2, 3, 1, 0, 0, 2, 0, 16, 0, 8]] ∧
    portRecords (after (.readEntry .near 3 1 0) s) =
      [[2, 3, 2, 0, 0, 0, 0, 0, 0, 0, 1, 0, 0, 3, 9, 3, 0, 0, 8, 0, 16, 0, 32]] ∧
    portRecords (after (.checkShadow .near 3) s) =
      [[2, 3, 6, 0, 0, 0, 0, 0, 0, 0, 0, 0, 0, 0]] ∧
    (portRecords (after (.readSettings .near 3) s)).map List.length = [90] := by decide +kernel

/-- The link record at (4000, 10) with no source, and where its Skew Unit and its windows stand
(R187). -/
theorem test_read_link :
    let record := ((portRecords (after (.readLink .near 3) (truck21 4000 10))).headD []).drop 10
    record.length = 119 ∧ record.take 10 = [15, 160, 0, 10, 0, 0, 2, 0, 0, 0] ∧
    (record.drop 36).take 7 = [1, 0, 0, 171, 129, 0, 10] ∧
    record.drop 115 = [0, 1, 63, 0] := by decide +kernel

/-- After power-on every event is CLEAR, REPORTED and enabled, 0..7 URGENT (R178, R187). -/
theorem test_read_events :
    let record := ((portRecords (after (.readEvents .near 3) (rig .mast))).headD []).drop 10
    record.length = 102 ∧ record.take 5 = [4, 0, 0, 0, 0] ∧ (record.drop 40).take 5 = [12, 0, 0, 0, 0] := by
  decide +kernel

/-- A link with counts to read and clear. -/
def counted : State :=
  let r := truck21 4000 10
  (r.withMerge { r.merge with
      counts := r.merge.counts.write 21 { MergeCounts.zero with lost := 5, fill := 5 } }).withRadioRx
    { rxIn .aligned with badCount := 300 }

/-- Witness of `ReadAndClearCounts`: clear NO keeps the counts and clear YES zeroes them. -/
theorem witness_read_and_clear :
    counted.inReset = false ∧
    (portRecords (after (.readFlowCounts .near 3 21 1) counted)).map List.length = [98] ∧
    (after (.readFlowCounts .near 3 21 0) counted).merge.counts.read 21 =
      counted.merge.counts.read 21 ∧
    (after (.readFlowCounts .near 3 21 1) counted).merge.counts.read 21 = MergeCounts.zero ∧
    portRecords (after (.readBearer .near 3 1 1) counted) =
      [[2, 3, 10, 0, 0, 0, 0, 0, 0, 0, 1, 2, 0, 0, 1, 44, 0, 0, 0, 0, 0, 0, 0, 0, 0, 0, 0]] ∧
    (after (.readBearer .near 3 1 1) counted).radioRx.badCount = 0 ∧
    portRecords (after (.readFlowCounts .near 3 64 1) counted) = [[2, 3, 9, 3, 0, 4, 0, 0, 0, 0]] ∧
    portRecords (after (.readFlowCounts .near 3 63 2) counted) = [[2, 3, 9, 2, 0, 5, 0, 0, 0, 0]] ∧
    portRecords (after (.readBearer .near 3 2 1) counted) = [[2, 3, 10, 2, 0, 4, 0, 0, 0, 0]] ∧
    portRecords (after (.readBearer .near 3 1 2) counted) = [[2, 3, 10, 2, 0, 5, 0, 0, 0, 0]] := by decide +kernel

/-! ### The Flow Table -/

/-- A record that asks for rate 2000, rank 16, the default margin and depth 3. -/
def rawEntry : RawEntry := ⟨1, 4, 0, 1, 2000, 16, 0, 3⟩

/-- Witness of `WriteEntryStoresInTheShadow`: clamped numbers; from the far end at the window's edge; and
the defaults taken in silence. -/
theorem witness_write_entry :
    let s := rig .mast
    let w := s.withMgmt { s.mgmt with windowLow := 10, windowHigh := 20 }
    ((10 : Flow) ≠ 0 ∧ s.table.pendingSwap = none ∧ w.mgmt.bar = false ∧ w.mgmt.windowLow ≤ 20 ∧
      (20 : Nat) ≤ w.mgmt.windowHigh ∧ rawEntry.state = 1 ∧
      endpointOperand rawEntry.endpoint = some (.trib 4) ∧
      classOperand rawEntry.cls = some .picture ∧
      protectionOperand rawEntry.protection = some .bothShed) ∧
    portRecords (after (.writeEntry .near 3 1 10 rawEntry) s) =
      [[2, 3, 3, 0, 1, 0, 0, 0, 0, 0, 10, 1, 4, 0, 1, 5, 247, 15, 16, 0, 4]] ∧
    (after (.writeEntry .far 3 1 20 rawEntry) w).table.bank1.read 20 =
      .used .outbound ⟨.trib 4, .picture, .bothShed, 1527, 15, 16, 4⟩ ∧
    portRecords (after (.writeEntry .near 3 1 63 ⟨2, 8, 4, 0, 1, 0, 0, 0⟩) s) =
      [[2, 3, 3, 0, 0, 0, 0, 0, 0, 0, 63, 2, 8, 4, 0, 0, 1, 0, 16, 1, 0]] := by decide +kernel

/-- The refusals of R21 in order: an undefined bank, entry 64, the active bank, entry 0. -/
theorem test_write_refusals :
    let status (b f : Byte) :=
      ((portRecords (after (.writeEntry .near 3 b f rawEntry) (rig .mast))).headD []).drop 3
    status 2 64 = [2, 0, 4, 0, 0, 0, 0] ∧ status 0 64 = [3, 0, 5, 0, 0, 0, 0] ∧
    status 0 0 = [5, 0, 0, 0, 0, 0, 0] ∧ status 1 0 = [4, 0, 0, 0, 0, 0, 0] := by decide +kernel

/-- Witness of `ClearAndCopyEditTheShadow`: the whole bank copied, 63 entries, and entry 63 cleared; from
the far end with the least window that lets the copy pass. -/
theorem witness_clear_and_copy :
    let s := truck21 4000 10
    let copied := after (.copyEntries .far 3 0 1 0 64) s
    (s.inReset = false ∧ s.table.pendingSwap = none ∧ s.mgmt.bar = false ∧
      s.mgmt.windowLow ≤ max 1 (0 : Byte).toNat ∧ (64 : Byte).toNat - 1 ≤ s.mgmt.windowHigh ∧
      (63 : Byte).toNat ≤ 63 ∧ (63 : Byte).toNat + (1 : Byte).toNat ≤ 64) ∧
    flow0Records copied = [[2, 3, 5, 0, 0, 0, 0, 0, 0, 0, 63]] ∧
    copied.table.bank1.read 21 = .used .inbound entry21 ∧
    (after (.clearEntry .near 3 1 21) copied).table.bank1.read 21 = .unused := by decide +kernel

/-- Witness of `SwapAtAndCancelSwap`: the nearest and the farthest target, the bits above the twelfth
not read, and one too far refused LATE. -/
theorem witness_swap :
    let s := (rig .mast).withClock { (rig .mast).clock with lastStarted := 4090 }
    let p := s.withTable { s.table with pendingSwap := some 7 }
    (s.table.pendingSwap = none ∧ consistencyCheck s.table.shadowBank = .pass ∧
      ((4091 : BitVec 16).truncate 12 - s.clock.lastStarted : Superframe).toNat = 1 ∧
      ((2041 : BitVec 16).truncate 12 - s.clock.lastStarted : Superframe).toNat = 2047 ∧
      p.table.pendingSwap = some 7) ∧
    portRecords (after (.swapAt .near 3 (2041 + 4096)) s) =
      [[2, 3, 7, 0, 0, 0, 0, 0, 0, 0, 7, 249, 15, 250]] ∧
    (portRecords (after (.swapAt .near 3 2042) s)) = [[2, 3, 7, 8, 0, 0, 0, 0, 0, 0]] ∧
    portRecords (after (.cancelSwap .near 3) p) = [[2, 3, 8, 0, 0, 0, 0, 0, 0, 0, 0, 7]] ∧
    portRecords (after (.cancelSwap .near 3) s) = [[2, 3, 8, 1, 0, 0, 0, 0, 0, 0]] := by decide +kernel

/-- The three tests of the check in order (R26 to R29). -/
theorem test_consistency :
    let x (e : Endpoint) (c : FlowClass) (r : Nat) : EntryFields := ⟨e, c, .both, r, 0, 16, 256⟩
    let bank (f g : Entry) := (powerOnBank.write 9 f).write 4 g
    consistencyCheck (bank (.used .inbound (x (.trib 1) .data 1)) (.used .inbound (x (.trib 1) .data 1))) =
      .tribConflict 4 9 ∧
    consistencyCheck (bank (.used .inbound (x (.trib 1) .data 1)) (.used .outbound (x (.trib 1) .data 1))) =
      .pass ∧
    consistencyCheck (bank (.used .outbound (x (.trib 1) .data 1527))
      (.used .outbound (x (.trib 2) .data 3))) = .overcommit 3 ∧
    consistencyCheck (bank (.used .inbound (x .tally .data 1)) .unused) = .classMismatch 9 := by
  decide +kernel

/-- Witness of `SwapActsFlowByFlow`: flow 21 ends, flow 10 starts, and the flow-9 tally starts the
timer. -/
theorem witness_swap_acts :
    let r := (truck21 4000 10).putWindow 21 ⟨true, 702, [heldOf 703 40 0 0], 3⟩
    let s := r.withTable { r.table with
      bank1 := (r.table.bank1.write 10 (.used .outbound { entry21 with endpoint := .trib 4 })).write 9
        (.used .inbound ⟨.tally, .tally, .both, 1, 0, 16, 256⟩) }
    let t := s.executeSwap 4001
    ((classifyFlow s.table.activeBank s.table.shadowBank 21).endsInbound = true ∧
      (classifyFlow s.table.activeBank s.table.shadowBank 10).startsOutbound = true ∧
      (classifyFlow s.table.activeBank s.table.shadowBank 5).endsInbound = false ∧
      hasInboundTally s.table.shadowBank = true ∧ hasInboundTally r.table.shadowBank = false ∧
      s.tally.timer = .stopped) ∧
    (classifyFlow s.table.activeBank s.table.shadowBank 21 = .ended .inbound ∧
      classifyFlow s.table.activeBank s.table.shadowBank 10 = .started .outbound ∧
      classifyFlow s.table.activeBank s.table.shadowBank 5 = .idle) ∧
    t.merge.window.read 21 = ⟨false, 702, [], 0⟩ ∧ (t.merge.counts.read 21).flushed = 1 ∧
    t.tally.timer = .running 250 ∧ t.table.active = .bank1 := by decide +kernel

/-- A changed depth restarts a flow, and a changed rate does not (R37). -/
theorem test_classify :
    classify (.used .inbound entry21) (.used .inbound { entry21 with depth := 9 }) =
      .endedThenStarted .inbound .inbound ∧
    classify (.used .inbound entry21) (.used .inbound { entry21 with rate := 9 }) =
      .continuing .inbound := by decide

/-! ### Settings, protections, tally, events -/

/-- Witness of `SetSettingClampsAndStores`: a number below its range, and a watermark that asserts, that
releases and that leaves the hold. -/
theorem witness_set_setting :
    let r := rig .mast
    let s (hold : Bool) := r.withIngress { r.ingress with
      fifo := r.ingress.fifo.write 4 (List.replicate 20 (cellOf 1))
      hold := r.ingress.hold.write 4 hold }
    ((2, 4, 64) ∈ [(1, 1, 8), (2, 4, 64)] ∧ max 8 (min 63 (20 : BitVec 16).toNat) ≠
      r.mgmt.settings.watermark.read 4 ∧ r.mgmt.bar = false) ∧
    portRecords (after (.setSetting .near 3 2 9 3) r) =
      [[2, 3, 12, 0, 1, 0, 0, 0, 0, 0, 2, 0, 0, 4]] ∧
    (after (.setSetting .near 3 2 9 3) r).mgmt.settings.gradeUp = 4 ∧
    (after (.setSetting .near 3 0 4 20) (s false)).ingress.hold.read 4 = true ∧
    (after (.setSetting .near 3 0 4 28) (s true)).ingress.hold.read 4 = false ∧
    (after (.setSetting .near 3 0 4 27) (s true)).ingress.hold.read 4 = true ∧
    (after (.setSetting .near 3 6 0 1) r).mgmt.settings.tallyPolicy = .dark ∧
    (after (.setSetting .near 3 8 0 1) r).mgmt.settings.reportEnable = false ∧
    (after (.setSetting .near 3 12 19 0) r).mgmt.settings.eventLevel.read 19 = .urgent ∧
    portRecords (after (.setSetting .near 3 11 19 0) r) =
      [[2, 3, 12, 0, 0, 0, 0, 0, 0, 0, 11, 19, 0, 0]] ∧
    portRecords (after (.setSetting .near 3 6 77 2) r) = [[2, 3, 12, 2, 0, 6, 0, 0, 0, 0]] := by decide +kernel

/-- An undefined name, an index above its range and an undefined choice, in order (R168). -/
theorem test_setting_refusals :
    let status (name index : Byte) (v : BitVec 16) :=
      (((portRecords (after (.setSetting .near 3 name index v) (rig .mast))).headD []).drop 3).take 3
    status 13 99 0 = [2, 0, 4] ∧ status 11 20 9 = [3, 0, 5] ∧ status 11 19 2 = [2, 0, 6] := by
  decide +kernel

/-- Witness of `BarWindowAndFreeze`: bounds above the range, a frozen window and bounds that cross. -/
theorem witness_window :
    let s := rig .mast
    let f := s.withMgmt { s.mgmt with frozen := true }
    (s.mgmt.frozen = false ∧ max 1 (min 63 (0 : Byte).toNat) ≤ max 1 (min 63 (64 : Byte).toNat) ∧
      f.mgmt.frozen = true ∧
      max 1 (min 63 (19 : Byte).toNat) < max 1 (min 63 (20 : Byte).toNat)) ∧
    portRecords (after (.setWindow .near 3 0 64) s) =
      [[2, 3, 14, 0, 1, 0, 0, 0, 0, 0, 1, 63]] ∧
    portRecords (after (.setWindow .near 3 1 2) f) = [[2, 3, 14, 11, 0, 0, 0, 0, 0, 0]] ∧
    (after (.setWindow .near 3 20 19) s).mgmt.windowHigh = 63 ∧
    (after (.freezeWindow .near 3) s).mgmt.frozen = true ∧
    (after (.clearBar .near 3) (after (.setBar .far 3) s)).mgmt.bar = false := by decide +kernel

/-- Witness of `FarRefusalChangesNothingElse`: NEAR-ONLY, BARRED, WINDOW. -/
theorem witness_far_refusal :
    let s := rig .mast
    let b := s.withMgmt { s.mgmt with bar := true }
    let w := s.withMgmt { s.mgmt with windowLow := 10, windowHigh := 20 }
    (Command.clearBar.row .far 3 = some (.clearBar .far 3) ∧ Command.clearBar.nearOnly = true ∧
      Command.cancelSwap.barred = true ∧ b.mgmt.bar = true ∧ w.mgmt.bar = false ∧
      (Command.clearEntry 1 21).windowPasses w.mgmt.windowLow w.mgmt.windowHigh = false) ∧
    flow0Records (after (.clearBar .far 3) s) = [[2, 3, 17, 12, 0, 0, 0, 0, 0, 0]] ∧
    flow0Records (after (.cancelSwap .far 3) b) = [[2, 3, 8, 9, 0, 0, 0, 0, 0, 0]] ∧
    flow0Records (after (.clearEntry .far 3 1 21) w) = [[2, 3, 4, 10, 0, 0, 0, 0, 0, 0]] ∧
    ((after (.clearEntry .far 3 1 21) w).events.event.read 18).detail =
      some (.refused 4 .window) := by decide +kernel

/-- Witness of `TallyCommandsSetTheLamps`, with a state outside the mask undefined. -/
theorem witness_tally_commands :
    let lamps : Tab 8 Byte := (Tab.fill 8 9).write 1 2
    let states : Tab 8 LampState := Tab.fill 8 .preview
    (∀ n : Lamp, (2 : Byte).getLsbD n.val = true → lamps.read n = (states.read n).number) ∧
    (after (.setTallySource .near 3 2 lamps) (rig .mast)).batch.tallySource.read 1 = .preview ∧
    (after (.setTallySource .near 3 2 lamps) (rig .mast)).batch.tallySource.read 0 = .off ∧
    (after (.setTallyOverride .near 3 2 lamps) (rig .mast)).lampLines 1 = (false, true) ∧
    (after (.clearTallyOverride .near 3) (after (.setTallyOverride .near 3 2 lamps) (rig .mast))
      ).lampLines 1 = (false, false) ∧
    portRecords (after (.setTallyOverride .near 3 8 ((Tab.fill 8 0).write 3 3)) (rig .mast)) =
      [[2, 3, 18, 2, 0, 9, 0, 0, 0, 0]] := by decide +kernel

/-- Witness of `AckEventsAndFlushTributary`: the highest event, a set one too high, and tributary 7. -/
theorem witness_ack_and_flush :
    let r := (rig .mast).raise .mgmtDrop (.dropped .port .notice)
    let s := (r.raise .fibreDown (.wayOut .headers)).withEgress { r.egress with
      fifo := r.egress.fifo.write 7 [.fill, .fill] }
    ((2 ^ 19 : BitVec 24).toNat < 2 ^ 20 ∧ 2 ^ 20 ≤ (2 ^ 20 : BitVec 24).toNat) ∧
    portRecords (after (.ackEvents .near 3 (2 ^ 19)) s) =
      [[2, 3, 21, 0, 0, 0, 0, 0, 0, 0, 0, 0, 1]] ∧
    (after (.ackEvents .near 3 (2 ^ 19)) s).events.event.read 19 =
      ⟨false, some (.dropped .port .notice), false⟩ ∧
    portRecords (after (.ackEvents .near 3 (2 ^ 20)) s) = [[2, 3, 21, 3, 0, 4, 0, 0, 0, 0]] ∧
    portRecords (after (.flushTributary .near 3 7) s) = [[2, 3, 22, 0, 0, 0, 0, 0, 0, 0, 7, 0, 2]] ∧
    (after (.flushTributary .near 3 7) s).egress.fifo.read 7 = [] := by decide +kernel

/-- Witness of `ResetDatapathInEveryBlock`, a receiver TIMED and a cell held. -/
theorem witness_reset_datapath :
    let r := (truck21 4000 10).putWindow 21 ⟨true, 702, [heldOf 703 40 0 0], 3⟩
    let s := r.withMgmt { r.mgmt with portQueue := [cellOf 4], bar := true }
    let t := after (.resetDatapath .near 3) s
    (s.inReset = false ∧ s.timed .fibre = true ∧ s.sourceChosen ∧ s.planFresh ∧
      s.fibreRx.laneKept ∧ s.fibreRx.boundary ≠ none) ∧
    portRecords t = [[2, 3, 23, 0, 0, 0, 0, 0, 0, 0]] ∧ t.mgmt.bar = true ∧
    t.clock.time = ⟨4000, 10⟩ ∧ t.fibreRx.state = .hunt ∧
    t.merge.window.read 21 = ⟨false, 0, [], 0⟩ ∧ (t.merge.counts.read 21).flushed = 1 ∧
    (t.events.event.read 1).detail = some (.wayOut .reset) := by
  unfold State.sourceChosen State.planFresh Receiver.laneKept; decide +kernel

/-- Witness of `JudgingMarksWhatItLists`: an URGENT event takes a ROUTINE one along; a ROUTINE one alone
waits for the interval; MGMT-DROP is kept from its own queue. -/
theorem witness_judging :
    let r := rig .mast
    let routine := r.raise .radioUp (.superframe 1002)
    let urgent := routine.raise .radioDown (.wayOut .absence)
    let off := urgent.withMgmt { urgent.mgmt with
      settings := { urgent.mgmt.settings with reportEnable := false } }
    let drop := r.raise .mgmtDrop (.dropped .flow0 .notice)
    (off.mgmt.settings.reportEnable = false ∧
      routine.events.listing routine.mgmt.settings .port = [9] ∧
      routine.events.callsForReport routine.mgmt.settings 9 = false ∧
      urgent.events.listing urgent.mgmt.settings .flow0 = [1, 9] ∧
      urgent.events.callsForReport urgent.mgmt.settings 1 = true ∧
      drop.events.listing drop.mgmt.settings .flow0 = [] ∧
      drop.events.listing drop.mgmt.settings .port = [19]) ∧
    portRecords (urgent.judge 1006).1 =
      [[3, 0, 3, 238, 2, 1, 0, 0, 0, 0, 9, 3, 234, 0, 0]] ∧
    ((urgent.judge 1006).1.events.event.read 9).unreported = false ∧
    portRecords (routine.judge 1006).1 = [] ∧
    ((urgent.judge 1006).2.map CellData.record = some [3, 0, 3, 238, 2, 1, 0, 0, 0, 0, 9, 3, 234, 0, 0]) ∧
    (let full := urgent.withMgmt { urgent.mgmt with portQueue := List.replicate 16 (cellOf 4) }
     (full.judge 1006).1.mgmt.portDrops = 1 ∧
     (full.judge 1006).1.events.event.read 19 = EventState.raised (.dropped .port .notice)) := by decide +kernel

/-! ### Laws that every step keeps -/

/-- A lawful part with a command that waits, from which a step goes on: the witness of the laws. -/
def waiting : State := (rig .mast).withPending [.setBar .near 9]

theorem witness_step : (match step waiting with
    | .next t => t.mgmt.bar
    | _ => false) = true := by decide +kernel

/-- Witness of `StepKeepsQueuesWithinSize` and `StepKeepsRanges`. -/
theorem witness_queues_and_ranges :
    waiting.queuesFit ∧ poolWf waiting.merge.pool = true ∧ waiting.rangesKept ∧
    waiting.skewBounded := by
  refine ⟨by unfold State.queuesFit; decide +kernel, by decide +kernel, ⟨?_, trivial, trivial, ?_⟩,
    by decide +kernel, by decide +kernel, by decide +kernel, ?_⟩
  · unfold Settings.inRange; decide +kernel
  · decide +kernel
  · intro n hn; exact absurd hn (by simp [waiting, rig, State.powerOn, LinkClock.powerOn])

/-- Witness of `StepKeepsEveryBuffer`. -/
theorem witness_buffers : waiting.merge.buffersKept := by
  have held : waiting.merge.heldBuffers = [] := by decide +kernel
  have free : waiting.merge.free = powerOnFree := rfl
  unfold MergeUnit.buffersKept
  rw [held, free, List.append_nil]

/-- Witness of `StepKeepsMergeWindows`, with a flow whose window runs. -/
theorem witness_windows :
    (waiting.putEntry 21 (.used .inbound entry21)).windowsLawful := by
  intro f
  have w : (waiting.putEntry 21 (.used .inbound entry21)).merge.window.read f = MergeWindow.powerOn := by
    simp [waiting, rig, State.putEntry, State.powerOn, MergeUnit.powerOn, State.withPending,
      State.withTable]
  rw [w]
  unfold MergeWindow.lawful
  split
  · exact ⟨rfl, rfl⟩
  · exact ⟨fun _ => rfl, List.Pairwise.nil, fun r hr => by cases hr⟩

/-- Witness of the second part of `StepKeepsMergeWindows`: a hold found to have expired, and none. -/
theorem witness_holds_judged :
    waiting.holdsJudged ∧
    (((truck21 4005 1245).putWindow 21 ⟨true, 707, [heldOf 708 42 4004 10], 0⟩).judgeHolds
      ).holdsJudged := by
  unfold State.holdsJudged; decide +kernel

/-- Witness of `StepKeepsTables`. -/
theorem witness_tables : waiting.table.lawful ∧ waiting.tallyTimerFollows := by
  unfold TableControl.lawful State.tallyTimerFollows; decide +kernel

/-- Witness of `RadioPlanStaysFreshAndFits`: a fresh plan; and a start above and one within the usable
slots. -/
theorem witness_plan :
    waiting.planFresh ∧ (firstFit 10 11 [(5, entry21)]) = ([], 11) ∧
    (firstFit 10 8 [(5, entry21), (6, entry21)]) = ([5], 10) ∧
    ((candidates planBank .lost).map Prod.fst) = [7, 5, 6] ∧
    ((candidates planBank .present).map Prod.fst) = [5, 6] := by
  unfold State.planFresh; decide +kernel

/-- Witness of the far reports in `RadioPlanStaysFreshAndFits`: a report that confirms, a first that
opposes, and a second, which sheds flow 7 and restores flow 6 under the worked bank (R69, R75). -/
theorem witness_far_reports :
    let r := rig .mast
    let s (run : Nat) := (r.withTable { r.table with bank0 := planBank }).withPlanner
      ({ RadioPlanner.powerOn with grade := 15, farFibre := .lost, opposingRun := run }.compute planBank)
    let t := (s 1).farReport true
    (s 0).planner.farFibre = .lost ∧ ((s 1).farReport false).planner.opposingRun = 0 ∧
    ((s 0).farReport true).planner.opposingRun = 1 ∧
    (t.planner.farFibre, t.planner.plan) = (.present, [5, 6]) ∧
    (t.events.event.read 6).detail = some (.flows 7 1) ∧
    (t.events.event.read 11).detail = some (.flows 6 1) := by decide +kernel

/-- Witness of `StepKeepsReceiversAndSource`. -/
theorem witness_receivers :
    waiting.fibreRx.runsKept ∧ waiting.radioRx.runsKept ∧ waiting.sourceChosen ∧
    waiting.radioWithinGrade ∧ waiting.fibreRx.laneKept ∧ waiting.radioRx.laneKept ∧
    (rxIn .timed).laneKept ∧ { rxIn .confirm with atFoundCell := true, arrived := 204 }.laneKept := by
  unfold Receiver.runsKept Receiver.laneKept State.sourceChosen State.radioWithinGrade
  decide +kernel

/-- Witness of `FrozenWindowStands`: a SET-WINDOW that a frozen window refuses. -/
theorem witness_frozen :
    let r := rig .mast
    let s := (r.withMgmt { r.mgmt with frozen := true, windowLow := 10, windowHigh := 20 }).withPending
      [.setWindow .near 3 1 63]
    s.pending = [.setWindow .near 3 1 63] ∧ s.mgmt.frozen = true ∧
    (Instr.setWindow .near 3 1 63) ≠ .resetAssert ∧
    (match step s with
      | .next t => (t.mgmt.windowLow, t.mgmt.windowHigh)
      | _ => (0, 0)) = (10, 20) := by decide +kernel

end Sys2Proof.Machine
end

section
/-! SUPPORT. Table Control (02_the_flow_table.md): what its operations do, once each, and when the
consistency check passes (R18 to R37); and the proof that the consistency check is the one of R26 to
R29. -/

namespace Sys2Proof.Machine

/-! ### The two banks (R17) -/

section Banks

variable (t : TableControl)

@[simp] theorem TableControl.withShadow_active (entries : Tab 64 Entry) :
    (t.withShadow entries).active = t.active := by
  unfold TableControl.withShadow; split <;> rfl

@[simp] theorem TableControl.withShadow_pendingSwap (entries : Tab 64 Entry) :
    (t.withShadow entries).pendingSwap = t.pendingSwap := by
  unfold TableControl.withShadow; split <;> rfl

@[simp] theorem TableControl.withShadow_activeBank (entries : Tab 64 Entry) :
    (t.withShadow entries).activeBank = t.activeBank := by
  obtain ⟨bank0, bank1, active, pendingSwap⟩ := t
  cases active <;> rfl

@[simp] theorem TableControl.withShadow_shadowBank (entries : Tab 64 Entry) :
    (t.withShadow entries).shadowBank = entries := by
  obtain ⟨bank0, bank1, active, pendingSwap⟩ := t
  cases active <;> rfl

/-- A swap makes the shadow bank the active one (R34). -/
@[simp] theorem TableControl.swapped_activeBank : t.swapped.activeBank = t.shadowBank := by
  obtain ⟨bank0, bank1, active, pendingSwap⟩ := t
  cases active <;> rfl

end Banks

/-! ### The consistency check (R26 to R30) -/

/-- A filter of the entries 1..63 that nothing passes. -/
theorem filter_userFlows_eq_nil (p : Flow → Bool) :
    userFlows.filter p = [] ↔ ∀ f : Flow, f ≠ 0 → p f = false := by
  simp [List.filter_eq_nil_iff]

/-- TRIB finds nothing exactly when no two entries conflict (R27). -/
theorem tribConflict_eq_none_iff (entries : Tab 64 Entry) :
    tribConflict entries = none ↔ ∀ f g : Flow, f ≠ 0 → g ≠ 0 → f ≠ g →
      (entries.read f).conflicts (entries.read g) = false := by
  have none_at (f : Flow) : ((conflictsOf entries f).head?.map fun g => (f, g)) = none ↔
      ∀ g : Flow, g ≠ 0 → f ≠ g → (entries.read f).conflicts (entries.read g) = false := by
    rw [Option.map_eq_none_iff, List.head?_eq_none_iff, conflictsOf, filter_userFlows_eq_nil]
    refine forall₂_congr fun g _ => ?_
    by_cases same : g = f
    · simp [same]
    · simp [same, Ne.symm same]
  simp only [tribConflict, List.findSome?_eq_none_iff, mem_userFlows, none_at]
  exact ⟨fun h f g hf hg => h f hf g hg, fun h f hf g hg => h f g hf hg⟩

/-- The check passes exactly when each of its three tests finds nothing (R26). -/
theorem consistencyCheck_pass_iff (entries : Tab 64 Entry) :
    consistencyCheck entries = .pass ↔ tribConflict entries = none ∧
      fibreDemand entries ≤ 1527 ∧ ∀ f : Flow, f ≠ 0 → (entries.read f).classFails = false := by
  have class_none : (userFlows.find? fun f => (entries.read f).classFails) = none ↔
      ∀ f : Flow, f ≠ 0 → (entries.read f).classFails = false := by simp
  unfold consistencyCheck
  rw [← class_none]
  generalize userFlows.find? (fun f => (entries.read f).classFails) = failing
  cases tribConflict entries with
  | some _ => simp
  | none =>
    by_cases exceeds : Config.usableFibreSlots < fibreDemand entries
    · simp [exceeds, Nat.not_le.mpr (show 1527 < fibreDemand entries from exceeds)]
    · have within : fibreDemand entries ≤ 1527 := Nat.not_lt.mp exceeds
      cases failing <;> simp [exceeds, within]

/-- Two entries conflict when they have one state and one endpoint (R27). -/
theorem Entry.conflicts_eq_false_iff (a b : Entry) :
    a.conflicts b = false ↔ ∀ (d : Direction) (x y : EntryFields),
      a = .used d x → b = .used d y → x.endpoint ≠ y.endpoint := by
  cases a with
  | unused => simp [Entry.conflicts]
  | used d x =>
    cases b with
    | unused => simp [Entry.conflicts]
    | used d' y =>
      simp only [Entry.conflicts, Bool.and_eq_false_iff, beq_eq_false_iff_ne, Entry.used.injEq]
      constructor
      · rintro differ _ _ _ ⟨rfl, rfl⟩ ⟨rfl, rfl⟩
        exact differ.resolve_left (· rfl)
      · intro h
        by_cases hd : d = d'
        · exact .inr (h d x y ⟨rfl, rfl⟩ ⟨hd.symm, rfl⟩)
        · exact .inl hd

/-- CLASS finds nothing at an entry whose class and endpoint are TALLY together or not at all
(R29). -/
theorem Entry.classFails_eq_false_iff (e : Entry) :
    e.classFails = false ↔ ∀ (d : Direction) (x : EntryFields), e = .used d x →
      (x.cls = .tally ↔ x.endpoint = .tally) := by
  cases e with
  | unused => simp [Entry.classFails]
  | used d x =>
    rw [Entry.classFails, bne_eq_false_iff_eq, Bool.eq_iff_iff, beq_iff_eq, beq_iff_eq]
    simp only [Entry.used.injEq]
    exact ⟨fun h _ _ ⟨_, same⟩ => same ▸ h, fun h => h d x ⟨rfl, rfl⟩⟩

/-- Settles O44: the three tests of the check, each as the rule that it enforces. -/
theorem consistencyCheckPasses : Obligations.ConsistencyCheckPasses := by
  intro entries
  rw [consistencyCheck_pass_iff, tribConflict_eq_none_iff]
  simp only [Entry.conflicts_eq_false_iff, Entry.classFails_eq_false_iff]
  exact ⟨fun ⟨trib, demand, cls⟩ =>
      ⟨fun f g d x y hf hg hne => trib f g hf hg hne d x y, demand, fun f d x hf => cls f hf d x⟩,
    fun ⟨trib, demand, cls⟩ =>
      ⟨fun f g hf hg hne d x y => trib f g d x y hf hg hne, demand, fun f hf d x => cls f d x hf⟩⟩

end Sys2Proof.Machine
end

section
/-! SUPPORT. What each operation of the part does to the Flow Table's laws and to the tally-loss timer
(R20, R34, R148, R150), operation by operation up to the step; and the proof that every step keeps
them. -/

namespace Sys2Proof.Machine

/-! ### Banks within the law (R18, R20) -/

theorem bankLawful_iff (entries : Tab 64 Entry) :
    bankLawful entries = true ↔ entries.read 0 = .used .bothWays EntryFields.management ∧
      ∀ f : Flow, f ≠ 0 → (entries.read f).inRange = true := by
  simp [bankLawful]

/-- A lawful bank stays so when an entry 1..63 takes a value in range. -/
theorem bankLawful_write {entries : Tab 64 Entry} {f : Flow} {e : Entry}
    (lawful : bankLawful entries = true) (hf : f ≠ 0) (he : e.inRange = true) :
    bankLawful (entries.write f e) = true := by
  rw [bankLawful_iff] at lawful ⊢
  obtain ⟨fixed, ranges⟩ := lawful
  refine ⟨by rw [Tab.read_write_other _ _ hf.symm, fixed], fun g hg => ?_⟩
  rw [Tab.read_write]
  split
  · exact he
  · exact ranges g hg

/-- A bank made of entries of two lawful ones, entry 0 from the second, is lawful. -/
theorem bankLawful_build {source entries : Tab 64 Entry} (copied : Flow → Bool)
    (hs : bankLawful source = true) (he : bankLawful entries = true) (zero : copied 0 = false) :
    bankLawful (Tab.build fun f => if copied f then source.read f else entries.read f) = true := by
  rw [bankLawful_iff] at hs he ⊢
  refine ⟨by simp [zero, he.1], fun f hf => ?_⟩
  rw [Tab.read_build]
  split
  · exact hs.2 f hf
  · exact he.2 f hf

/-- The bank of power-on passes the check and is lawful (R17, R20). -/
theorem powerOnBank_lawful :
    bankLawful powerOnBank = true ∧ consistencyCheck powerOnBank = .pass ∧
    hasInboundTally powerOnBank = false := by decide +kernel

/-! ### The entry that a write stores (R18, R22) -/

/-- A number brought into a range that is not empty. -/
theorem clampNumber_eq {low high : Nat} (v : Nat) (h : low ≤ high) :
    clampNumber low high v = (max low (min high v), decide (v < low ∨ high < v)) := by
  unfold clampNumber
  split
  · next below => simp [below]; omega
  · split
    · next above => simp [above]; omega
    · next below above => simp [below, above]; omega

/-- The numbers that a write stores (R18, R22). -/
theorem numericFields_eq (raw : RawEntry) :
    numericFields raw =
      ((max 1 (min 1527 raw.rate.toNat), min 15 raw.rank.toNat,
          if raw.margin = 0 then 16 else raw.margin.toNat,
          if raw.depth = 0 then 256 else max 4 (min 1024 raw.depth.toNat)),
        decide (raw.rate = 0 ∨ 1527 < raw.rate.toNat ∨ 15 < raw.rank.toNat ∨
          (raw.depth ≠ 0 ∧ raw.depth.toNat < 4) ∨ 1024 < raw.depth.toNat)) := by
  have rate_zero : raw.rate = 0 ↔ raw.rate.toNat < 1 := by
    rw [← BitVec.toNat_inj]; simp
  simp only [numericFields, clampNumber_eq raw.rate.toNat (by decide : 1 ≤ 1527),
    clampNumber_eq raw.rank.toNat (by decide : 0 ≤ 15),
    clampNumber_eq raw.depth.toNat (by decide : 4 ≤ 1024), rate_zero]
  by_cases depth : raw.depth = 0
  · simp [depth, Bool.or_assoc]
  · simp only [depth, if_false, ne_eq, not_false_eq_true, true_and, Bool.decide_or, Bool.or_assoc,
      Nat.zero_max, Nat.not_lt_zero, decide_false, Bool.false_or]

/-- The entry of a record whose enumerated fields are all defined (R22). -/
theorem entryOfRecord_defined {raw : RawEntry} {d : Direction} {ep : Endpoint} {c : FlowClass}
    {p : Protection} (hd : raw.state = 1 ∧ d = .outbound ∨ raw.state = 2 ∧ d = .inbound)
    (hep : endpointOperand raw.endpoint = some ep) (hc : classOperand raw.cls = some c)
    (hp : protectionOperand raw.protection = some p) :
    entryOfRecord raw = .ok
      (.used d
        { endpoint := ep, cls := c, protection := p, rate := (numericFields raw).1.1
          rank := (numericFields raw).1.2.1, margin := (numericFields raw).1.2.2.1
          depth := (numericFields raw).1.2.2.2 },
        (numericFields raw).2) := by
  rcases hd with ⟨hs, rfl⟩ | ⟨hs, rfl⟩ <;> simp [entryOfRecord, hs, hep, hc, hp]

/-- No operand of a write names the endpoint MGMT (R22). -/
theorem endpointOperand_ne_mgmt (b : Byte) : endpointOperand b ≠ some .mgmt := by
  unfold endpointOperand
  (repeat' split) <;> simp

/-- What a write stores is in range (R18). -/
theorem entryOfRecord_inRange {raw : RawEntry} {e : Entry} {clamped : Bool}
    (h : entryOfRecord raw = .ok (e, clamped)) : e.inRange = true := by
  unfold entryOfRecord at h
  split at h
  · cases h; rfl
  · dsimp only at h
    split at h <;> cases h
    next d ep c p hd hep hc hp =>
    have directed : d ≠ .bothWays := by
      rintro rfl; revert hd; (repeat' split) <;> simp
    have endpoint : ep ≠ .mgmt := by
      rintro rfl; exact endpointOperand_ne_mgmt _ hep
    have margin := raw.margin.isLt
    have margin_zero : raw.margin = 0 ↔ raw.margin.toNat = 0 := by
      rw [← BitVec.toNat_inj]; simp
    rw [numericFields_eq]
    simp only [Entry.inRange, margin_zero, Bool.and_eq_true, bne_iff_ne, decide_eq_true_eq]
    refine ⟨⟨⟨⟨⟨⟨⟨⟨directed, endpoint⟩, ?_⟩, ?_⟩, ?_⟩, ?_⟩, ?_⟩, ?_⟩, ?_⟩
    all_goals (try split) <;> omega

/-! ### What a table command can do to the table (R21 to R24) -/

/-- `u` is `t`, or `t` with a bank in its shadow that is lawful where the banks of `t` are, and no
swap was pending (R21). -/
def TableControl.EditedTo (t u : TableControl) : Prop :=
  u = t ∨ t.pendingSwap = none ∧ ∃ entries : Tab 64 Entry, u = t.withShadow entries ∧
    ((∀ b : BankNo, bankLawful (t.bank b) = true) → bankLawful entries = true)

/-- A command that passes the tests of R21 names the shadow bank, not entry 0, and meets no pending
swap. -/
theorem editRefusal_eq_none {t : TableControl} {badBanks badRange : List Nat}
    {destination : Option BankNo} {zero : Bool}
    (h : editRefusal t badBanks badRange destination zero = none) :
    badBanks = [] ∧ badRange = [] ∧ destination = some t.shadow ∧ zero = false ∧
      t.pendingSwap = none := by
  unfold editRefusal at h
  split_ifs at h with banks range active fixed busy
  exact ⟨not_not.mp banks, not_not.mp range, not_not.mp active, by simpa using fixed,
    by simpa using busy⟩

/-- A flow operand other than 0 names a flow other than 0. -/
theorem flowOperand_ne_zero {b : Byte} {f : Flow} (h : flowOperand b = some f) (hb : b ≠ 0) :
    f ≠ 0 := by
  unfold flowOperand at h
  split at h
  · rintro rfl
    refine hb (BitVec.eq_of_toNat_eq ?_)
    simpa using congrArg (Option.map Fin.val) h
  · cases h

theorem TableControl.writeEntry_edits (t : TableControl) (bank flow : Byte) (raw : RawEntry) :
    t.EditedTo (t.writeEntry bank flow raw).2 := by
  unfold TableControl.writeEntry
  dsimp only
  split
  · exact .inl rfl
  · exact .inl rfl
  · next f passed hf =>
    obtain ⟨-, -, -, hzero, idle⟩ := editRefusal_eq_none passed
    split
    · exact .inl rfl
    · next e clamped he =>
      exact .inr ⟨idle, _, rfl, fun lawful =>
        bankLawful_write (lawful _) (flowOperand_ne_zero hf (by simpa using hzero))
          (entryOfRecord_inRange he)⟩

theorem TableControl.clearEntry_edits (t : TableControl) (bank flow : Byte) :
    t.EditedTo (t.clearEntry bank flow).2 := by
  unfold TableControl.clearEntry
  dsimp only
  split
  · exact .inl rfl
  · exact .inl rfl
  · next f passed hf =>
    obtain ⟨-, -, -, hzero, idle⟩ := editRefusal_eq_none passed
    exact .inr ⟨idle, _, rfl, fun lawful =>
      bankLawful_write (lawful _) (flowOperand_ne_zero hf (by simpa using hzero)) rfl⟩

theorem TableControl.copyEntries_edits (t : TableControl) (source destination first count : Byte) :
    t.EditedTo (t.copyEntries source destination first count).2 := by
  unfold TableControl.copyEntries
  split
  · exact .inl rfl
  · exact .inl rfl
  · next b passed hb =>
    obtain ⟨-, -, -, -, idle⟩ := editRefusal_eq_none passed
    exact .inr ⟨idle, _, rfl, fun lawful =>
      bankLawful_build _ (lawful b) (lawful t.shadow) (by simp)⟩

/-- An edit leaves the active bank as it stands. -/
theorem TableControl.EditedTo.activeBank {t u : TableControl} (h : t.EditedTo u) :
    u.activeBank = t.activeBank := by
  rcases h with rfl | ⟨-, entries, rfl, -⟩
  · rfl
  · exact t.withShadow_activeBank entries

/-! ### The laws of the table under its operations (R26, R31 to R34) -/

theorem TableControl.lawful.bank {t : TableControl} (h : t.lawful) (b : BankNo) :
    bankLawful (t.bank b) = true := by
  obtain ⟨h0, h1, -, -⟩ := h
  cases b with
  | bank0 => exact h0
  | bank1 => exact h1

theorem TableControl.EditedTo.lawful {t u : TableControl} (h : t.EditedTo u) (lawful : t.lawful) :
    u.lawful := by
  rcases h with rfl | ⟨idle, entries, rfl, keeps⟩
  · exact lawful
  · have shadow : bankLawful entries = true := keeps lawful.bank
    obtain ⟨h0, h1, check, -⟩ := lawful
    refine ⟨?_, ?_, by simpa using check, by simp [idle]⟩
    · unfold TableControl.withShadow; split <;> assumption
    · unfold TableControl.withShadow; split <;> assumption

/-- A pending swap may be set when the shadow bank passes the check, and cleared (R31 to R33). -/
theorem TableControl.lawful.withPendingSwap {t : TableControl} (h : t.lawful)
    (target : Option Superframe)
    (passes : target.isSome = true → consistencyCheck t.shadowBank = .pass) :
    TableControl.lawful { t with pendingSwap := target } := by
  obtain ⟨h0, h1, check, -⟩ := h
  exact ⟨h0, h1, check, passes⟩

/-- The execution of a pending swap keeps the laws of the table (R34). -/
theorem TableControl.lawful.swapped {t : TableControl} (h : t.lawful)
    (pending : t.pendingSwap.isSome = true) : t.swapped.lawful := by
  obtain ⟨h0, h1, -, shadow⟩ := h
  exact ⟨h0, h1, by simpa using shadow pending, fun none_pending => by cases none_pending⟩

/-- A check that refuses nothing is a pass. -/
theorem CheckResult.refusal_eq_none_iff (r : CheckResult) : r.refusal = none ↔ r = .pass := by
  cases r <;> simp [CheckResult.refusal]

theorem TableControl.swapAt_lawful {t : TableControl} (h : t.lawful) (c : Superframe)
    (x : BitVec 16) : (t.swapAt c x).2.lawful := by
  unfold TableControl.swapAt
  dsimp only
  split
  · exact h
  · split
    · exact h
    · next passes =>
      split
      · exact h.withPendingSwap _ fun _ => (CheckResult.refusal_eq_none_iff _).mp passes
      · exact h

theorem TableControl.swapAt_activeBank (t : TableControl) (c : Superframe) (x : BitVec 16) :
    (t.swapAt c x).2.activeBank = t.activeBank := by
  unfold TableControl.swapAt
  dsimp only
  (repeat' split) <;> rfl

theorem TableControl.cancelSwap_eq (t : TableControl) :
    t.cancelSwap.2 = { t with pendingSwap := none } := by
  unfold TableControl.cancelSwap
  split
  · rfl
  · next idle => rw [← idle]

theorem TableControl.powerOn_lawful : TableControl.powerOn.lawful := by
  obtain ⟨lawful, check, -⟩ := powerOnBank_lawful
  exact ⟨lawful, lawful, check, fun pending => by cases pending⟩

/-! ### Operations that keep the laws -/

/-- From `s` to `t` the table stays lawful and the tally-loss timer STOPPED exactly while no INBOUND
TALLY entry is active. -/
def State.KeepsTables (s t : State) : Prop :=
  (s.table.lawful → t.table.lawful) ∧ (s.tallyTimerFollows → t.tallyTimerFollows)

theorem State.KeepsTables.refl (s : State) : s.KeepsTables s := ⟨id, id⟩

theorem State.KeepsTables.trans {s t u : State} (h : s.KeepsTables t) (h' : t.KeepsTables u) :
    s.KeepsTables u :=
  ⟨h'.1 ∘ h.1, h'.2 ∘ h.2⟩

/-- An operation that leaves the table alone, and the tally-loss timer STOPPED where it was and only
there, keeps the laws. -/
theorem State.KeepsTables.of_table {s t : State} (table : t.table = s.table)
    (timer : t.tally.timer = .stopped ↔ s.tally.timer = .stopped) : s.KeepsTables t := by
  unfold State.KeepsTables State.tallyTimerFollows
  rw [table, timer]
  exact ⟨id, id⟩

/-- An operation that leaves the table and the Tally Unit alone keeps the laws. -/
theorem State.KeepsTables.of_frame {s t : State} (table : t.table = s.table)
    (tally : t.tally = s.tally) : s.KeepsTables t :=
  .of_table table (by rw [tally])

/-- A fold of operations that keep the laws keeps them. -/
theorem State.KeepsTables.foldl {α : Type} {f : State → α → State}
    (keeps : ∀ (s : State) (a : α), s.KeepsTables (f s a)) (l : List α) (s : State) :
    s.KeepsTables (l.foldl f s) := by
  induction l generalizing s with
  | nil => exact .refl s
  | cons a l ih => exact (keeps s a).trans (ih (f s a))

/-! ### Management commands -/

/-- A table command that edits the shadow bank keeps the laws. -/
theorem State.KeepsTables.of_edit {s : State} {u : TableControl} (h : s.table.EditedTo u) :
    s.KeepsTables (s.withTable u) := by
  refine ⟨h.lawful, fun follows => ?_⟩
  unfold State.tallyTimerFollows
  rw [State.withTable_table, h.activeBank]
  exact follows

theorem State.runSwapAt_keepsTables (s : State) (x : BitVec 16) :
    s.KeepsTables (s.runSwapAt x).2 := by
  refine ⟨fun lawful => TableControl.swapAt_lawful lawful _ x, fun follows => ?_⟩
  unfold State.tallyTimerFollows State.runSwapAt State.keepTable
  rw [State.withTable_table, TableControl.swapAt_activeBank]
  exact follows

theorem State.runCancelSwap_keepsTables (s : State) : s.KeepsTables s.runCancelSwap.2 := by
  unfold State.runCancelSwap State.keepTable
  rw [TableControl.cancelSwap_eq]
  exact ⟨fun lawful => lawful.withPendingSwap none (fun pending => by cases pending), id⟩

theorem State.datapathReset_keepsTables (s : State) : s.KeepsTables s.datapathReset := by
  have table : s.datapathReset.table = { s.table with pendingSwap := none } := by
    simp [State.datapathReset, State.resetBlocks, TableControl.datapathReset]
  have tally : s.datapathReset.tally = s.tally := by
    simp [State.datapathReset, State.resetBlocks]
  refine ⟨fun lawful => ?_, fun follows => ?_⟩
  · rw [table]
    exact lawful.withPendingSwap none (fun pending => by cases pending)
  · unfold State.tallyTimerFollows
    rw [table, tally]
    exact follows

theorem State.runSetSetting_keepsTables (s : State) (name index : Byte) (value : BitVec 16) :
    s.KeepsTables (s.runSetSetting name index value).2 :=
  .of_frame (by simp [State.runSetSetting, State.rejudgeHolds])
    (by simp [State.runSetSetting, State.rejudgeHolds])

theorem State.runReadFlowCounts_keepsTables (s : State) (flow clear : Byte) :
    s.KeepsTables (s.runReadFlowCounts flow clear).2 := by
  unfold State.runReadFlowCounts
  split <;> exact .of_frame rfl rfl

theorem State.runReadBearer_keepsTables (s : State) (bearer clear : Byte) :
    s.KeepsTables (s.runReadBearer bearer clear).2 := by
  unfold State.runReadBearer
  split
  · exact .refl s
  · exact .refl s
  · exact .refl s
  · exact .of_frame (by simp) (by simp)

theorem State.runSetTally_keepsTables (s : State) (object mask : Byte) (lamps : Tab 8 Byte) :
    s.KeepsTables (s.runSetTally object mask lamps).2 := by
  unfold State.runSetTally
  split
  · exact .of_frame rfl rfl
  · unfold State.runSetTallyOverride
    split
    · exact .refl s
    · exact .of_table rfl Iff.rfl
  · exact .refl s

theorem State.runAckEvents_keepsTables (s : State) (events : BitVec 24) :
    s.KeepsTables (s.runAckEvents events).2 := by
  unfold State.runAckEvents
  split <;> exact .of_frame rfl rfl

theorem State.runFlushTributary_keepsTables (s : State) (trib : Byte) :
    s.KeepsTables (s.runFlushTributary trib).2 := by
  unfold State.runFlushTributary
  split <;> exact .of_frame rfl rfl

/-- Every management command keeps the laws: those that edit the shadow meet no pending swap, a swap
is accepted for a shadow that passes the check, and no other command touches the table (R21, R32). -/
theorem State.run_keepsTables (s : State) (c : Command) : s.KeepsTables (s.run c).2 := by
  cases c with
  | writeEntry bank flow fields => exact .of_edit (s.table.writeEntry_edits bank flow fields)
  | clearEntry bank flow => exact .of_edit (s.table.clearEntry_edits bank flow)
  | copyEntries source destination first count =>
    exact .of_edit (s.table.copyEntries_edits source destination first count)
  | swapAt target => exact s.runSwapAt_keepsTables target
  | cancelSwap => exact s.runCancelSwap_keepsTables
  | readFlowCounts flow clear => exact s.runReadFlowCounts_keepsTables flow clear
  | readBearer bearer clear => exact s.runReadBearer_keepsTables bearer clear
  | setSetting name index value => exact s.runSetSetting_keepsTables name index value
  | setTally object mask lamps => exact s.runSetTally_keepsTables object mask lamps
  | clearTallyOverride => exact .of_table rfl Iff.rfl
  | ackEvents events => exact s.runAckEvents_keepsTables events
  | flushTributary trib => exact s.runFlushTributary_keepsTables trib
  | resetDatapath => exact s.datapathReset_keepsTables
  | identify | readEntry | checkShadow | readLink | readSettings | setWindow | freezeWindow | setBar
  | clearBar | readEvents => exact .of_frame rfl rfl

theorem State.answer_keepsTables (s : State) (o : Origin) (tag number : Byte) (r : Reply) :
    s.KeepsTables (s.answer o tag number r) :=
  .of_frame (by simp) (by simp)

theorem State.malformedCell_keepsTables (s : State) : s.KeepsTables s.malformedCell :=
  .of_frame rfl rfl

theorem State.carryOut_keepsTables (s : State) (o : Origin) (tag : Byte) (c : Command) :
    s.KeepsTables (s.carryOut o tag c) := by
  unfold State.carryOut
  split
  · exact s.answer_keepsTables ..
  · exact (s.run_keepsTables c).trans (State.answer_keepsTables ..)

theorem State.carryOutRecord_keepsTables (s : State) (o : Origin) (record : List Byte) :
    s.KeepsTables (s.carryOutRecord o record) := by
  unfold State.carryOutRecord
  split
  · exact s.answer_keepsTables ..
  · exact s.answer_keepsTables ..
  · exact s.carryOut_keepsTables ..

theorem State.forwardCommand_keepsTables (s : State) (cell : CellData) :
    s.KeepsTables (s.forwardCommand cell) := by
  unfold State.forwardCommand
  dsimp only
  split
  · exact s.answer_keepsTables ..
  · split
    · exact s.answer_keepsTables ..
    · exact .of_frame rfl rfl

theorem State.portCell_keepsTables (s : State) (cell : CellData) :
    s.KeepsTables (s.portCell cell) := by
  unfold State.portCell
  split
  · exact s.malformedCell_keepsTables
  · split
    · split
      · exact s.malformedCell_keepsTables
      · split
        · exact s.carryOutRecord_keepsTables ..
        · exact s.forwardCommand_keepsTables cell
        · exact s.answer_keepsTables ..
    all_goals exact s.malformedCell_keepsTables

theorem State.flow0Cell_keepsTables (s : State) (cell : CellData) :
    s.KeepsTables (s.flow0Cell cell) := by
  unfold State.flow0Cell
  split
  · split
    · exact s.malformedCell_keepsTables
    · exact s.carryOutRecord_keepsTables ..
  · exact .of_frame (by simp) (by simp)
  · exact .of_frame (by simp) (by simp)
  · exact s.malformedCell_keepsTables

/-! ### Deliveries (R127, R149) -/

/-- A flow that this end receives for the Tally Unit has an INBOUND TALLY entry (R113, R148). -/
theorem State.hasInboundTally_of_receiving {s : State} {f : Flow} {x : EntryFields}
    (received : s.receiving f = some x) (tally : x.endpoint = .tally) :
    hasInboundTally s.table.activeBank = true := by
  unfold State.receiving at received
  split at received
  · cases received; cases tally
  · next hf =>
    refine List.any_eq_true.mpr ⟨f, (mem_userFlows f).mpr hf, ?_⟩
    unfold State.activeEntry at received
    simp [received, tally]

/-- A tally cell starts the timer, which its flow's entry lets run (R149). -/
theorem State.tallyDeliveries_keepTables (run : List Delivery) (s : State)
    (governed : hasInboundTally s.table.activeBank = true) :
    s.KeepsTables (run.foldl State.tallyDelivery s) := by
  induction run generalizing s with
  | nil => exact .refl s
  | cons d run ih =>
    have table : (s.tallyDelivery d).table = s.table := by cases d <;> rfl
    have first : s.KeepsTables (s.tallyDelivery d) := by
      cases d with
      | fill => exact .refl s
      | cell data =>
        refine ⟨id, fun _ => ?_⟩
        unfold State.tallyTimerFollows
        rw [table, governed]
        simp [State.tallyDelivery, TallyUnit.takeCell]
    exact first.trans (ih _ (by rw [table]; exact governed))

theorem State.flow0Delivery_keepsTables (s : State) (d : Delivery) :
    s.KeepsTables (s.flow0Delivery d) := by
  cases d with
  | fill => exact .refl s
  | cell data => exact s.flow0Cell_keepsTables data

theorem State.deliver_keepsTables (s : State) (f : Flow) (run : List Delivery) :
    s.KeepsTables (s.deliver f run) := by
  unfold State.deliver
  split
  · exact .refl s
  · next x received =>
    split
    · exact .of_frame (by simp) (by simp)
    · next tally =>
      exact State.tallyDeliveries_keepTables run s (State.hasInboundTally_of_receiving received tally)
    · exact .foldl State.flow0Delivery_keepsTables run s

theorem State.takeArrival_keepsTables (s : State) (f : Flow) (a : Arrival) :
    s.KeepsTables (s.takeArrival f a) :=
  State.KeepsTables.trans (.of_frame (by simp) (by simp)) (State.deliver_keepsTables ..)

theorem State.takeExpiry_keepsTables (s : State) (f : Flow) : s.KeepsTables (s.takeExpiry f) := by
  unfold State.takeExpiry
  split
  · exact State.KeepsTables.trans (.of_frame (by simp) (by simp)) (State.deliver_keepsTables ..)
  · exact .refl s

/-! ### Swaps (R34, R35, R150) -/

/-- At a swap the timer starts or stops by the bank then active (R150). -/
theorem TallyUnit.atSwap_stopped_iff (u : TallyUnit) (governed : Bool) (tallyLoss : Nat) :
    (u.atSwap governed tallyLoss).timer = .stopped ↔ governed = false := by
  unfold TallyUnit.atSwap
  cases governed with
  | false => simp
  | true => by_cases stopped : u.timer = .stopped <;> simp [stopped]

theorem State.executeSwap_table (s : State) (x : Superframe) :
    (s.executeSwap x).table = s.table.swapped := by
  simp [State.executeSwap]

theorem State.executeSwap_tally (s : State) (x : Superframe) :
    (s.executeSwap x).tally =
      s.tally.atSwap (hasInboundTally s.table.shadowBank) s.mgmt.settings.tallyLoss := by
  simp [State.executeSwap]

theorem State.executeSwap_keepsTables (s : State) (x : Superframe)
    (pending : s.table.pendingSwap = some x) : s.KeepsTables (s.executeSwap x) := by
  refine ⟨fun lawful => ?_, fun _ => ?_⟩
  · rw [State.executeSwap_table]
    exact lawful.swapped (by rw [pending]; rfl)
  · unfold State.tallyTimerFollows
    rw [State.executeSwap_table, State.executeSwap_tally, TallyUnit.atSwap_stopped_iff,
      TableControl.swapped_activeBank]

theorem State.swapAtStart_keepsTables (s : State) (n : Superframe) :
    s.KeepsTables (s.swapAtStart n).1 := by
  unfold State.swapAtStart
  split
  · next x pending =>
    split
    · exact s.executeSwap_keepsTables x pending
    · exact .refl s
  · exact .refl s

theorem State.swapAtStep_keepsTables (s : State) (old new : Superframe) :
    s.KeepsTables (s.swapAtStep old new) := by
  unfold State.swapAtStep
  split
  · next x pending =>
    split
    · exact (s.executeSwap_keepsTables x pending).trans (.of_frame (by simp) (by simp))
    · exact .refl s
  · exact .refl s

/-! ### Shares of a superframe start (R90, R138, R150) -/

/-- A superframe start counts the tally-loss timer or ends it, and never stops or starts it (R150). -/
theorem State.tallyStart_stopped_iff (s : State) (sf : Superframe) :
    (s.tallyStart sf).tally.timer = .stopped ↔ s.tally.timer = .stopped := by
  unfold State.tallyStart
  split
  · next n running => split <;> simp [TallyUnit.expire, running]
  · rfl
  · rfl

theorem State.takeShare_keepsTables (s : State) (o : OwedStart) :
    s.KeepsTables (s.takeShare o) := by
  cases o with
  | storm => exact .of_frame (by simp [State.takeShare]) (by simp [State.takeShare])
  | tally sf => exact .of_table (by simp [State.takeShare]) (s.tallyStart_stopped_iff sf)
  | receiver b => exact .of_frame (by simp [State.takeShare]) (by simp [State.takeShare])

theorem State.shareOrOwe_keepsTables (s : State) (ending now : Bool) (o : OwedStart) :
    s.KeepsTables (s.shareOrOwe ending now o) := by
  unfold State.shareOrOwe
  split
  · exact .of_frame rfl rfl
  · exact s.takeShare_keepsTables o

theorem State.takeOwed_keepsTables (s : State) : s.KeepsTables s.takeOwed :=
  State.KeepsTables.trans (t := s.withOwed []) (.of_frame rfl rfl)
    (.foldl State.takeShare_keepsTables s.owed _)

theorem State.takeOwedOf_keepsTables (s : State) (p : OwedStart → Bool) :
    s.KeepsTables (s.takeOwedOf p) := by
  unfold State.takeOwedOf
  split
  · exact .refl s
  · next o rest _ =>
    exact State.KeepsTables.trans (t := s.withOwed rest) (.of_frame rfl rfl)
      (State.takeShare_keepsTables _ o)

theorem State.settle_keepsTables (s : State) : s.KeepsTables s.settle :=
  s.takeOwed_keepsTables.trans (.foldl State.takeExpiry_keepsTables settleOrder _)

theorem State.timersAtStart_keepsTables (s : State) (n : Superframe) :
    s.KeepsTables (s.timersAtStart n) :=
  (((s.shareOrOwe_keepsTables ..).trans (State.shareOrOwe_keepsTables ..)).trans
    (State.shareOrOwe_keepsTables ..)).trans (State.shareOrOwe_keepsTables ..)

/-! ### The superframe start and the entry of a slot -/

theorem State.planAtStart_keepsTables (s : State) (n : Superframe) :
    s.KeepsTables (s.planAtStart n) :=
  (State.KeepsTables.of_frame (t := s.absenceAtStart.1) rfl rfl).trans
    ((State.swapAtStart_keepsTables _ n).trans
      (.of_frame (by simp [State.planAtStart]) (by simp [State.planAtStart])))

theorem State.sharesAtStart_keepsTables (s : State) (n : Superframe) :
    s.KeepsTables (s.sharesAtStart n) :=
  ((s.planAtStart_keepsTables n).trans (State.timersAtStart_keepsTables _ n)).trans
    (.of_frame (by simp [State.sharesAtStart]) (by simp [State.sharesAtStart]))

theorem State.superframeStart_keepsTables (s : State) (n : Superframe) (counted : Bool) :
    s.KeepsTables (s.superframeStart n counted) := by
  have shared : s.KeepsTables ((s.collectingStart n).sharesAtStart n) :=
    (s.takeOwed_keepsTables.trans (.of_frame (by simp [State.collectingStart])
      (by simp [State.collectingStart]))).trans (State.sharesAtStart_keepsTables _ n)
  obtain ⟨-, table, -, -, -, -, -, -, -, tally, -⟩ := s.superframeStart_shares n counted
  exact shared.trans (.of_frame table tally)

theorem State.enterSlot_keepsTables (s : State) (start : Option Superframe) :
    s.KeepsTables (s.enterSlot start) := by
  unfold State.enterSlot
  split
  · exact .of_frame (by simp) (by simp)
  · next n =>
    split
    · exact State.KeepsTables.trans (t := s.sampleStrikes.superframeStart n true)
        (State.KeepsTables.trans (t := s.sampleStrikes) (.of_frame (by simp) (by simp))
          (State.superframeStart_keepsTables ..))
        (.of_frame (by simp) (by simp))
    · exact (s.superframeStart_keepsTables n true).trans (.of_frame (by simp) (by simp))

/-- An entry of a slot after the part has settled and link time has moved. -/
theorem State.enterSlot_after_settle (s u : State) (start : Option Superframe)
    (table : u.table = s.settle.table) (tally : u.tally = s.settle.tally) :
    s.KeepsTables (u.enterSlot start) :=
  (s.settle_keepsTables.trans (.of_frame table tally)).trans (u.enterSlot_keepsTables start)

theorem State.advanceSlot_keepsTables (s : State) (pins : Pins) :
    s.KeepsTables (s.advanceSlot pins) := by
  unfold State.advanceSlot
  exact s.enterSlot_after_settle _ _ (by simp) (by simp)

theorem State.takeFarAbsence_keepsTables (s : State) : s.KeepsTables s.takeFarAbsence := by
  unfold State.takeFarAbsence
  split
  · exact s.advanceSlot_keepsTables _
  · exact .refl s

theorem State.takeRefEdge_keepsTables (s : State) (pins : Pins) :
    s.KeepsTables (s.takeRefEdge pins) := by
  unfold State.takeRefEdge
  split
  · exact .refl s
  · split
    · exact .refl s
    · dsimp only
      refine s.enterSlot_after_settle _ _ ?_ ?_
      · rw [State.setTime_table, State.withSkew_table, State.nextOccasion_table,
          State.withPins_table]
      · rw [State.setTime_tally, State.withSkew_tally, State.nextOccasion_tally,
          State.withPins_tally]

/-! ### Source markers and received cells -/

theorem State.moveTime_keepsTables (s : State) (n : Int) (pins : Pins)
    (held : Option (Bearer × LinkTime)) : s.KeepsTables (s.moveTime n pins held) := by
  unfold State.moveTime
  split
  · exact .refl s
  · exact s.enterSlot_after_settle _ _ (by simp) (by simp)

theorem State.stepTime_keepsTables (s : State) (a p : LinkTime) (pins : Pins)
    (held : Option (Bearer × LinkTime)) : s.KeepsTables (s.stepTime a p pins held) := by
  unfold State.stepTime
  exact (s.settle_keepsTables.trans (.of_frame (by simp) (by simp))).trans
    ((State.swapAtStep_keepsTables _ a.sf p.sf).trans (State.enterSlot_keepsTables _ none))

theorem State.withClock_keepsTables (s : State) (c : LinkClock) : s.KeepsTables (s.withClock c) :=
  .of_frame rfl rfl

theorem State.judgeMarker_keepsTables (s : State) (b : Bearer) (t : Superframe) (a : LinkTime)
    (pins : Pins) (held : Option (Bearer × LinkTime)) :
    s.KeepsTables (s.judgeMarker b t a pins held) := by
  unfold State.judgeMarker
  dsimp only
  split
  · exact (s.withClock_keepsTables _).trans (State.moveTime_keepsTables ..)
  · split
    · exact s.stepTime_keepsTables ..
    · exact (s.withClock_keepsTables _).trans (State.moveTime_keepsTables ..)

theorem State.skewIf_keepsTables (s : State) (now : Bool) (b : Bearer) (t : Superframe)
    (a : LinkTime) : s.KeepsTables (s.skewIf now b t a) :=
  .of_frame (by simp) (by simp)

theorem State.reportIf_keepsTables (s : State) (now timed : Bool) :
    s.KeepsTables (s.reportIf now timed) :=
  .of_frame (by simp) (by simp)

theorem State.handOnMarker_keepsTables (s : State) (b : Bearer) (m : MarkerRecord) (pins : Pins) :
    s.KeepsTables (s.handOnMarker b m pins) := by
  unfold State.handOnMarker
  dsimp only
  split
  · exact (((s.skewIf_keepsTables ..).trans (State.reportIf_keepsTables ..)).trans
      (State.judgeMarker_keepsTables ..)).trans
        ((State.skewIf_keepsTables ..).trans (State.reportIf_keepsTables ..))
  · exact (s.skewIf_keepsTables ..).trans (State.reportIf_keepsTables ..)

theorem State.acceptedCell_keepsTables (s : State) (b : Bearer) (content : HeaderContent)
    (cell : List Byte) (pins : Pins) : s.KeepsTables (s.acceptedCell b content cell pins) := by
  cases content with
  | idle => exact .refl s
  | data flow sequence len => exact s.takeArrival_keepsTables ..
  | marker sf fibreTimed radioTimed grade =>
    exact State.KeepsTables.trans (.of_frame (by simp) (by simp)) (State.handOnMarker_keepsTables ..)

theorem State.badHeader_keepsTables (s : State) (b : Bearer) : s.KeepsTables (s.badHeader b) := by
  unfold State.badHeader
  dsimp only
  split <;> exact .of_frame (by simp) (by simp)

theorem State.alignedCell_keepsTables (s : State) (b : Bearer) (cell : List Byte) (pins : Pins) :
    s.KeepsTables (s.alignedCell b cell pins) := by
  unfold State.alignedCell
  split
  · exact s.badHeader_keepsTables b
  · exact State.KeepsTables.trans (.of_frame (by simp) (by simp)) (State.acceptedCell_keepsTables ..)

theorem State.takeCell_keepsTables (s : State) (b : Bearer) (cell : List Byte) (pins : Pins) :
    s.KeepsTables (s.takeCell b cell pins) := by
  have aligned : s.KeepsTables (s.nextOccasion.alignedCell b cell pins) :=
    State.KeepsTables.trans (t := s.nextOccasion) (.of_frame rfl rfl)
      (State.alignedCell_keepsTables ..)
  unfold State.takeCell
  split
  · exact .refl s
  · exact .of_frame (by simp) (by simp)
  · exact aligned
  · exact aligned

/-! ### Reset (R3) -/

/-- The power-on values meet the laws, whatever the state before. -/
theorem State.KeepsTables.powerOn (s : State) (inReset : Bool) (role : Role) (pins : Pins)
    (ready : Tab 8 Bool) (occasion : Nat) (pending : List Instr) :
    s.KeepsTables (State.powerOn inReset role pins ready occasion pending) := by
  obtain ⟨-, -, tally⟩ := powerOnBank_lawful
  exact ⟨fun _ => TableControl.powerOn_lawful, fun _ => ⟨fun _ => tally, fun _ => rfl⟩⟩

theorem State.released_keepsTables (s : State) (role : Role) (pins : Pins) :
    s.KeepsTables (s.released role pins) := by
  have started := (State.KeepsTables.powerOn s false role pins s.egress.ready (s.occasion + 1)
    s.pending).trans (State.superframeStart_keepsTables _ 0 false)
  exact started.trans (.of_frame (State.sendSlot_table _) (State.sendSlot_tally _))

/-! ### Every command and every step -/

/-- An event that is taken only while RESET is released. -/
theorem whenReleased_keepsTables {s u t : State} (keeps : s.KeepsTables u)
    (h : whenReleased s u = .next t) : s.KeepsTables t := by
  unfold whenReleased at h
  split at h
  · cases h; exact .refl s
  · cases h; exact keeps

/-- Every command keeps the laws. -/
theorem exec_keepsTables (i : Instr) (s t : State) (h : exec i s = .next t) : s.KeepsTables t := by
  cases i with
  | resetAssert => cases h; exact .powerOn s ..
  | resetRelease role pins =>
    simp only [exec, execResetRelease] at h
    split at h
    · rw [← Host.Outcome.next.inj h]; exact s.released_keepsTables role pins
    · cases h; exact .refl s
  | egressReadyChange trib ready => cases h; exact .of_frame rfl rfl
  | slotEntry pins => exact whenReleased_keepsTables (s.advanceSlot_keepsTables pins) h
  | refEdge pins => exact whenReleased_keepsTables (s.takeRefEdge_keepsTables pins) h
  | farMarkerAbsence => exact whenReleased_keepsTables s.takeFarAbsence_keepsTables h
  | markerAbsenceExpiry | stormEnd | tallyLoss =>
    exact whenReleased_keepsTables (s.takeOwedOf_keepsTables _) h
  | tributaryCellArrival trib payload len =>
    exact whenReleased_keepsTables (u := s.ingressArrival trib ⟨payload, len⟩)
      (.of_frame (by simp) (by simp)) h
  | egressTake trib =>
    exact whenReleased_keepsTables (u := s.withEgress (s.egress.take trib)) (.of_frame rfl rfl) h
  | mgmtPortTake =>
    exact whenReleased_keepsTables (u := s.withMgmt s.mgmt.take) (.of_frame rfl rfl) h
  | mgmtPortCell payload len => exact whenReleased_keepsTables (s.portCell_keepsTables _) h
  | huntCandidateFound bearer position header =>
    exact whenReleased_keepsTables
      (u := s.withRx bearer ((s.rx bearer).examine position header))
      (.of_frame (by simp) (by simp)) h
  | receivedCell bearer cell pins =>
    exact whenReleased_keepsTables (s.takeCell_keepsTables bearer cell pins) h
  | holdExpiry flow => exact whenReleased_keepsTables (s.takeExpiry_keepsTables flow) h
  | identify | readEntry | writeEntry | clearEntry | copyEntries | checkShadow | swapAt | cancelSwap
  | readFlowCounts | readBearer | readLink | setSetting | readSettings | setWindow | freezeWindow
  | setBar | clearBar | setTallySource | setTallyOverride | clearTallyOverride | readEvents
  | ackEvents | flushTributary | resetDatapath =>
    exact whenReleased_keepsTables (s.carryOut_keepsTables ..) h

theorem step_keepsTables (s t : State) (h : step s = .next t) : s.KeepsTables t := by
  unfold step at h
  split at h
  · cases h; exact .refl s
  · next c rest _ =>
    exact State.KeepsTables.trans (t := s.withPending rest) (.of_frame rfl rfl)
      (exec_keepsTables c _ t h)

/-- Settles O56: every operation keeps the laws of the table and of the tally-loss timer, and a bank
that passes the check has a fibre demand of at most 1527. -/
theorem stepKeepsTables : Obligations.StepKeepsTables := by
  refine ⟨fun s t h => (step_keepsTables s t h).1, fun s t h _ => (step_keepsTables s t h).2, ?_⟩
  rintro s ⟨-, -, check, -⟩
  obtain ⟨-, demand, -⟩ := (consistencyCheck_pass_iff _).mp check
  exact demand

end Sys2Proof.Machine
end

section
/-! SUPPORT. What a management command does that passes the tests of origin (R161, R162), and the
results of the reading commands byte by byte (R187); and the proofs about the reading commands and the
commands of the Flow Table (R21 to R25, R30 to R33). -/

namespace Sys2Proof.Machine

/-! ### A command as a row of the table -/

/-- Outside RESET an event is taken. -/
theorem whenReleased_next {s : State} (released : s.inReset = false) (u : State) :
    whenReleased s u = .next u := by
  simp [whenReleased, released]

/-- The row of a management command carries that command out (R161). -/
theorem exec_row {s : State} (released : s.inReset = false) {o : Origin} {tag : Byte} {c : Command}
    {i : Instr} (row : c.row o tag = some i) : exec i s = .next (s.carryOut o tag c) := by
  rw [← whenReleased_next released]
  cases c with
  | setTally object mask lamps =>
    simp only [Command.row] at row
    split at row
    · next source =>
      obtain rfl : object = 0 := BitVec.eq_of_toNat_eq source
      cases row; rfl
    · next override =>
      obtain rfl : object = 1 := BitVec.eq_of_toNat_eq override
      cases row; rfl
    · cases row
  | _ => cases row; rfl

/-- No test of origin turns a command away that the far end may give, that meets no bar, and whose
entries lie in the window (R161). -/
theorem ManagementUnit.refusal_eq_none {m : ManagementUnit} {o : Origin} {c : Command}
    (allowed : c.nearOnly = false) (unbarred : o = .far → c.barred = true → m.bar = false)
    (inside : o = .far → c.windowPasses m.windowLow m.windowHigh = true) :
    m.refusal o c = none := by
  cases o with
  | near => rfl
  | far =>
    have bar : (m.bar && c.barred) = false := by
      cases barred : c.barred with
      | false => exact Bool.and_false _
      | true => rw [unbarred rfl barred, Bool.false_and]
    simp [ManagementUnit.refusal, ManagementUnit.farRefusal, allowed, bar, inside rfl]

/-- A single entry lies in the window between its bounds (R170). -/
theorem insideWindow_single {low high n : Nat} (above : low ≤ n) (below : n ≤ high) :
    insideWindow low high n n = true := by
  simp [insideWindow, above, below]

/-- A command that is carried out and answered OK: what it did, then its response. -/
theorem exec_answered_ok {s u : State} {o : Origin} {tag : Byte} {c : Command} {i : Instr}
    {clamped : Bool} {results : List Byte} (released : s.inReset = false)
    (row : c.row o tag = some i) (passes : s.mgmt.refusal o c = none)
    (ran : s.run c = (Reply.okClamped clamped results, u)) (short : results.length ≤ 170) :
    ∃ t : State, exec i s = .next t ∧
      Answered u t o (clampedRecord tag c.number clamped results) :=
  ⟨_, exec_row released row, s.carryOut_ok u o tag c clamped results passes ran short⟩

/-- A reading command, answered OK, changes nothing (R25, R167). -/
theorem exec_reads {s : State} {o : Origin} {tag : Byte} {c : Command} {i : Instr}
    {results : List Byte} (released : s.inReset = false) (row : c.row o tag = some i)
    (passes : s.mgmt.refusal o c = none) (ran : s.run c = (Reply.ok results, s))
    (short : results.length ≤ 170) :
    ∃ t : State, exec i s = .next t ∧ Answered s t o (okRecord tag c.number results) :=
  exec_answered_ok released row passes ran short

/-- No test of origin turns away a command that neither is near-only, nor is barred, nor writes an
entry. -/
theorem ManagementUnit.refusal_of_reading (m : ManagementUnit) (o : Origin) {c : Command}
    (allowed : c.nearOnly = false) (unbarred : c.barred = false)
    (inside : c.windowPasses m.windowLow m.windowHigh = true) : m.refusal o c = none :=
  ManagementUnit.refusal_eq_none allowed (fun _ barred => by simp [unbarred] at barred)
    fun _ => inside

/-! ### Operands (R18, R21, R183) -/

@[simp] theorem bankOperand_number (b : BankNo) : bankOperand b.number = some b := by
  cases b <;> rfl

theorem flow_toNat (f : Flow) : (BitVec.ofNat 8 f.val).toNat = f.val := by
  have := f.isLt
  rw [BitVec.toNat_ofNat, Nat.mod_eq_of_lt (by omega)]

@[simp] theorem flowOperand_ofNat (f : Flow) : flowOperand (BitVec.ofNat 8 f.val) = some f := by
  simp only [flowOperand, flow_toNat, f.isLt, dif_pos]

theorem flow_ofNat_ne_zero {f : Flow} (hf : f ≠ 0) : BitVec.ofNat 8 f.val ≠ 0#8 := by
  intro zero
  have := congrArg BitVec.toNat zero
  rw [flow_toNat] at this
  exact hf (Fin.ext this)

/-! ### The lengths of results (R185, R187) -/

@[simp] theorem Entry.record_length (e : Entry) : e.record.length = 10 := by
  cases e <;> simp [Entry.record, zeroBytes]

@[simp] theorem lampBytes_length (lamps : Tab 8 LampState) : (lampBytes lamps).length = 8 := by
  simp [lampBytes, allEights]

@[simp] theorem TallyTimer.linkBytes_length (timer : TallyTimer) : timer.linkBytes.length = 3 := by
  cases timer <;> simp [TallyTimer.linkBytes]

@[simp] theorem detailBytes_length (d : Option EventDetail) : (detailBytes d).length = 4 := by
  cases d <;> simp [detailBytes, zeroBytes]

@[simp] theorem State.eventBytes_length (s : State) (e : Fin 20) : (s.eventBytes e).length = 5 := by
  simp [State.eventBytes]

/-- The link record has 119 bytes (R187). -/
theorem State.linkRecord_length (s : State) : s.linkRecord.length = 119 := by
  simp [State.linkRecord, State.clockBytes, State.tableBytes, RadioPlanner.linkBytes,
    State.skewBytes, StrikeMonitor.linkBytes, TallyUnit.linkBytes, EgressPorts.linkBytes,
    ManagementUnit.linkBytes, countBytes, allEights]

/-- The results of READ-SETTINGS have 80 bytes (R187). -/
theorem ManagementUnit.settingsBytes_length (m : ManagementUnit) : m.settingsBytes.length = 80 := by
  simp [ManagementUnit.settingsBytes, allEights, List.length_flatMap]

/-- Of lists of one length put one after another, the one at a place is read off by number. -/
theorem take_drop_flatMap {α β : Type} {g : α → List β} {k : Nat} (hk : ∀ a, (g a).length = k)
    (l : List α) (rest : List β) (i : Nat) (hi : i < l.length) :
    ((l.flatMap g ++ rest).drop (k * i)).take k = g l[i] := by
  induction l generalizing i with
  | nil => cases hi
  | cons a l ih =>
    cases i with
    | zero => simp [← hk a]
    | succ i =>
      have skip : ((a :: l).flatMap g ++ rest).drop (k * (i + 1)) =
          (l.flatMap g ++ rest).drop (k * i) := by
        rw [Nat.mul_succ, Nat.add_comm, ← List.drop_drop, List.flatMap_cons, List.append_assoc,
          ← hk a, List.drop_left]
      rw [skip]
      simpa using ih i (by simpa using hi)

/-- The bytes of the twenty events one after another (R187). -/
theorem State.allEventBytes_length (s : State) :
    ((List.finRange 20).flatMap s.eventBytes).length = 100 := by
  simp [List.length_flatMap]

/-! ### The reading commands -/

/-- Settles O39: each reading command passes the tests of origin from either end, and its results are
short enough for one cell. -/
theorem readingCommandsOnlyAnswer : Obligations.ReadingCommandsOnlyAnswer := by
  intro o tag s released
  have passes (c : Command) (allowed : c.nearOnly = false) (unbarred : c.barred = false)
      (inside : c.windowPasses s.mgmt.windowLow s.mgmt.windowHigh = true) :=
    s.mgmt.refusal_of_reading o allowed unbarred inside
  refine ⟨fun bank f => ?_, fun pass => ?_, ⟨s.linkRecord_length, ?_⟩,
    ⟨s.mgmt.settingsBytes_length, ?_⟩,
    (List.finRange 20).flatMap s.eventBytes ++ bytesOf 2 s.events.routineCount, ?_⟩
  · refine exec_reads (c := .readEntry bank.number (BitVec.ofNat 8 f.val)) released rfl
      (passes _ rfl rfl rfl) ?_ (by simp)
    simp [State.run, State.runReadEntry, TableControl.readEntry]
  · refine exec_reads (c := .checkShadow) released rfl (passes _ rfl rfl rfl) ?_ (by simp)
    simp [State.run, State.runCheckShadow, TableControl.checkShadow, pass, CheckResult.refusal]
  · exact exec_reads (c := .readLink) released rfl (passes _ rfl rfl rfl) rfl
      (by simp [s.linkRecord_length])
  · exact exec_reads (c := .readSettings) released rfl (passes _ rfl rfl rfl) rfl
      (by simp [s.mgmt.settingsBytes_length])
  · obtain ⟨t, ran, answered⟩ := exec_reads (s := s) (o := o) (tag := tag) (c := .readEvents) released
      rfl (passes _ rfl rfl rfl) rfl (by simp [s.allEventBytes_length])
    refine ⟨t, by simp [s.allEventBytes_length], ?_, fun e => ?_, ran, answered⟩
    · exact List.drop_left' s.allEventBytes_length
    · simpa using take_drop_flatMap s.eventBytes_length (List.finRange 20) _ e.val (by simp)

/-! ### The commands that edit the shadow bank (R21 to R24) -/

/-- A write that names the shadow bank and not entry 0 passes the tests of R21 while no swap is
pending. -/
theorem editRefusal_passes {t : TableControl} (idle : t.pendingSwap = none) :
    editRefusal t [] [] (some t.shadow) false = none := by
  simp [editRefusal, idle]

@[simp] theorem badBank_number (b : BankNo) (at_ : Nat) : badBank b.number at_ = [] := by
  simp [badBank]

/-- WRITE-ENTRY of an entry 1..63 of the shadow bank with a defined record (R22). -/
theorem TableControl.writeEntry_stores {t : TableControl} (idle : t.pendingSwap = none) {f : Flow}
    (hf : f ≠ 0) {raw : RawEntry} {e : Entry} {clamped : Bool}
    (defined : entryOfRecord raw = .ok (e, clamped)) :
    t.writeEntry t.shadow.number (BitVec.ofNat 8 f.val) raw =
      (Reply.okClamped clamped (BitVec.ofNat 8 f.val :: e.record),
        t.withShadow (t.shadowBank.write f e)) := by
  have passed := editRefusal_passes idle
  simp [TableControl.writeEntry, flow_ofNat_ne_zero hf, passed, defined]

/-- CLEAR-ENTRY of an entry 1..63 of the shadow bank (R23). -/
theorem TableControl.clearEntry_clears {t : TableControl} (idle : t.pendingSwap = none) {f : Flow}
    (hf : f ≠ 0) :
    t.clearEntry t.shadow.number (BitVec.ofNat 8 f.val) =
      (Reply.ok [], t.withShadow (t.shadowBank.write f .unused)) := by
  have passed := editRefusal_passes idle
  simp [TableControl.clearEntry, flow_ofNat_ne_zero hf, passed]

/-- A well-formed range of entries has no bad byte (R24). -/
theorem badCopyRange_eq_nil {first count : Byte} (hfirst : first.toNat ≤ 63)
    (nonempty : 1 ≤ count.toNat) (fits : first.toNat + count.toNat ≤ 64) :
    badCopyRange first count = [] := by
  have h1 : ¬ 63 < first.toNat := by omega
  have h2 : ¬ (count.toNat = 0 ∨ 64 < count.toNat) := by omega
  have h3 : ¬ 64 < first.toNat + count.toNat := by omega
  simp only [badCopyRange, h1, h2, h3]
  simp

/-- COPY-ENTRIES of a well-formed range into the shadow bank (R24). -/
theorem TableControl.copyEntries_copies {t : TableControl} (idle : t.pendingSwap = none)
    (source : BankNo) {first count : Byte} (range : badCopyRange first count = []) :
    t.copyEntries source.number t.shadow.number first count =
      (Reply.ok [BitVec.ofNat 8 (if first = 0 then count.toNat - 1 else count.toNat)],
        t.withShadow (Tab.build fun f =>
          if f.val ≠ 0 && first.toNat ≤ f.val && f.val < first.toNat + count.toNat then
            (t.bank source).read f
          else t.shadowBank.read f)) := by
  have passed := editRefusal_passes idle
  simp [TableControl.copyEntries, range, passed]

/-- A write of one entry of the shadow bank leaves its other entries and the active bank alone. -/
theorem TableControl.withShadow_write_kept (t : TableControl) (f : Flow) (e : Entry)
    (idle : t.pendingSwap = none) :
    let u := t.withShadow (t.shadowBank.write f e)
    u.active = t.active ∧ u.activeBank = t.activeBank ∧ u.pendingSwap = none ∧
    u.shadowBank.read f = e ∧
    ∀ g : Flow, g ≠ f → u.shadowBank.read g = t.shadowBank.read g := by
  refine ⟨by simp, by simp, by simp [idle], by simp, fun g hg => ?_⟩
  simp [hg]

/-- Settles O41: a write passes the tests of origin and of R21, and stores the entry that its record
gives once brought into range. -/
theorem writeEntryStoresInTheShadow : Obligations.WriteEntryStoresInTheShadow := by
  intro o tag f raw d ep c p s released hf idle far hd hep hc hp x clamped
  have defined : entryOfRecord raw = .ok (.used d x, clamped) := by
    rw [entryOfRecord_defined hd hep hc hp, numericFields_eq]
  have passes : s.mgmt.refusal o
      (.writeEntry s.table.shadow.number (BitVec.ofNat 8 f.val) raw) = none := by
    refine ManagementUnit.refusal_eq_none rfl (fun ho _ => (far ho).1) fun ho => ?_
    obtain ⟨-, low, high⟩ := far ho
    simpa only [Command.windowPasses, flow_toNat] using insideWindow_single low high
  obtain ⟨t, ran, answered⟩ := exec_answered_ok (tag := tag) released rfl passes
    (by simp only [State.run, State.runWriteEntry, s.table.writeEntry_stores idle hf defined]; rfl)
    (by simp)
  obtain ⟨active, activeBank, pending, stored, others⟩ :=
    s.table.withShadow_write_kept f (.used d x) idle
  exact ⟨t, _, ran, rfl, active, activeBank, pending, stored, others, answered⟩

/-- How many entries a range holds, entry 0 passed over (R24). -/
theorem copiedNumber_eq (first : Byte) {count : Byte} (nonempty : 1 ≤ count.toNat) :
    BitVec.ofNat 8 (if first = 0 then count.toNat - 1 else count.toNat) =
      if first = 0 then count - 1 else count := by
  split
  · have := count.isLt
    refine BitVec.eq_of_toNat_eq ?_
    rw [BitVec.toNat_ofNat, BitVec.toNat_sub]
    simp; omega
  · simp

/-- Settles O42: a clear and a copy pass the tests of origin and of R21, and edit the shadow bank
alone. -/
theorem clearAndCopyEditTheShadow : Obligations.ClearAndCopyEditTheShadow := by
  intro o tag s released idle bar
  refine ⟨fun f hf far => ?_, fun source first count hfirst nonempty fits far => ?_⟩
  · have passes : s.mgmt.refusal o
        (.clearEntry s.table.shadow.number (BitVec.ofNat 8 f.val)) = none := by
      refine ManagementUnit.refusal_eq_none rfl (fun ho _ => bar ho) fun ho => ?_
      obtain ⟨low, high⟩ := far ho
      simpa only [Command.windowPasses, flow_toNat] using insideWindow_single low high
    obtain ⟨t, ran, answered⟩ := exec_answered_ok (tag := tag) released rfl passes
      (by simp only [State.run, State.runClearEntry, s.table.clearEntry_clears idle hf]; rfl)
      (by simp)
    obtain ⟨active, activeBank, pending, stored, others⟩ :=
      s.table.withShadow_write_kept f .unused idle
    exact ⟨t, _, ran, rfl, active, activeBank, pending, stored, others, answered⟩
  · have passes : s.mgmt.refusal o
        (.copyEntries source.number s.table.shadow.number first count) = none := by
      refine ManagementUnit.refusal_eq_none rfl (fun ho _ => bar ho) fun ho => ?_
      obtain ⟨low, high⟩ := far ho
      simp [Command.windowPasses, insideWindow, Nat.max_comm first.toNat, low, high]
    obtain ⟨t, ran, answered⟩ := exec_answered_ok (tag := tag) released rfl passes
      (by
        simp only [State.run, State.runCopyEntries, s.table.copyEntries_copies idle source
          (badCopyRange_eq_nil hfirst nonempty fits), copiedNumber_eq first nonempty]
        rfl)
      (by simp)
    refine ⟨t, _, ran, rfl, by simp, by simp, by simp [idle], fun g => ?_, answered⟩
    rw [State.withTable_table, TableControl.withShadow_shadowBank, Tab.read_build]
    simp only [Bool.and_eq_true, decide_eq_true_eq, ne_eq, Fin.ext_iff, and_assoc, Fin.val_zero]

/-! ### The pending swap (R32, R33) -/

/-- SWAP-AT with a target that may be taken (R32). -/
theorem TableControl.swapAt_taken {t : TableControl} {c : Superframe} {x : BitVec 16}
    (idle : t.pendingSwap = none) (pass : consistencyCheck t.shadowBank = .pass)
    (ahead : 1 ≤ (x.truncate 12 - c).toNat) (near : (x.truncate 12 - c).toNat ≤ 2047) :
    t.swapAt c x = (Reply.ok (bytesOf 2 (x.toNat % 4096) ++ bytesOf 2 c.toNat),
      { t with pendingSwap := some (x.truncate 12) }) := by
  have target : (x.truncate 12).toNat = x.toNat % 4096 := BitVec.toNat_setWidth 12 x
  simp only [TableControl.swapAt, idle, pass, CheckResult.refusal, Option.isSome_none,
    Bool.false_eq_true, if_false, ahead, near, and_self, if_true, target]

/-- Settles O43: the swap commands pass the tests of origin, and change the pending swap alone. -/
theorem swapAtAndCancelSwap : Obligations.SwapAtAndCancelSwap := by
  intro o tag s released bar
  have swapPasses (x : BitVec 16) : s.mgmt.refusal o (.swapAt x) = none :=
    ManagementUnit.refusal_eq_none rfl (fun ho _ => bar ho) fun _ => rfl
  have cancelPasses : s.mgmt.refusal o .cancelSwap = none :=
    ManagementUnit.refusal_eq_none rfl (fun ho _ => bar ho) fun _ => rfl
  refine ⟨fun x idle pass ahead near => ?_, fun x pending => ?_, fun idle => ?_⟩
  · exact exec_answered_ok (c := .swapAt x) released rfl (swapPasses x)
      (by simp only [State.run, State.runSwapAt, TableControl.swapAt_taken idle pass ahead near]; rfl)
      (by simp)
  · exact exec_answered_ok (c := .cancelSwap) released rfl cancelPasses
      (by
        simp only [State.run, State.runCancelSwap, TableControl.cancelSwap, pending]
        rfl)
      (by simp)
  · refine ⟨_, exec_row (c := .cancelSwap) released rfl, ?_⟩
    have ran : s.run .cancelSwap = (Reply.bare .none, s) := by
      simp only [State.run, State.runCancelSwap, TableControl.cancelSwap, idle]
      rfl
    rw [State.carryOut_passed _ _ _ _ cancelPasses, ran]
    have answered := s.answer_answered o tag Command.cancelSwap.number (Reply.bare .none)
      (by simp [Reply.bare])
    rw [State.noteRefusal_none _ _ _ (Reply.bare .none).status (Or.inr rfl)] at answered
    exact answered

end Sys2Proof.Machine
end

section
/-! SUPPORT. What a swap does flow by flow: the classification of a flow by its two entries (R37) and
the parts of the Batch Unit, the Merge Unit and the Tally Unit (R38, R39, R150); and the proof of what
the execution of a swap does (R34). -/

namespace Sys2Proof.Machine

/-! ### The classification of a flow (R37) -/

/-- Two entries continue one flow of direction `d`: both have that direction, and one endpoint and one
depth (R37). -/
def Entry.Continues (a b : Entry) (d : Direction) : Prop :=
  ∃ x y : EntryFields, a = .used d x ∧ b = .used d y ∧ x.endpoint = y.endpoint ∧ x.depth = y.depth

theorem Entry.not_continues_unused_left (b : Entry) (d : Direction) :
    ¬ Entry.unused.Continues b d := by
  rintro ⟨x, y, h, -⟩; cases h

theorem Entry.not_continues_unused_right (a : Entry) (d : Direction) :
    ¬ a.Continues .unused d := by
  rintro ⟨x, y, -, h, -⟩; cases h

theorem Entry.used_continues_iff (d d' e : Direction) (x y : EntryFields) :
    (Entry.used d x).Continues (.used d' y) e ↔
      (d = d' ∧ x.endpoint = y.endpoint ∧ x.depth = y.depth) ∧ e = d := by
  constructor
  · rintro ⟨x', y', ha, hb, same⟩
    cases ha; cases hb
    exact ⟨⟨rfl, same⟩, rfl⟩
  · rintro ⟨⟨rfl, same⟩, rfl⟩
    exact ⟨x, y, rfl, rfl, same⟩

/-- What a pair of entries is classified as (R37). -/
theorem classify_used_used (d d' : Direction) (x y : EntryFields) :
    ((Entry.used d x).Continues (.used d' y) d ∧
      classify (.used d x) (.used d' y) = .continuing d) ∨
    ((∀ e, ¬ (Entry.used d x).Continues (.used d' y) e) ∧
      classify (.used d x) (.used d' y) = .endedThenStarted d d') := by
  by_cases same : d = d' ∧ x.endpoint = y.endpoint ∧ x.depth = y.depth
  · exact .inl ⟨(Entry.used_continues_iff ..).mpr ⟨same, rfl⟩, if_pos same⟩
  · exact .inr ⟨fun e h => same ((Entry.used_continues_iff ..).mp h).1, if_neg same⟩

theorem classify_continuing_iff (a b : Entry) (d : Direction) :
    classify a b = .continuing d ↔ a.Continues b d := by
  cases a with
  | unused => cases b <;> simp [classify, Entry.not_continues_unused_left]
  | used e x =>
    cases b with
    | unused => simp [classify, Entry.not_continues_unused_right]
    | used e' y =>
      rcases classify_used_used e e' x y with ⟨⟨x', y', ha, hb, same⟩, h⟩ | ⟨none_continues, h⟩
      · cases ha; cases hb
        simp [h, Entry.used_continues_iff, same, eq_comm]
      · simp [h, none_continues]

theorem classify_idle_iff (a b : Entry) :
    classify a b = .idle ↔ a = .unused ∧ b = .unused := by
  cases a with
  | unused => cases b <;> simp [classify]
  | used e x =>
    cases b with
    | unused => simp [classify]
    | used e' y => rcases classify_used_used e e' x y with ⟨-, h⟩ | ⟨-, h⟩ <;> simp [h]

/-- A flow is ended exactly when its old entry is in use and does not continue it (R37). -/
theorem classify_ends_iff (a b : Entry) (d : Direction) :
    ((∃ x, a = .used d x) ∧ ¬ a.Continues b d) ↔
      classify a b = .ended d ∨ ∃ e, classify a b = .endedThenStarted d e := by
  cases a with
  | unused => cases b <;> simp [classify]
  | used e x =>
    cases b with
    | unused => simp [classify, Entry.not_continues_unused_right]
    | used e' y =>
      rcases classify_used_used e e' x y with ⟨kept, h⟩ | ⟨none_continues, h⟩
      · rw [Entry.used_continues_iff] at kept
        obtain ⟨⟨rfl, same⟩, -⟩ := kept
        simp [h, Entry.used_continues_iff, same, eq_comm]
      · simp [h, none_continues]

/-- A flow is started exactly when its new entry is in use and does not continue it (R37). -/
theorem classify_starts_iff (a b : Entry) (d : Direction) :
    ((∃ y, b = .used d y) ∧ ¬ a.Continues b d) ↔
      classify a b = .started d ∨ ∃ e, classify a b = .endedThenStarted e d := by
  cases a with
  | unused => cases b <;> simp [classify, Entry.not_continues_unused_left]
  | used e x =>
    cases b with
    | unused => simp [classify]
    | used e' y =>
      rcases classify_used_used e e' x y with ⟨kept, h⟩ | ⟨none_continues, h⟩
      · rw [Entry.used_continues_iff] at kept
        obtain ⟨⟨rfl, same⟩, -⟩ := kept
        simp [h, Entry.used_continues_iff, same, eq_comm]
      · simp [h, none_continues]

theorem Classification.startsOutbound_iff (c : Classification) :
    c.startsOutbound = true ↔ c = .started .outbound ∨ ∃ e, c = .endedThenStarted e .outbound := by
  cases c with
  | started d => cases d <;> simp [Classification.startsOutbound]
  | endedThenStarted d e => cases e <;> simp [Classification.startsOutbound]
  | _ => simp [Classification.startsOutbound]

theorem Classification.endsInbound_iff (c : Classification) :
    c.endsInbound = true ↔ c = .ended .inbound ∨ ∃ e, c = .endedThenStarted .inbound e := by
  cases c with
  | ended d => cases d <;> simp [Classification.endsInbound]
  | endedThenStarted d e => cases d <;> simp [Classification.endsInbound]
  | _ => simp [Classification.endsInbound]

/-! ### The blocks' parts of a swap (R38, R39) -/

/-- A flow named once among those that are flushed has its window and counts flushed once (R39). -/
theorem MergeUnit.flushFlows_same (u : MergeUnit) {flows : List Flow} (once : flows.Nodup) {f : Flow}
    (named : f ∈ flows) :
    (u.flushFlows flows).window.read f = ⟨false, (u.window.read f).next, [], 0⟩ ∧
    (u.flushFlows flows).counts.read f = { u.counts.read f with
      flushed := satAdd (u.counts.read f).flushed (u.window.read f).held.length } := by
  induction flows generalizing u with
  | nil => cases named
  | cons g flows ih =>
    obtain ⟨fresh, once⟩ := List.nodup_cons.mp once
    have step : u.flushFlows (g :: flows) = (u.flushFlow g).flushFlows flows := rfl
    rw [step]
    rcases List.mem_cons.mp named with rfl | later
    · obtain ⟨window, counts⟩ := (u.flushFlow f).flushFlows_other flows f fresh
      rw [window, counts]
      exact u.flushFlow_same f
    · have other : f ≠ g := fun same => fresh (same ▸ later)
      obtain ⟨window, counts⟩ := u.flushFlow_other g f other
      rw [← window, ← counts]
      exact ih (u.flushFlow g) once later

theorem endedInbound_nodup (change : Flow → Classification) : (endedInbound change).Nodup :=
  ((List.nodup_finRange 64).filter _).filter _

theorem mem_endedInbound (change : Flow → Classification) (f : Flow) :
    f ∈ endedInbound change ↔ f ≠ 0 ∧ (change f).endsInbound = true := by
  simp [endedInbound]

theorem BatchUnit.atSwap_sequence (u : BatchUnit) (change : Flow → Classification) (f : Flow) :
    ((u.atSwap change).flow.read f).sequence =
      if f ≠ 0 ∧ (change f).startsOutbound = true then 0 else (u.flow.read f).sequence := by
  simp only [BatchUnit.atSwap, Tab.read_build]
  split <;> rfl

/-- A timer that is STOPPED starts when an INBOUND TALLY entry becomes active (R150). -/
theorem TallyUnit.atSwap_starts {u : TallyUnit} (stopped : u.timer = .stopped) (tallyLoss : Nat) :
    (u.atSwap true tallyLoss).timer = .running tallyLoss := by
  simp [TallyUnit.atSwap, stopped]

theorem TallyUnit.atSwap_received (u : TallyUnit) (governed : Bool) (tallyLoss : Nat) :
    (u.atSwap governed tallyLoss).received = u.received := by
  unfold TallyUnit.atSwap
  (repeat' split) <;> rfl

/-- The Merge Unit at a swap flushes the inbound flows that end (R39). -/
theorem State.executeSwap_merge (s : State) (x : Superframe) :
    (s.executeSwap x).merge = s.merge.flushFlows
      (endedInbound (classifyFlow s.table.activeBank s.table.shadowBank)) := by
  simp [State.executeSwap]

/-- The Batch Unit at a swap starts the outbound flows that start (R38). -/
theorem State.executeSwap_batch (s : State) (x : Superframe) :
    (s.executeSwap x).batch =
      s.batch.atSwap (classifyFlow s.table.activeBank s.table.shadowBank) := by
  simp [State.executeSwap]

/-- Settles O45: the classification case by case of the two entries, and each block's part of a
swap. -/
theorem swapActsFlowByFlow : Obligations.SwapActsFlowByFlow := by
  refine ⟨fun old new f => ?_, fun s x => ?_⟩
  · intro kept
    refine ⟨fun d => classify_continuing_iff _ _ d, classify_idle_iff _ _,
      fun d => classify_ends_iff _ _ d, fun d => classify_starts_iff _ _ d, ?_, ?_⟩
    · rw [Classification.startsOutbound_iff]
      exact (classify_starts_iff _ _ .outbound).symm
    · rw [Classification.endsInbound_iff]
      exact (classify_ends_iff _ _ .inbound).symm
  · intro change t
    have table : t.table = s.table.swapped := s.executeSwap_table x
    have tally : t.tally = s.tally.atSwap (hasInboundTally s.table.shadowBank)
        s.mgmt.settings.tallyLoss := s.executeSwap_tally x
    have merge : t.merge = s.merge.flushFlows (endedInbound change) := s.executeSwap_merge x
    have batch : t.batch = s.batch.atSwap change := s.executeSwap_batch x
    rw [table, tally, merge, batch]
    refine ⟨rfl, rfl, rfl, rfl, by simp [t, State.executeSwap], s.batch.atSwap_sequence change,
      fun f hf ends => ?_, fun f stays => ?_, ?_, ?_, s.tally.atSwap_received _ _,
      by simp [t, State.executeSwap], by simp [t, State.executeSwap], by simp [t, State.executeSwap],
      by simp [t, State.executeSwap]⟩
    · exact s.merge.flushFlows_same (endedInbound_nodup change)
        ((mem_endedInbound change f).mpr ⟨hf, ends⟩)
    · refine s.merge.flushFlows_other _ f fun named => ?_
      obtain ⟨hf, ends⟩ := (mem_endedInbound change f).mp named
      rcases stays with zero | keeps
      · exact hf zero
      · simp [ends] at keeps
    · exact (s.tally.atSwap_stopped_iff _ _).mpr
    · intro governed stopped
      rw [governed]
      exact TallyUnit.atSwap_starts stopped _

end Sys2Proof.Machine
end

section
/-! SUPPORT. What each operation of the part does to the FIFOs, queues and lists and to the Buffer
Pool's contents (R42, R97, R128, R143, R155), block by block and then operation by operation up to
the step; and the proof that every step keeps them within their sizes and canonical. -/

namespace Sys2Proof.Machine

/-! ### Blocks within their sizes -/

/-- No ingress FIFO holds more than 64 cells (R42). -/
def IngressPorts.fits (p : IngressPorts) : Prop := ∀ n : Trib, (p.fifo.read n).length ≤ 64

/-- No egress FIFO holds more than 64 entries (R143). -/
def EgressPorts.fits (p : EgressPorts) : Prop := ∀ n : Trib, (p.fifo.read n).length ≤ 64

/-- Neither management queue holds more than 16 cells (R155). -/
def ManagementUnit.fits (m : ManagementUnit) : Prop :=
  m.portQueue.length ≤ 16 ∧ m.flow0Queue.length ≤ 16

/-- Neither Marker List holds more than 8 entries (R97). -/
def SkewUnit.fits (u : SkewUnit) : Prop := ∀ b : Bearer, (u.list b).length ≤ 8

theorem State.queuesFit_iff (s : State) :
    s.queuesFit ↔ s.ingress.fits ∧ s.egress.fits ∧ s.mgmt.fits ∧ s.skew.fits := by
  have skew : s.skew.fits ↔ s.skew.fibreList.length ≤ 8 ∧ s.skew.radioList.length ≤ 8 :=
    ⟨fun fits => ⟨fits .fibre, fits .radio⟩, fun ⟨fibre, radio⟩ b => by cases b <;> assumption⟩
  rw [State.queuesFit, skew, ManagementUnit.fits, and_assoc]
  rfl

/-- A table of lists of at most `size` things each stays so when such a list is written to it. -/
theorem Tab.length_write_le {n size : Nat} {α : Type} {t : Tab n (List α)}
    (fits : ∀ i, (t.read i).length ≤ size) (i : Fin n) {l : List α} (short : l.length ≤ size)
    (j : Fin n) : ((t.write i l).read j).length ≤ size := by
  rw [Tab.read_write]
  split
  · exact short
  · exact fits j

/-! ### The ingress and egress FIFOs (R42, R143) -/

theorem IngressPorts.fits.place {p : IngressPorts} (fits : p.fits) (watermark : Nat) {n : Trib}
    (cell : CellData) (room : (p.fifo.read n).length < 64) : (p.place watermark n cell).fits :=
  Tab.length_write_le fits n (by simp; omega)

theorem IngressPorts.fits.remove {p : IngressPorts} (fits : p.fits) (watermark : Nat) (n : Trib)
    (k : Nat) : (p.remove watermark n k).fits :=
  Tab.length_write_le fits n (by have := fits n; simp; omega)

theorem IngressPorts.fits.flush {p : IngressPorts} (fits : p.fits) (n : Trib) : (p.flush n).fits :=
  Tab.length_write_le fits n (Nat.zero_le _)

theorem IngressPorts.datapathReset_fits (p : IngressPorts) : p.datapathReset.fits := by
  simp [IngressPorts.fits, IngressPorts.datapathReset]

theorem EgressPorts.fits.place {p : EgressPorts} (fits : p.fits) {n : Trib} (e : EgressEntry)
    (room : (p.fifo.read n).length < 64) : (p.place n e).fits :=
  Tab.length_write_le fits n (by simp; omega)

theorem EgressPorts.fits.take {p : EgressPorts} (fits : p.fits) (n : Trib) : (p.take n).fits := by
  unfold EgressPorts.take
  split
  · exact Tab.length_write_le fits n (by have := fits n; simp; omega)
  · exact fits

theorem EgressPorts.fits.flush {p : EgressPorts} (fits : p.fits) (n : Trib) : (p.flush n).fits :=
  Tab.length_write_le fits n (Nat.zero_le _)

theorem EgressPorts.datapathReset_fits (p : EgressPorts) : p.datapathReset.fits := by
  simp [EgressPorts.fits, EgressPorts.datapathReset]

/-! ### The Marker Lists (R97 to R99) -/

theorem SkewUnit.fits.withList {u : SkewUnit} (fits : u.fits) (b : Bearer) {l : List MarkerEntry}
    (short : l.length ≤ 8) : (u.withList b l).fits := by
  intro c
  by_cases same : c = b
  · subst same
    rw [SkewUnit.withList_same]
    exact short
  · obtain rfl : c = otherBearer b := by cases b <;> cases c <;> simp_all [otherBearer]
    rw [SkewUnit.withList_other]
    exact fits _

theorem SkewUnit.adjusted_list (u : SkewUnit) (b c : Bearer) (stamp : LinkTime) :
    (u.adjusted b stamp).2.list c = u.list c := by
  unfold SkewUnit.adjusted
  (repeat' split) <;> cases c <;> rfl

theorem SkewUnit.accept_list (u : SkewUnit) (sample : Int) (b : Bearer) :
    (u.accept sample).list b = u.list b := by
  unfold SkewUnit.accept
  split <;> cases b <;> rfl

theorem SkewUnit.fits.leftTimed {u : SkewUnit} (fits : u.fits) (b : Bearer) :
    (u.leftTimed b).fits := by
  intro c
  have cut := fits.withList b (l := []) (Nat.zero_le _) c
  cases c <;> exact cut

theorem SkewUnit.fits.followMove {u : SkewUnit} (fits : u.fits) (n : Int)
    (held : Option (Bearer × LinkTime)) : (u.followMove n held).fits := by
  intro b
  have moved : ((u.followMove n held).list b).length = (u.list b).length := by
    unfold SkewUnit.followMove SkewUnit.move
    split <;> cases b <;> simp [SkewUnit.list]
  rw [moved]
  exact fits b

theorem SkewUnit.datapathReset_fits (u : SkewUnit) : u.datapathReset.fits := by
  intro b
  cases b <;> exact Nat.zero_le _

/-! ### The Buffer Pool's contents (R128) -/

theorem MergeTurn.releaseRun_pool (m : MergeTurn) (fills : Bool) :
    (m.releaseRun fills).pool = m.pool := by
  obtain ⟨-, -, pool, -⟩ := m.drain_kept fills (fun _ => false) m.window.held
  exact pool

/-- Of what an arrival may do to a window, a hold alone stores into the pool (R117). -/
theorem MergeTurn.ahead_pool (m : MergeTurn) (rule : FlowRule) (a : Arrival) :
    (m.ahead rule a).1.pool = m.pool ∨
      ∃ k : Nat, (m.ahead rule a).1.pool = poolWrite m.pool k a.data := by
  unfold MergeTurn.ahead
  split
  · exact .inl rfl
  · split
    · exact .inl rfl
    · next b rest _ =>
      refine .inr ⟨b.val, ?_⟩
      dsimp only
      split
      · exact MergeTurn.releaseRun_pool _ _
      · rfl

theorem MergeTurn.jump_pool (m : MergeTurn) (rule : FlowRule) (a : Arrival) :
    (m.jump rule a).pool = m.pool := by
  obtain ⟨-, -, pool, -⟩ := m.drain_kept rule.fills (fun _ => true) m.window.held
  exact pool

theorem MergeTurn.stale_pool (m : MergeTurn) : m.stale.1.pool = m.pool := by
  unfold MergeTurn.stale
  dsimp only
  split <;> rfl

theorem MergeTurn.arrive_poolWf (m : MergeTurn) (f : Flow) (rule : FlowRule) (a : Arrival)
    (wf : poolWf m.pool = true) : poolWf (m.arrive f rule a).1.pool = true := by
  unfold MergeTurn.arrive
  split
  · exact wf
  · split
    · exact (MergeTurn.releaseRun_pool _ _).symm ▸ wf
    · rcases m.ahead_pool rule a with same | ⟨k, stored⟩
      · exact same.symm ▸ wf
      · exact stored.symm ▸ poolWf_write k a.data wf
    · exact (m.jump_pool rule a).symm ▸ wf
    · exact m.stale_pool.symm ▸ wf
    · exact wf

theorem MergeTurn.expire_pool (m : MergeTurn) (fills : Bool) (holdOver : HeldRecord → Bool) :
    (m.expire fills holdOver).pool = m.pool := by
  unfold MergeTurn.expire
  split
  · rfl
  · obtain ⟨-, -, pool, -⟩ := MergeTurn.drain_kept fills holdOver _ _
    exact pool

@[simp] theorem MergeUnit.flushFlows_pool (u : MergeUnit) (flows : List Flow) :
    (u.flushFlows flows).pool = u.pool := by
  unfold MergeUnit.flushFlows
  induction flows generalizing u with
  | nil => rfl
  | cons f flows ih => exact ih (u.flushFlow f)

/-! ### Operations that keep the sizes -/

/-- From `s` to `t` each block that was within its sizes stays so, and the Buffer Pool's contents
stay canonical. -/
structure State.KeepsSizes (s t : State) : Prop where
  ingress : s.ingress.fits → t.ingress.fits
  egress : s.egress.fits → t.egress.fits
  mgmt : s.mgmt.fits → t.mgmt.fits
  skew : s.skew.fits → t.skew.fits
  pool : poolWf s.merge.pool = true → poolWf t.merge.pool = true

theorem State.KeepsSizes.refl (s : State) : s.KeepsSizes s := ⟨id, id, id, id, id⟩

theorem State.KeepsSizes.trans {s t u : State} (h : s.KeepsSizes t) (h' : t.KeepsSizes u) :
    s.KeepsSizes u where
  ingress := h'.ingress ∘ h.ingress
  egress := h'.egress ∘ h.egress
  mgmt := h'.mgmt ∘ h.mgmt
  skew := h'.skew ∘ h.skew
  pool := h'.pool ∘ h.pool

/-- An operation that leaves the five blocks alone keeps their sizes. -/
theorem State.KeepsSizes.of_frame {s t : State} (frame : t.ingress = s.ingress ∧
    t.egress = s.egress ∧ t.mgmt = s.mgmt ∧ t.skew = s.skew ∧ t.merge = s.merge) :
    s.KeepsSizes t := by
  obtain ⟨ingress, egress, mgmt, skew, merge⟩ := frame
  constructor <;> simp [*]

/-- A fold of operations that keep the sizes keeps them. -/
theorem State.KeepsSizes.foldl {α : Type} {f : State → α → State}
    (keeps : ∀ (s : State) (a : α), s.KeepsSizes (f s a)) (l : List α) (s : State) :
    s.KeepsSizes (l.foldl f s) := by
  induction l generalizing s with
  | nil => exact .refl s
  | cons a l ih => exact (keeps s a).trans (ih (f s a))

/-! ### The ports, the egress FIFOs and the management queues -/

theorem State.nextOccasion_keepsSizes (s : State) : s.KeepsSizes s.nextOccasion :=
  .of_frame (by simp)

theorem State.ingressArrival_keepsSizes (s : State) (n : Trib) (cell : CellData) :
    s.KeepsSizes (s.ingressArrival n cell) := by
  refine ⟨fun fits => ?_, by simp, by simp, by simp, by simp⟩
  unfold State.ingressArrival
  split
  · next room =>
    obtain ⟨-, -, space⟩ := room
    exact fits.place _ cell space
  · unfold State.dropIngress
    dsimp only
    split <;> exact fits

theorem State.handEntry_keepsSizes (n : Trib) (f : Flow) (s : State) (e : EgressEntry) :
    s.KeepsSizes (State.handEntry n f s e) := by
  refine ⟨by simp, fun fits => ?_, by simp, by simp, by simp⟩
  unfold State.handEntry
  split
  · next room => exact fits.place e room
  · exact fits

theorem State.handOver_keepsSizes (s : State) (n : Trib) (f : Flow) (run : List EgressEntry) :
    s.KeepsSizes (s.handOver n f run) :=
  .foldl (State.handEntry_keepsSizes n f) run s

theorem joinQueue_length {queue joined : List CellData} {cell : CellData}
    (h : joinQueue queue cell = some joined) : joined.length ≤ 16 := by
  unfold joinQueue Config.queueCells at h
  split at h
  · cases h; simp; omega
  · cases h

theorem State.placePort_keepsSizes (s : State) (kind : RecordKind) (cell : CellData) :
    s.KeepsSizes (s.placePort kind cell) := by
  refine ⟨by simp, by simp, fun fits => ?_, by simp, by simp⟩
  unfold State.placePort
  split
  · next joined => exact ⟨joinQueue_length joined, fits.2⟩
  · exact fits

theorem State.placeFlow0_keepsSizes (s : State) (kind : RecordKind) (cell : CellData) :
    s.KeepsSizes (s.placeFlow0 kind cell) := by
  refine ⟨by simp, by simp, fun fits => ?_, by simp, by simp⟩
  unfold State.placeFlow0
  split
  · next joined => exact ⟨fits.1, joinQueue_length joined⟩
  · exact fits

theorem State.flow0Batch_keepsSizes (s : State) : s.KeepsSizes s.flow0Batch := by
  refine ⟨by simp, by simp, fun ⟨port, flow0⟩ => ?_, by simp, by simp⟩
  unfold State.flow0Batch
  rw [State.batchCells_mgmt]
  exact ⟨port, by simp; omega⟩

theorem State.drainAndPlace_keepsSizes (s : State) (far : Option CellData) (noticeFirst : Bool) :
    s.KeepsSizes (s.drainAndPlace far noticeFirst) := by
  unfold State.drainAndPlace
  split
  · exact s.flow0Batch_keepsSizes
  · split
    · exact (s.placeFlow0_keepsSizes ..).trans (State.flow0Batch_keepsSizes _)
    · exact s.flow0Batch_keepsSizes.trans (State.placeFlow0_keepsSizes ..)

theorem State.judge_keepsSizes (s : State) (sf : Superframe) : s.KeepsSizes (s.judge sf).1 := by
  have marked (e : EventUnit) : s.KeepsSizes (s.withEvents e).nextOccasion.nextOccasion :=
    .of_frame (by simp)
  have placed (u : State) (near : Option CellData) : u.KeepsSizes (u.placeNear near) := by
    cases near with
    | none => exact .refl u
    | some cell => exact u.placePort_keepsSizes .notice cell
  unfold State.judge
  dsimp only
  split
  · exact (marked _).trans (placed _ _)
  · exact .refl s

theorem State.answer_keepsSizes (s : State) (o : Origin) (tag number : Byte) (r : Reply) :
    s.KeepsSizes (s.answer o tag number r) := by
  have noted : s.KeepsSizes (s.noteRefusal o number r.status) := .of_frame (by simp)
  have placed (u : State) (cell : CellData) : u.KeepsSizes (u.placeResponse o cell) := by
    cases o with
    | near => exact u.placePort_keepsSizes ..
    | far => exact u.placeFlow0_keepsSizes ..
  exact (noted.trans (placed _ _)).trans (State.nextOccasion_keepsSizes _)

/-! ### Receivers and the Skew Unit -/

theorem State.leftTimed_keepsSizes (s : State) (b : Bearer) (way : WayOut) :
    s.KeepsSizes (s.leftTimed b way) := by
  refine ⟨by simp, by simp, by simp, fun fits => ?_, by simp⟩
  unfold State.leftTimed
  rw [State.chooseSource_skew, State.judgeHolds_skew]
  exact SkewUnit.fits.leftTimed fits b

theorem State.enterHunt_keepsSizes (s : State) (b : Bearer) (k : Nat) (way : WayOut) :
    s.KeepsSizes (s.enterHunt b k way) := by
  have hunting : s.KeepsSizes (s.withRx b ((s.rx b).enterHunt k)) := .of_frame (by simp)
  unfold State.enterHunt
  dsimp only
  split
  · exact hunting.trans (State.leftTimed_keepsSizes ..)
  · exact hunting

theorem State.resetReceiver_keepsSizes (s : State) (b : Bearer) :
    s.KeepsSizes (s.resetReceiver b) :=
  State.KeepsSizes.trans (.of_frame (by simp)) (State.enterHunt_keepsSizes _ b _ .reset)

theorem State.receiverStart_keepsSizes (s : State) (b : Bearer) :
    s.KeepsSizes (s.receiverStart b) := by
  unfold State.receiverStart
  dsimp only
  split
  · split
    · exact State.KeepsSizes.trans (.of_frame (by simp)) (State.leftTimed_keepsSizes _ b .absence)
    · exact .of_frame (by simp)
  · exact .refl s

theorem State.badHeader_keepsSizes (s : State) (b : Bearer) : s.KeepsSizes (s.badHeader b) := by
  have counted : s.KeepsSizes (s.withRx b (s.rx b).countBad) := .of_frame (by simp)
  unfold State.badHeader
  dsimp only
  split
  · exact counted.trans (State.enterHunt_keepsSizes ..)
  · exact counted

theorem State.skewSample_keepsSizes (s : State) (sample : Int) :
    s.KeepsSizes (s.skewSample sample) := by
  refine ⟨by simp, by simp, by simp, fun fits => ?_, by simp⟩
  unfold State.skewSample
  split
  · exact fits
  · intro b
    simpa [SkewUnit.accept_list] using fits b

theorem State.skewMarker_keepsSizes (s : State) (b : Bearer) (t : Superframe) (stamp : LinkTime) :
    s.KeepsSizes (s.skewMarker b t stamp) := by
  refine ⟨by simp, by simp, by simp, fun fits => ?_, by simp⟩
  have adjusted : (s.skew.adjusted b stamp).2.fits := fun c => by
    rw [SkewUnit.adjusted_list]; exact fits c
  have appended (e : MarkerEntry) := adjusted.withList b (appendEntry_length _ e (adjusted b))
  unfold State.skewMarker
  dsimp only
  split
  · split
    · exact appended _
    · next otherStamp others paired =>
      refine (State.skewSample_keepsSizes _ _).skew ((appended _).withList _ ?_)
      have other := adjusted (otherBearer b)
      have kept := pairNewest_length _ _ _ _ paired
      simp only [List.length_reverse] at kept ⊢
      omega
  · exact appended _

theorem State.skewIf_keepsSizes (s : State) (now : Bool) (b : Bearer) (t : Superframe)
    (a : LinkTime) : s.KeepsSizes (s.skewIf now b t a) := by
  unfold State.skewIf
  split
  · exact s.skewMarker_keepsSizes b t a
  · exact .refl s

theorem State.followMove_keepsSizes (s : State) (n : Int) (held : Option (Bearer × LinkTime)) :
    s.KeepsSizes (s.withSkew (s.skew.followMove n held)) :=
  ⟨id, id, id, fun fits => SkewUnit.fits.followMove fits n held, id⟩

/-! ### Management commands -/

theorem State.runSetSetting_keepsSizes (s : State) (name index : Byte) (value : BitVec 16) :
    s.KeepsSizes (s.runSetSetting name index value).2 where
  ingress fits := by
    unfold State.runSetSetting
    rw [State.judgeGuard_ingress]
    exact List.foldlRecOn (motive := IngressPorts.fits) allEights _ fits fun p kept n _ => by
      dsimp only
      split <;> exact kept
  egress := by simp [State.runSetSetting, State.rejudgeHolds]
  mgmt fits := by
    simpa [State.runSetSetting, State.rejudgeHolds, ManagementUnit.fits] using fits
  skew := by simp [State.runSetSetting, State.rejudgeHolds]
  pool := by simp [State.runSetSetting, State.rejudgeHolds]

theorem State.runSetWindow_keepsSizes (s : State) (low high : Byte) :
    s.KeepsSizes (s.runSetWindow low high).2 := by
  unfold State.runSetWindow ManagementUnit.setWindow
  dsimp only
  (repeat' split) <;> exact ⟨id, id, id, id, id⟩

theorem State.runReadFlowCounts_keepsSizes (s : State) (flow clear : Byte) :
    s.KeepsSizes (s.runReadFlowCounts flow clear).2 := by
  unfold State.runReadFlowCounts
  split
  · exact .refl s
  · exact .refl s
  · exact .refl s
  · exact ⟨id, id, id, id, id⟩

theorem State.runReadBearer_keepsSizes (s : State) (bearer clear : Byte) :
    s.KeepsSizes (s.runReadBearer bearer clear).2 := by
  unfold State.runReadBearer
  split <;> exact .of_frame (by simp)

theorem State.runSetTally_keepsSizes (s : State) (object mask : Byte) (lamps : Tab 8 Byte) :
    s.KeepsSizes (s.runSetTally object mask lamps).2 := by
  unfold State.runSetTally
  split
  · exact ⟨id, id, id, id, id⟩
  · unfold State.runSetTallyOverride
    split <;> exact .of_frame (by simp)
  · exact .refl s

theorem State.runAckEvents_keepsSizes (s : State) (events : BitVec 24) :
    s.KeepsSizes (s.runAckEvents events).2 := by
  unfold State.runAckEvents
  split <;> exact .of_frame (by simp)

theorem State.runFlushTributary_keepsSizes (s : State) (trib : Byte) :
    s.KeepsSizes (s.runFlushTributary trib).2 := by
  unfold State.runFlushTributary
  split
  · exact .refl s
  · exact ⟨fun fits => fits.flush _, fun fits => fits.flush _, id, id, id⟩

theorem State.datapathReset_keepsSizes (s : State) : s.KeepsSizes s.datapathReset := by
  have blocks (u : State) : u.KeepsSizes u.resetBlocks :=
    { ingress := fun _ => u.ingress.datapathReset_fits
      egress := fun _ => u.egress.datapathReset_fits
      mgmt := fun _ => ⟨Nat.zero_le _, Nat.zero_le _⟩
      skew := fun _ => u.skew.datapathReset_fits
      pool := by simp [State.resetBlocks, MergeUnit.datapathReset] }
  unfold State.datapathReset
  exact (((s.resetReceiver_keepsSizes .fibre).trans (State.resetReceiver_keepsSizes _ .radio)).trans
    (blocks _)).trans (.of_frame (by simp))

theorem State.run_keepsSizes (s : State) (c : Command) : s.KeepsSizes (s.run c).2 := by
  cases c with
  | readFlowCounts flow clear => exact s.runReadFlowCounts_keepsSizes flow clear
  | readBearer bearer clear => exact s.runReadBearer_keepsSizes bearer clear
  | setSetting name index value => exact s.runSetSetting_keepsSizes name index value
  | setWindow low high => exact s.runSetWindow_keepsSizes low high
  | setTally object mask lamps => exact s.runSetTally_keepsSizes object mask lamps
  | ackEvents events => exact s.runAckEvents_keepsSizes events
  | flushTributary trib => exact s.runFlushTributary_keepsSizes trib
  | resetDatapath => exact s.datapathReset_keepsSizes
  | identify | readEntry | writeEntry | clearEntry | copyEntries | checkShadow | swapAt | cancelSwap
  | readLink | readSettings | freezeWindow | setBar | clearBar | clearTallyOverride | readEvents =>
    exact ⟨id, id, id, id, id⟩

theorem State.carryOut_keepsSizes (s : State) (o : Origin) (tag : Byte) (c : Command) :
    s.KeepsSizes (s.carryOut o tag c) := by
  unfold State.carryOut
  split
  · exact s.answer_keepsSizes ..
  · exact (s.run_keepsSizes c).trans (State.answer_keepsSizes ..)

theorem State.carryOutRecord_keepsSizes (s : State) (o : Origin) (record : List Byte) :
    s.KeepsSizes (s.carryOutRecord o record) := by
  unfold State.carryOutRecord
  split
  · exact s.answer_keepsSizes ..
  · exact s.answer_keepsSizes ..
  · exact s.carryOut_keepsSizes ..

theorem State.malformedCell_keepsSizes (s : State) : s.KeepsSizes s.malformedCell :=
  ⟨id, id, id, id, id⟩

theorem State.forwardCommand_keepsSizes (s : State) (cell : CellData) :
    s.KeepsSizes (s.forwardCommand cell) := by
  unfold State.forwardCommand
  dsimp only
  split
  · exact s.answer_keepsSizes ..
  · split
    · exact s.answer_keepsSizes ..
    · next joined => exact ⟨id, id, fun fits => ⟨fits.1, joinQueue_length joined⟩, id, id⟩

theorem State.portCell_keepsSizes (s : State) (cell : CellData) :
    s.KeepsSizes (s.portCell cell) := by
  unfold State.portCell
  split
  · exact s.malformedCell_keepsSizes
  · split
    · split
      · exact s.malformedCell_keepsSizes
      · split
        · exact s.carryOutRecord_keepsSizes ..
        · exact s.forwardCommand_keepsSizes cell
        · exact s.answer_keepsSizes ..
    all_goals exact s.malformedCell_keepsSizes

theorem State.flow0Cell_keepsSizes (s : State) (cell : CellData) :
    s.KeepsSizes (s.flow0Cell cell) := by
  unfold State.flow0Cell
  split
  · split
    · exact s.malformedCell_keepsSizes
    · exact s.carryOutRecord_keepsSizes ..
  · exact s.placePort_keepsSizes ..
  · exact s.placePort_keepsSizes ..
  · exact s.malformedCell_keepsSizes

/-! ### Deliveries and the Merge Unit (R113, R123, R127) -/

theorem State.deliver_keepsSizes (s : State) (f : Flow) (run : List Delivery) :
    s.KeepsSizes (s.deliver f run) := by
  unfold State.deliver
  split
  · exact .refl s
  · split
    · exact s.handOver_keepsSizes ..
    · refine .foldl (fun u d => ?_) run s
      cases d with
      | fill => exact .refl u
      | cell data => exact ⟨id, id, id, id, id⟩
    · refine .foldl (fun u d => ?_) run s
      cases d with
      | fill => exact .refl u
      | cell data => exact u.flow0Cell_keepsSizes data

theorem State.mergeArrival_keepsSizes (s : State) (f : Flow) (a : Arrival) :
    s.KeepsSizes (s.mergeArrival f a).1 := by
  refine ⟨by simp, by simp, by simp, by simp, fun wf => ?_⟩
  unfold State.mergeArrival
  split
  · exact wf
  · rw [State.followHold_merge, State.raiseSome_merge]
    exact MergeTurn.arrive_poolWf _ f _ a wf

theorem State.mergeExpiry_keepsSizes (s : State) (f : Flow) :
    s.KeepsSizes (s.mergeExpiry f).1 := by
  refine ⟨by simp, by simp, by simp, by simp, fun wf => ?_⟩
  unfold State.mergeExpiry
  split
  · exact wf
  · next x _ =>
    have pool := (s.merge.turn f).expire_pool x.rule.fills (s.holdOver x)
    exact (congrArg poolWf pool).trans wf

theorem State.takeArrival_keepsSizes (s : State) (f : Flow) (a : Arrival) :
    s.KeepsSizes (s.takeArrival f a) :=
  (s.mergeArrival_keepsSizes f a).trans (State.deliver_keepsSizes ..)

theorem State.takeExpiry_keepsSizes (s : State) (f : Flow) : s.KeepsSizes (s.takeExpiry f) := by
  unfold State.takeExpiry
  split
  · exact (s.mergeExpiry_keepsSizes f).trans (State.deliver_keepsSizes ..)
  · exact .refl s

/-! ### Shares of a superframe start, swaps and batches -/

theorem State.takeShare_keepsSizes (s : State) (o : OwedStart) : s.KeepsSizes (s.takeShare o) := by
  cases o with
  | storm => exact .of_frame (by simp [State.takeShare])
  | tally sf => exact .of_frame (by simp [State.takeShare])
  | receiver b => exact s.receiverStart_keepsSizes b

theorem State.shareOrOwe_keepsSizes (s : State) (ending now : Bool) (o : OwedStart) :
    s.KeepsSizes (s.shareOrOwe ending now o) := by
  unfold State.shareOrOwe
  split
  · exact .of_frame (by simp)
  · exact s.takeShare_keepsSizes o

theorem State.takeOwed_keepsSizes (s : State) : s.KeepsSizes s.takeOwed :=
  State.KeepsSizes.trans (t := s.withOwed []) (.of_frame (by simp))
    (.foldl State.takeShare_keepsSizes s.owed _)

theorem State.takeOwedOf_keepsSizes (s : State) (p : OwedStart → Bool) :
    s.KeepsSizes (s.takeOwedOf p) := by
  unfold State.takeOwedOf
  split
  · exact .refl s
  · next o rest _ =>
    exact State.KeepsSizes.trans (t := s.withOwed rest) (.of_frame (by simp))
      (State.takeShare_keepsSizes _ o)

theorem State.settle_keepsSizes (s : State) : s.KeepsSizes s.settle :=
  s.takeOwed_keepsSizes.trans (.foldl State.takeExpiry_keepsSizes settleOrder _)

theorem State.timersAtStart_keepsSizes (s : State) (n : Superframe) :
    s.KeepsSizes (s.timersAtStart n) :=
  (((s.shareOrOwe_keepsSizes ..).trans (State.shareOrOwe_keepsSizes ..)).trans
    (State.shareOrOwe_keepsSizes ..)).trans (State.shareOrOwe_keepsSizes ..)

theorem State.executeSwap_keepsSizes (s : State) (x : Superframe) :
    s.KeepsSizes (s.executeSwap x) :=
  ⟨by simp, by simp, by simp, by simp, by simp [State.executeSwap_merge]⟩

theorem State.swapAtStart_keepsSizes (s : State) (n : Superframe) :
    s.KeepsSizes (s.swapAtStart n).1 := by
  unfold State.swapAtStart
  split
  · next x _ =>
    split
    · exact s.executeSwap_keepsSizes x
    · exact .refl s
  · exact .refl s

theorem State.swapAtStep_keepsSizes (s : State) (old new : Superframe) :
    s.KeepsSizes (s.swapAtStep old new) := by
  unfold State.swapAtStep
  split
  · next x _ =>
    split
    · exact (s.executeSwap_keepsSizes x).trans (.of_frame (by simp))
    · exact .refl s
  · exact .refl s

theorem State.planAtStart_keepsSizes (s : State) (n : Superframe) :
    s.KeepsSizes (s.planAtStart n) := by
  refine ⟨by simp, by simp, by simp, by simp, fun wf => ?_⟩
  have swapped := (s.absenceAtStart.1.swapAtStart_keepsSizes n).pool wf
  simpa [State.planAtStart] using swapped

theorem State.tributaryBatch_keepsSizes (s : State) (f : Flow) (x : EntryFields) (n : Trib) :
    s.KeepsSizes (s.tributaryBatch f x n) := by
  refine ⟨fun fits => ?_, by simp, by simp, by simp, by simp⟩
  unfold State.tributaryBatch
  rw [State.judgeSilence_ingress, State.batchCells_ingress]
  exact IngressPorts.fits.remove fits _ n _

theorem State.formBatch_keepsSizes (s : State) (f : Flow) : s.KeepsSizes (s.formBatch f) := by
  unfold State.formBatch
  split
  · exact .refl s
  · split
    · exact s.tributaryBatch_keepsSizes f _ _
    · exact .of_frame (by simp)
    · exact .refl s

theorem State.sharesAtStart_keepsSizes (s : State) (n : Superframe) :
    s.KeepsSizes (s.sharesAtStart n) := by
  have sampled (u : State) : u.KeepsSizes (u.sampleGrade.openTransmitters n) := .of_frame (by simp)
  exact (((s.planAtStart_keepsSizes n).trans (State.timersAtStart_keepsSizes _ n)).trans
    (sampled _)).trans (.foldl State.formBatch_keepsSizes userFlows _)

/-! ### The superframe start and the entry of a slot -/

theorem State.superframeStart_keepsSizes (s : State) (n : Superframe) (counted : Bool) :
    s.KeepsSizes (s.superframeStart n counted) := by
  have collecting : s.KeepsSizes (s.collectingStart n) := by
    unfold State.collectingStart
    exact s.takeOwed_keepsSizes.trans (.of_frame (by simp))
  have shared := collecting.trans (State.sharesAtStart_keepsSizes _ n)
  have early (u : State) (e : EventUnit) :
      u.KeepsSizes (if counted then (u.withEvents e).countRoutine else u.withEvents e) := by
    cases counted <;> exact .of_frame (by simp)
  have reported (u : State) (first : Bool) (e : EventUnit) :
      u.KeepsSizes (((u.judge n).1.drainAndPlace (u.judge n).2 first).withEvents e) :=
    ((u.judge_keepsSizes n).trans
      ((u.judge n).1.drainAndPlace_keepsSizes (u.judge n).2 first)).trans (.of_frame (by simp))
  exact (shared.trans (early _ _)).trans (reported _ _ _)

theorem State.enterSlot_keepsSizes (s : State) (start : Option Superframe) :
    s.KeepsSizes (s.enterSlot start) := by
  have sampled (u : State) : u.KeepsSizes u.sampleStrikes := .of_frame (by simp)
  have sent (u : State) : u.KeepsSizes u.judgeHolds.sendSlot := .of_frame (by simp)
  unfold State.enterSlot
  split
  · exact (sampled s).trans (sent _)
  · next n =>
    split
    · exact ((sampled s).trans (State.superframeStart_keepsSizes _ n true)).trans (sent _)
    · exact ((s.superframeStart_keepsSizes n true).trans (sampled _)).trans (sent _)

/-- What is left is taken and the pins are sampled before link time moves. -/
theorem State.settlePins_keepsSizes (s : State) (pins : Pins) :
    s.KeepsSizes (s.settle.withPins pins) :=
  s.settle_keepsSizes.trans (.of_frame (by simp))

theorem State.enterSlotAt_keepsSizes (s : State) (t : LinkTime) (start : Option Superframe) :
    s.KeepsSizes ((s.setTime t).enterSlot start) := by
  have moved : s.KeepsSizes (s.setTime t) := .of_frame (by simp)
  exact moved.trans (State.enterSlot_keepsSizes _ start)

theorem State.advanceSlot_keepsSizes (s : State) (pins : Pins) :
    s.KeepsSizes (s.advanceSlot pins) :=
  ((s.settlePins_keepsSizes pins).trans (State.nextOccasion_keepsSizes _)).trans
    (State.enterSlotAt_keepsSizes _ _ _)

theorem State.takeFarAbsence_keepsSizes (s : State) : s.KeepsSizes s.takeFarAbsence := by
  unfold State.takeFarAbsence
  split
  · exact s.advanceSlot_keepsSizes _
  · exact .refl s

theorem State.takeRefEdge_keepsSizes (s : State) (pins : Pins) :
    s.KeepsSizes (s.takeRefEdge pins) := by
  unfold State.takeRefEdge
  split
  · exact .refl s
  · split
    · exact .refl s
    · exact ((s.settlePins_keepsSizes pins).trans (State.nextOccasion_keepsSizes _)).trans
        ((State.followMove_keepsSizes _ _ none).trans (State.enterSlotAt_keepsSizes _ _ _))

/-! ### Source markers and received cells -/

theorem State.moveTime_keepsSizes (s : State) (n : Int) (pins : Pins)
    (held : Option (Bearer × LinkTime)) : s.KeepsSizes (s.moveTime n pins held) := by
  unfold State.moveTime
  split
  · exact .refl s
  · exact (s.settlePins_keepsSizes pins).trans
      ((State.followMove_keepsSizes _ n held).trans (State.enterSlotAt_keepsSizes _ _ _))

theorem State.stepTime_keepsSizes (s : State) (a p : LinkTime) (pins : Pins)
    (held : Option (Bearer × LinkTime)) : s.KeepsSizes (s.stepTime a p pins held) := by
  have told (u : State) (c : LinkClock) (d : EventDetail) :
      u.KeepsSizes ((u.withClock c).raise .timeStep d) := .of_frame (by simp)
  have moved := (s.settlePins_keepsSizes pins).trans
    (State.followMove_keepsSizes _ (difference p a) held)
  unfold State.stepTime
  exact (moved.trans (told _ _ _)).trans
    ((State.swapAtStep_keepsSizes _ a.sf p.sf).trans (State.enterSlot_keepsSizes _ none))

theorem State.judgeMarker_keepsSizes (s : State) (b : Bearer) (t : Superframe) (a : LinkTime)
    (pins : Pins) (held : Option (Bearer × LinkTime)) :
    s.KeepsSizes (s.judgeMarker b t a pins held) := by
  have judged (c : LinkClock) : s.KeepsSizes (s.withClock c) := .of_frame (by simp)
  unfold State.judgeMarker
  dsimp only
  split
  · exact (judged _).trans (State.moveTime_keepsSizes ..)
  · split
    · exact s.stepTime_keepsSizes ..
    · exact (judged _).trans (State.moveTime_keepsSizes ..)

theorem State.handOnMarker_keepsSizes (s : State) (b : Bearer) (m : MarkerRecord) (pins : Pins) :
    s.KeepsSizes (s.handOnMarker b m pins) := by
  have reported (u : State) (now : Bool) : u.KeepsSizes (u.reportIf now m.farFibreTimed) :=
    .of_frame (by simp)
  have told (u : State) (skewed planned : Bool) : u.KeepsSizes
      ((u.skewIf skewed b m.sf m.stamp).reportIf planned m.farFibreTimed) :=
    (u.skewIf_keepsSizes skewed b m.sf m.stamp).trans (reported _ planned)
  unfold State.handOnMarker
  dsimp only
  split
  · exact ((told s _ _).trans (State.judgeMarker_keepsSizes ..)).trans (told _ _ _)
  · exact told s true true

theorem State.acceptedCell_keepsSizes (s : State) (b : Bearer) (content : HeaderContent)
    (cell : List Byte) (pins : Pins) : s.KeepsSizes (s.acceptedCell b content cell pins) := by
  cases content with
  | idle => exact .refl s
  | data flow sequence len => exact s.takeArrival_keepsSizes ..
  | marker sf fibreTimed radioTimed grade =>
    exact State.KeepsSizes.trans (.of_frame (by simp)) (State.handOnMarker_keepsSizes ..)

theorem State.takeCell_keepsSizes (s : State) (b : Bearer) (cell : List Byte) (pins : Pins) :
    s.KeepsSizes (s.takeCell b cell pins) := by
  have aligned (u : State) : u.KeepsSizes (u.alignedCell b cell pins) := by
    unfold State.alignedCell
    split
    · exact u.badHeader_keepsSizes b
    · exact State.KeepsSizes.trans (.of_frame (by simp)) (State.acceptedCell_keepsSizes ..)
  unfold State.takeCell
  split
  · exact .refl s
  · exact .of_frame (by simp)
  · exact State.KeepsSizes.trans (.of_frame (by simp)) (aligned s.nextOccasion)
  · exact State.KeepsSizes.trans (.of_frame (by simp)) (aligned s.nextOccasion)

/-! ### Every command and every step -/

/-- The power-on values are within their sizes, whatever the state before (R3). -/
theorem State.KeepsSizes.powerOn (s : State) (inReset : Bool) (role : Role) (pins : Pins)
    (ready : Tab 8 Bool) (occasion : Nat) (pending : List Instr) :
    s.KeepsSizes (State.powerOn inReset role pins ready occasion pending) where
  ingress _ := by simp [State.powerOn, IngressPorts.fits, IngressPorts.powerOn]
  egress _ := by simp [State.powerOn, EgressPorts.fits, EgressPorts.powerOn]
  mgmt _ := ⟨Nat.zero_le _, Nat.zero_le _⟩
  skew _ b := by cases b <;> exact Nat.zero_le _
  pool _ := poolWf_powerOn

theorem State.released_keepsSizes (s : State) (role : Role) (pins : Pins) :
    s.KeepsSizes (s.released role pins) := by
  have sent (u : State) : u.KeepsSizes u.sendSlot := .of_frame (by simp)
  exact (State.KeepsSizes.powerOn s false role pins s.egress.ready (s.occasion + 1) s.pending).trans
    ((State.superframeStart_keepsSizes _ 0 false).trans (sent _))

/-- An event that is taken only while RESET is released. -/
theorem whenReleased_keepsSizes {s u t : State} (keeps : s.KeepsSizes u)
    (h : whenReleased s u = .next t) : s.KeepsSizes t := by
  unfold whenReleased at h
  split at h
  · cases h; exact .refl s
  · cases h; exact keeps

theorem exec_keepsSizes (i : Instr) (s t : State) (h : exec i s = .next t) : s.KeepsSizes t := by
  cases i with
  | resetAssert => cases h; exact .powerOn s ..
  | resetRelease role pins =>
    simp only [exec, execResetRelease] at h
    split at h
    · rw [← Host.Outcome.next.inj h]; exact s.released_keepsSizes role pins
    · cases h; exact .refl s
  | egressReadyChange trib ready => cases h; exact ⟨id, id, id, id, id⟩
  | slotEntry pins => exact whenReleased_keepsSizes (s.advanceSlot_keepsSizes pins) h
  | refEdge pins => exact whenReleased_keepsSizes (s.takeRefEdge_keepsSizes pins) h
  | farMarkerAbsence => exact whenReleased_keepsSizes s.takeFarAbsence_keepsSizes h
  | markerAbsenceExpiry | stormEnd | tallyLoss =>
    exact whenReleased_keepsSizes (s.takeOwedOf_keepsSizes _) h
  | tributaryCellArrival trib payload len =>
    exact whenReleased_keepsSizes (s.ingressArrival_keepsSizes trib ⟨payload, len⟩) h
  | egressTake trib =>
    exact whenReleased_keepsSizes (u := s.withEgress (s.egress.take trib))
      ⟨id, fun fits => fits.take trib, id, id, id⟩ h
  | mgmtPortTake =>
    refine whenReleased_keepsSizes (u := s.withMgmt s.mgmt.take) ⟨id, id, ?_, id, id⟩ h
    exact fun ⟨port, flow0⟩ => ⟨by simp [ManagementUnit.take]; omega, flow0⟩
  | mgmtPortCell payload len => exact whenReleased_keepsSizes (s.portCell_keepsSizes _) h
  | huntCandidateFound bearer position header =>
    exact whenReleased_keepsSizes
      (u := s.withRx bearer ((s.rx bearer).examine position header)) (.of_frame (by simp)) h
  | receivedCell bearer cell pins =>
    exact whenReleased_keepsSizes (s.takeCell_keepsSizes bearer cell pins) h
  | holdExpiry flow => exact whenReleased_keepsSizes (s.takeExpiry_keepsSizes flow) h
  | identify | readEntry | writeEntry | clearEntry | copyEntries | checkShadow | swapAt | cancelSwap
  | readFlowCounts | readBearer | readLink | setSetting | readSettings | setWindow | freezeWindow
  | setBar | clearBar | setTallySource | setTallyOverride | clearTallyOverride | readEvents
  | ackEvents | flushTributary | resetDatapath =>
    exact whenReleased_keepsSizes (s.carryOut_keepsSizes ..) h

theorem step_keepsSizes (s t : State) (h : step s = .next t) : s.KeepsSizes t := by
  unfold step at h
  split at h
  · cases h; exact .refl s
  · next c rest _ =>
    exact State.KeepsSizes.trans (t := s.withPending rest) (.of_frame (by simp))
      (exec_keepsSizes c _ t h)

/-- Settles O53: every operation keeps each block within its sizes, and the only store into the
Buffer Pool keeps its canonical form. -/
theorem stepKeepsQueuesWithinSize : Obligations.StepKeepsQueuesWithinSize := by
  intro s t h
  have keeps := step_keepsSizes s t h
  rw [State.queuesFit_iff, State.queuesFit_iff]
  exact ⟨fun ⟨ingress, egress, mgmt, skew⟩ =>
    ⟨keeps.ingress ingress, keeps.egress egress, keeps.mgmt mgmt, keeps.skew skew⟩, keeps.pool⟩

end Sys2Proof.Machine
end

section
/-! SUPPORT. The way out: the arrival of a cell at a tributary (R42 to R44), the batch of a
tributary's flow (R46 to R54), the radio slots of a superframe (R59), and the cells that a
transmitter completes as a receiver reads them (R50, R63, R149, R183, R184); and the proofs about
them. -/

namespace Sys2Proof.Machine

/-! ### Arrivals at a tributary (R42 to R44) -/

theorem State.ingressArrival_places {s : State} {n : Trib} {cell : CellData}
    (nonempty : 1 ≤ cell.len) (short : cell.len ≤ 180)
    (room : (s.ingress.fifo.read n).length < 64) :
    s.ingressArrival n cell =
      s.withIngress (s.ingress.place (s.mgmt.settings.watermark.read n) n cell) :=
  if_pos ⟨nonempty, short, room⟩

theorem State.ingressArrival_drops {s : State} {n : Trib} {cell : CellData}
    (turned : cell.len = 0 ∨ 180 < cell.len ∨ 64 ≤ (s.ingress.fifo.read n).length) :
    s.ingressArrival n cell = s.dropIngress n := by
  refine if_neg fun ⟨nonempty, short, room⟩ => ?_
  have : (s.ingress.fifo.read n).length < 64 := room
  omega

/-- Settles O16: a cell that meets the conditions of R42 is placed, and any other is dropped for the
flow whose OUTBOUND entry names the tributary, or as unrouted. -/
theorem tributaryCellPlacedOrDropped : Obligations.TributaryCellPlacedOrDropped := by
  intro n payload len s released
  have ran : exec (.tributaryCellArrival n payload len) s =
      .next (s.ingressArrival n ⟨payload, len⟩) := whenReleased_next released _
  rw [ran]
  refine ⟨fun nonempty short room => ?_, fun turned => ?_⟩
  · rw [State.ingressArrival_places nonempty short room]
    simp [State.withIngress, IngressPorts.place, holdAfterPlacing]
  · rw [State.ingressArrival_drops turned]
    refine ⟨fun f routed => ?_, fun unrouted => ?_⟩
    · simp only [State.dropIngress, routed]
      rfl
    · simp only [State.dropIngress, unrouted]
      rfl

/-! ### Numbering and placing a batch (R49, R54) -/

/-- The cells of a batch are numbered one after another (R49). -/
theorem numberCells_getElem? (f : Flow) (q : Seq) (ds : List CellData) (i : Nat) :
    (numberCells f q ds)[i]? = ds[i]?.map fun d => ⟨f, q + BitVec.ofNat 16 i, d, false⟩ := by
  induction ds generalizing q i with
  | nil => rfl
  | cons d ds ih =>
    cases i with
    | zero => simp [numberCells]
    | succ i =>
      have next : q + 1 + BitVec.ofNat 16 i = q + BitVec.ofNat 16 (i + 1) := by
        rw [BitVec.ofNat_add, BitVec.add_comm (BitVec.ofNat 16 i), ← BitVec.add_assoc]
        rfl
      simp only [numberCells, List.getElem?_cons_succ, ih, next]

theorem Transmitter.addCells_sendList (t : Transmitter) (here : Bool) (cells : List BatchCell) :
    (t.addCells here cells).sendList = t.sendList ++ if here = true then cells else [] := by
  cases here <;> simp [Transmitter.addCells]

/-- The cells of a batch join the send list of each bearer on which they are placed (R54). -/
theorem State.batchCells_sendList (s : State) (b : Bearer) (f : Flow) (p : Protection)
    (ds : List CellData) :
    ((s.batchCells f p ds).tx b).sendList = (s.tx b).sendList ++
      if placedOn b p (s.planner.plan.contains f) = true then
        numberCells f (s.batch.flow.read f).sequence ds
      else [] := by
  cases b <;> exact Transmitter.addCells_sendList _ _ _

/-- The counter and the batched count of the flow go on by the number of cells (R49). -/
theorem State.batchCells_flow (s : State) (f : Flow) (p : Protection) (ds : List CellData)
    (g : Flow) :
    (s.batchCells f p ds).batch.flow.read g =
      if g = f then
        { s.batch.flow.read f with
          sequence := (s.batch.flow.read f).sequence + BitVec.ofNat 16 ds.length
          batched := satAdd (s.batch.flow.read f).batched ds.length }
      else s.batch.flow.read g := by
  simp [State.batchCells, Tab.read_write]

/-! ### The silent run (R53) -/

theorem FlowBatchState.judgeSilence_eq (st : FlowBatchState) (empty : Bool) :
    (st.judgeSilence empty).1 = { st with
      silentRun := if empty = true then min 64 (st.silentRun + 1) else 0
      silentMark := (st.judgeSilence empty).1.silentMark } := by
  cases empty <;> rfl

theorem State.judgeSilence_flow (s : State) (f : Flow) (empty : Bool) (g : Flow) :
    (s.judgeSilence f empty).batch.flow.read g =
      if g = f then ((s.batch.flow.read f).judgeSilence empty).1 else s.batch.flow.read g := by
  have written : (s.judgeSilence f empty).batch.flow =
      s.batch.flow.write f ((s.batch.flow.read f).judgeSilence empty).1 := by
    unfold State.judgeSilence
    dsimp only
    split <;> simp
  rw [written, Tab.read_write]

/-! ### The batch of a tributary's flow (R48) -/

theorem IngressPorts.remove_fifo (p : IngressPorts) (watermark : Nat) (n : Trib) (k : Nat)
    (m : Trib) :
    (p.remove watermark n k).fifo.read m =
      if m = n then (p.fifo.read n).drop k else p.fifo.read m := by
  simp [IngressPorts.remove, Tab.read_write]

/-- Settles O17: the cells leave the FIFO, are numbered and placed, and the silent run is judged. -/
theorem tributaryBatchTakesOldest : Obligations.TributaryBatchTakesOldest := by
  refine ⟨fun s f x n => ?_, numberCells_getElem?⟩
  intro fifo k old cells inPlan t
  let s1 := s.withIngress (s.ingress.remove (s.mgmt.settings.watermark.read n) n k)
  have formed : t = (s1.batchCells f x.protection (fifo.take k)).judgeSilence f (k == 0) := rfl
  have taken : (fifo.take k).length = k := by
    rw [List.length_take]; omega
  have fifos (m : Trib) :
      t.ingress.fifo.read m = if m = n then fifo.drop k else s.ingress.fifo.read m := by
    rw [formed, State.judgeSilence_ingress, State.batchCells_ingress]
    exact s.ingress.remove_fifo _ n k m
  have flows (g : Flow) : t.batch.flow.read g =
      if g = f then
        ({ old with
          sequence := old.sequence + BitVec.ofNat 16 k
          batched := satAdd old.batched k } : FlowBatchState).judgeSilence (k == 0) |>.1
      else s.batch.flow.read g := by
    rw [formed, State.judgeSilence_flow, State.batchCells_flow, State.batchCells_flow, if_pos rfl,
      taken]
    split <;> rfl
  have sends (b : Bearer) : (t.tx b).sendList =
      (s.tx b).sendList ++ if placedOn b x.protection inPlan = true then cells else [] := by
    have same : t.tx b = (s1.batchCells f x.protection (fifo.take k)).tx b := by
      rw [formed]; cases b <;> simp [State.tx]
    rw [same]
    exact s1.batchCells_sendList b f x.protection (fifo.take k)
  have own := flows f
  rw [if_pos rfl, FlowBatchState.judgeSilence_eq] at own
  refine ⟨by simp [fifos], fun m hm => by simp [fifos, hm], by rw [own], by rw [own], ?_,
    fun g hg => by simp [flows, hg], sends .fibre, sends .radio⟩
  rw [own]
  simp [beq_iff_eq]

/-! ### The radio slots of a superframe (R59) -/

/-- A fold over the first `k + 1` numbers ends with number `k`. -/
theorem foldl_finRange_take_succ {α : Type} {n k : Nat} (h : k < n) (f : α → Fin n → α) (a : α) :
    ((List.finRange n).take (k + 1)).foldl f a =
      f (((List.finRange n).take k).foldl f a) ⟨k, h⟩ := by
  rw [List.take_add_one]
  simp [h]

/-- A radio slot is due once the link slots entered, this one among them, have room for more than
the radio slots used (R59). -/
theorem radioSlotDue_iff {g : Grade} (hg : 0 < g.toNat) (used : Nat) (slot : Slot) :
    radioSlotDue g used slot = true ↔
      used < 32 * g.toNat ∧ 48 * used < (slot.val + 1) * g.toNat := by
  rw [radioSlotDue, Bool.and_eq_true, decide_eq_true_eq, decide_eq_true_eq, ← Nat.lt_succ_iff,
    Nat.div_lt_iff_lt_mul hg]

/-- One link slot more uses one radio slot more exactly where the rounded-up share grows (R59). -/
theorem radioSlots_next (g : Grade) (slot : Slot) :
    (if radioSlotDue g ((slot.val * g.toNat + 47) / 48) slot = true
      then (slot.val * g.toNat + 47) / 48 + 1 else (slot.val * g.toNat + 47) / 48) =
      ((slot.val + 1) * g.toNat + 47) / 48 := by
  have small := g.isLt
  have product : (slot.val + 1) * g.toNat = slot.val * g.toNat + g.toNat := Nat.succ_mul ..
  have whole : (slot.val + 1) * g.toNat ≤ 1536 * g.toNat := Nat.mul_le_mul_right _ slot.isLt
  by_cases silent : g.toNat = 0
  · simp [radioSlotDue, silent]
  · have due := radioSlotDue_iff (Nat.pos_of_ne_zero silent) ((slot.val * g.toNat + 47) / 48) slot
    split
    · next uses => have := due.mp uses; omega
    · next stands => have := mt due.mpr stands; omega

/-- Settles O7, by induction on the number of link slots entered. -/
theorem usedRadioSlotsOfASuperframe : Obligations.UsedRadioSlotsOfASuperframe := by
  intro g k hk
  induction k with
  | zero => simp
  | succ k ih =>
    rw [foldl_finRange_take_succ hk, ih (by omega)]
    exact radioSlots_next g ⟨k, hk⟩

/-! ### The header that a transmitter writes (R183, R184) -/

/-- Bytes 0..10 of a header, which its check covers (R184). -/
def headerBody (kind : Nat) (flow : Flow) (sequence : Seq) (info : List Byte) (len : Nat) :
    List Byte :=
  [0xE2, 0x1D, BitVec.ofNat 8 (64 * kind + flow.val)] ++ bytesOf 2 sequence.toNat ++ info ++
    [BitVec.ofNat 8 len, 0]

theorem headerBytes_eq (kind : Nat) (flow : Flow) (sequence : Seq) (info : List Byte) (len : Nat) :
    headerBytes kind flow sequence info len =
      headerBody kind flow sequence info len ++
        [headerCheck (headerBody kind flow sequence info len)] :=
  rfl

section Header

variable {kind len : Nat} {flow : Flow} {sequence : Seq} {info : List Byte}

theorem headerBody_length (four : info.length = 4) :
    (headerBody kind flow sequence info len).length = 11 := by
  simp [headerBody, four]

theorem headerBytes_length (four : info.length = 4) :
    (headerBytes kind flow sequence info len).length = 12 := by
  rw [headerBytes_eq, List.length_append, headerBody_length four]
  rfl

/-- The framing test accepts every header as it is written (R80, R184). -/
theorem framingTest_headerBytes (four : info.length = 4) (payload : List Byte) :
    framingTest (headerBytes kind flow sequence info len ++ payload) = true := by
  have body := headerBody_length (kind := kind) (flow := flow) (sequence := sequence) (len := len)
    four
  have covered : slice (headerBytes kind flow sequence info len ++ payload) 0 11 =
      headerBody kind flow sequence info len := by
    rw [headerBytes_eq, slice, List.drop_zero, List.append_assoc, List.take_left' body]
  have check : byteAt (headerBytes kind flow sequence info len ++ payload) 11 =
      headerCheck (headerBody kind flow sequence info len) := by
    rw [headerBytes_eq, byteAt, List.append_assoc, List.getD_eq_getElem?_getD,
      List.getElem?_append_right (by omega), body]
    rfl
  rw [framingTest, covered, check, beq_self_eq_true, Bool.and_true]
  rfl

theorem goodHeader_headerBytes (four : info.length = 4) (payload : List Byte) :
    goodHeader (headerBytes kind flow sequence info len ++ payload) =
      contentTest (headerBytes kind flow sequence info len ++ payload) := by
  rw [goodHeader, framingTest_headerBytes four, if_pos rfl]

theorem cellPayload_headerBytes (four : info.length = 4) {payload : List Byte}
    (whole : payload.length = 180) :
    cellPayload (headerBytes kind flow sequence info len ++ payload) = payload := by
  rw [cellPayload, slice, List.drop_left' (headerBytes_length four)]
  exact List.take_of_length_le (Nat.le_of_eq whole)

end Header

/-- Kind and flow share byte 2 of a header (R183). -/
theorem kindByte_toNat {kind : Nat} (hk : kind ≤ 3) (flow : Flow) :
    (BitVec.ofNat 8 (64 * kind + flow.val)).toNat = 64 * kind + flow.val := by
  have := flow.isLt
  rw [BitVec.toNat_ofNat]
  omega

theorem contentTest_data (flow : Flow) (sequence : Seq) (payload : List Byte) {len : Nat}
    (nonempty : 1 ≤ len) (short : len ≤ 180) :
    contentTest (headerBytes 1 flow sequence (zeroBytes 4) len ++ payload) =
      some (.data flow sequence len) := by
  set cell := headerBytes 1 flow sequence (zeroBytes 4) len ++ payload
  have kind : (byteAt cell 2).toNat = 64 + flow.val := kindByte_toNat (kind := 1) (by omega) flow
  have number : valueOf (slice cell 3 2) = sequence.toNat := valueOf_bytesOf_two _ sequence.isLt
  have length : (byteAt cell 9).toNat = len := Nat.mod_eq_of_lt (by omega)
  have data : (64 + flow.val) / 64 = 1 := by omega
  have low : Fin.ofNat 64 (64 + flow.val) = flow := Fin.ext (by simp)
  simp only [contentTest, kind, number, length, data, low, nonempty, short, and_self, if_true,
    BitVec.ofNat_toNat, BitVec.setWidth_eq]

/-- The marker info field has four bytes (R183). -/
theorem markerInfo_length (m : Marker) : (markerInfo m).length = 4 := by
  simp [markerInfo]

/-- The two flags of a marker share one byte (R183). -/
theorem markerFlags_bits (fibreTimed radioTimed : Bool) :
    (flagByte fibreTimed 1 + flagByte radioTimed 2).getLsbD 0 = fibreTimed ∧
    (flagByte fibreTimed 1 + flagByte radioTimed 2).getLsbD 1 = radioTimed := by
  revert fibreTimed radioTimed
  decide

theorem contentTest_marker (m : Marker) (payload : List Byte) :
    contentTest (headerBytes 2 0 0 (markerInfo m) 0 ++ payload) =
      some (.marker m.sf m.fibreTimed m.radioTimed m.grade) := by
  set cell := headerBytes 2 0 0 (markerInfo m) 0 ++ payload
  have sfRange := m.sf.isLt
  have gradeRange := m.grade.isLt
  have kind : (byteAt cell 2).toNat = 128 := kindByte_toNat (kind := 2) (by omega) 0
  have sf : valueOf (slice cell 5 2) = m.sf.toNat := valueOf_bytesOf_two _ (by omega)
  have flags : byteAt cell 7 = flagByte m.fibreTimed 1 + flagByte m.radioTimed 2 := rfl
  have grade : (byteAt cell 8).toNat = m.grade.toNat := Nat.mod_eq_of_lt (by omega)
  obtain ⟨fibreFlag, radioFlag⟩ := markerFlags_bits m.fibreTimed m.radioTimed
  have inRange : m.sf.toNat ≤ 4095 ∧ m.grade.toNat ≤ 15 := by omega
  simp only [contentTest, kind, sf, flags, grade, fibreFlag, radioFlag, inRange, if_true,
    BitVec.ofNat_toNat, BitVec.setWidth_eq]
  rfl

/-- Settles O30: the framing test accepts every header as written, and each kind's content test says
what was put in. -/
theorem sentCellReadsBack : Obligations.SentCellReadsBack := by
  have zeros : (zeroBytes 4).length = 4 := List.length_replicate
  have blank : (zeroBytes payloadBytes).length = 180 := List.length_replicate
  refine ⟨fun f q data whole nonempty short => ⟨?_, ?_, ?_⟩, fun m => ⟨?_, ?_⟩, ?_, ?_⟩
  · rw [dataCellBytes, List.length_append, headerBytes_length zeros, whole]
  · rw [dataCellBytes, goodHeader_headerBytes zeros, contentTest_data f q _ nonempty short]
  · exact cellPayload_headerBytes zeros whole
  · rw [markerCellBytes, List.length_append, headerBytes_length (markerInfo_length m), blank]
  · rw [markerCellBytes, goodHeader_headerBytes (markerInfo_length m), contentTest_marker]
  · rw [idleCellBytes, List.length_append, headerBytes_length zeros, blank]
  · rw [idleCellBytes, goodHeader_headerBytes zeros]
    rfl

/-! ### The tally cell (R50, R149) -/

@[simp] theorem lampOperand_number (state : LampState) : lampOperand state.number = some state := by
  cases state <;> rfl

/-- Byte `n` of a tally payload is lamp `n`'s code, whatever follows the eight (R183). -/
theorem byteAt_lampBytes (lamps : Tab 8 LampState) (rest : List Byte) (n : Lamp) :
    byteAt (lampBytes lamps ++ rest) n.val = (lamps.read n).number := by
  simp [byteAt, lampBytes, allEights, List.getElem?_append_left]

/-- Settles O31: a Tally Unit decodes each lamp code that the tally cell carries. -/
theorem tallyCellCarriesTheSource : Obligations.TallyCellCarriesTheSource := by
  intro s u tallyLoss t
  have length : (lampBytes s.batch.tallySource).length = 8 := lampBytes_length _
  refine ⟨length, paddedCell_payload_length _ _ (by omega), fun n => ?_, rfl, rfl, rfl, rfl⟩
  have code : byteAt s.tallyCell.payload n.val = (s.batch.tallySource.read n).number :=
    byteAt_lampBytes _ _ n
  simp only [t, TallyUnit.takeCell, Tab.read_build, code, lampOperand_number, Option.getD_some]

end Sys2Proof.Machine
end

section
/-! SUPPORT. SET-SETTING, SET-TALLY, CLEAR-TALLY-OVERRIDE, ACK-EVENTS and FLUSH-TRIBUTARY: what
each does to the block that it concerns (R45, R51, R147, R152, R168, R178), and the proofs about
them. -/

namespace Sys2Proof.Machine

/-! ### Commands that either end may give, and refusals by a block's own tests (R161, R162) -/

/-- A command that neither is near-only, nor is barred, nor writes an entry is carried out from
either end. -/
theorem exec_answered_freely {s u : State} {o : Origin} {tag : Byte} {c : Command} {i : Instr}
    {results : List Byte} (released : s.inReset = false) (row : c.row o tag = some i)
    (allowed : c.nearOnly = false) (unbarred : c.barred = false)
    (inside : c.windowPasses s.mgmt.windowLow s.mgmt.windowHigh = true)
    (ran : s.run c = (Reply.ok results, u)) (short : results.length ≤ 170) :
    ∃ t : State, exec i s = .next t ∧ Answered u t o (okRecord tag c.number results) :=
  exec_answered_ok released row (s.mgmt.refusal_of_reading o allowed unbarred inside) ran short

/-- A near command that its block refuses, naming one record byte, is answered so and changes
nothing. -/
theorem exec_answered_refusal {s : State} {tag : Byte} {c : Command} {i : Instr} {status : Status}
    {at_ : Nat} (released : s.inReset = false) (row : c.row .near tag = some i)
    (ran : s.run c = (Reply.refusedAt status [at_], s)) :
    ∃ t : State, exec i s = .next t ∧ Answered s t .near
      [2, tag, c.number, status.number, 0, BitVec.ofNat 8 at_, 0, 0, 0, 0] := by
  refine ⟨_, exec_row released row, ?_⟩
  rw [State.carryOut_passed _ _ _ _ (ManagementUnit.refusal_near _ c), ran]
  exact s.answer_answered .near tag c.number (Reply.refusedAt status [at_]) (Nat.zero_le _)

/-! ### Lamps (R51, R152) -/

section Lamps

variable {mask : Byte} {lamps : Tab 8 Byte} {states : Tab 8 LampState}
  (defined : ∀ n : Lamp, mask.getLsbD n.val = true → lamps.read n = (states.read n).number)
include defined

theorem badLamps_eq_nil : badLamps mask lamps = [] := by
  rw [badLamps, List.map_eq_nil_iff, List.filter_eq_nil_iff]
  intro n _ bad
  rw [Bool.and_eq_true] at bad
  simp [defined n bad.1] at bad

theorem setLamps_read (old : Tab 8 LampState) (n : Lamp) :
    (setLamps old mask lamps).read n =
      if mask.getLsbD n.val = true then states.read n else old.read n := by
  rw [setLamps, Tab.read_build]
  split
  · next named => rw [defined n named, lampOperand_number, Option.getD_some]
  · rfl

end Lamps

theorem bitsOf_read {n w : Nat} (v : BitVec w) (i : Fin n) :
    (bitsOf v : Tab n Bool).read i = v.getLsbD i.val := by
  simp [bitsOf]

/-- Settles O49: no test turns the tally commands away, and each sets the lamps that its mask
names. -/
theorem tallyCommandsSetTheLamps : Obligations.TallyCommandsSetTheLamps := by
  intro o tag mask lamps states s released defined
  have good := badLamps_eq_nil defined
  refine ⟨?_, ?_, ?_⟩
  · obtain ⟨t, ran, answered⟩ := exec_answered_freely (o := o) (tag := tag)
      (c := .setTally 0 mask lamps) (results := [])
      (u := s.withBatch { s.batch with tallySource := setLamps s.batch.tallySource mask lamps })
      released rfl rfl rfl rfl
      (by simp [State.run, State.runSetTally, State.runSetTallySource, BatchUnit.setTally, good])
      (Nat.zero_le _)
    exact ⟨t, _, ran, rfl, setLamps_read defined _, answered⟩
  · obtain ⟨t, ran, answered⟩ := exec_answered_freely (o := o) (tag := tag)
      (c := .setTally 1 mask lamps) (results := [])
      (u := s.withTally (s.tally.setOverride mask (setLamps s.tally.overrideStates mask lamps)))
      released rfl rfl rfl rfl
      (by simp [State.run, State.runSetTally, State.runSetTallyOverride, good]) (Nat.zero_le _)
    refine ⟨t, _, ran, rfl, bitsOf_read mask, setLamps_read defined _, fun n => ?_, answered⟩
    simp only [State.withTally_tally, TallyUnit.shown, TallyUnit.setOverride, bitsOf_read,
      setLamps_read defined]
    split <;> rfl
  · obtain ⟨t, ran, answered⟩ := exec_answered_freely (s := s) (o := o) (tag := tag)
      (c := .clearTallyOverride) released rfl rfl rfl rfl rfl (Nat.zero_le _)
    refine ⟨t, _, ran, rfl, fun n => ?_, answered⟩
    simp [TallyUnit.shown, TallyUnit.clearOverride]

/-! ### Sets of bits as numbers (R187) -/

/-- A power of two above a number sets one more bit. -/
theorem testBit_add_two_pow {x k : Nat} (below : x < 2 ^ k) (i : Nat) :
    (x + 2 ^ k).testBit i = (decide (k = i) || x.testBit i) := by
  have disjoint := Nat.two_pow_add_eq_or_of_lt below 1
  rw [Nat.mul_one] at disjoint
  rw [Nat.add_comm, disjoint, Nat.testBit_or, Nat.testBit_two_pow]

/-- The sum over the first `k` indexes of a table has their bits and no other. -/
theorem maskOf_take {n : Nat} (t : Tab n Bool) (k : Nat) (hk : k ≤ n) :
    let sum := ((List.finRange n).take k).foldl
      (fun acc i => if t.read i then acc + 2 ^ i.val else acc) 0
    sum < 2 ^ k ∧ ∀ i : Fin n, sum.testBit i.val = (decide (i.val < k) && t.read i) := by
  induction k with
  | zero => simp
  | succ k ih =>
    obtain ⟨below, bits⟩ := ih (by omega)
    rw [foldl_finRange_take_succ hk]
    generalize ((List.finRange n).take k).foldl _ 0 = sum at below bits ⊢
    dsimp only
    split
    · next set =>
      refine ⟨by omega, fun i => ?_⟩
      rw [testBit_add_two_pow below, bits]
      by_cases top : i.val = k
      · obtain rfl : i = ⟨k, hk⟩ := Fin.ext top
        simp [set]
      · simp [Ne.symm top, show i.val < k + 1 ↔ i.val < k by omega]
    · next clear =>
      refine ⟨by omega, fun i => ?_⟩
      rw [bits]
      by_cases top : i.val = k
      · obtain rfl : i = ⟨k, hk⟩ := Fin.ext top
        simp [clear]
      · simp [show i.val < k + 1 ↔ i.val < k by omega]

theorem maskOf_lt {n : Nat} (t : Tab n Bool) : maskOf t < 2 ^ n := by
  obtain ⟨below, -⟩ := maskOf_take t n (Nat.le_refl n)
  rwa [List.take_of_length_le (by simp)] at below

theorem maskOf_testBit {n : Nat} (t : Tab n Bool) (i : Fin n) :
    (maskOf t).testBit i.val = t.read i := by
  obtain ⟨-, bits⟩ := maskOf_take t n (Nat.le_refl n)
  rw [List.take_of_length_le (by simp)] at bits
  exact (bits i).trans (by simp)

/-! ### ACK-EVENTS and FLUSH-TRIBUTARY (R45, R147, R178) -/

@[simp] theorem tribOperand_ofNat (n : Trib) : tribOperand (BitVec.ofNat 8 n.val) = some n := by
  have small := n.isLt
  have number : (BitVec.ofNat 8 n.val).toNat = n.val := Nat.mod_eq_of_lt (by omega)
  simp only [tribOperand, number, small, dif_pos]

/-- The flags as a set of 24 bits. -/
def EventUnit.flagSet (u : EventUnit) : BitVec 24 :=
  BitVec.ofNat 24 (maskOf (Tab.build fun e : Fin 20 => (u.event.read e).flag))

theorem EventUnit.flagSet_toNat (u : EventUnit) :
    u.flagSet.toNat = maskOf (Tab.build fun e : Fin 20 => (u.event.read e).flag) := by
  have := maskOf_lt (Tab.build fun e : Fin 20 => (u.event.read e).flag)
  exact Nat.mod_eq_of_lt (by omega)

theorem EventUnit.flagSet_getLsbD (u : EventUnit) (e : Fin 20) :
    u.flagSet.getLsbD e.val = (u.event.read e).flag := by
  rw [← BitVec.testBit_toNat, EventUnit.flagSet_toNat, maskOf_testBit, Tab.read_build]

/-- Settles O50: no test turns the two commands away, and each clears what it names. -/
theorem ackEventsAndFlushTributary : Obligations.AckEventsAndFlushTributary := by
  intro o tag s released
  refine ⟨fun events named => ?_, fun events beyond => ?_, fun n => ?_⟩
  · let u := s.events.acknowledge (bitsOf events)
    obtain ⟨t, ran, answered⟩ := exec_answered_freely (o := o) (tag := tag)
      (c := .ackEvents events) (results := u.flagBytes) (u := s.withEvents u)
      released rfl rfl rfl rfl (if_neg (Nat.not_le.mpr named)) (by simp [EventUnit.flagBytes])
    refine ⟨t, s.withEvents u, ran, rfl, rfl, fun e => ?_, u.flagSet, u.flagSet_getLsbD, ?_, ?_⟩
    · exact (s.events.acknowledge_read _ e).trans (by rw [bitsOf_read]; rfl)
    · rw [EventUnit.flagSet_toNat]
      exact maskOf_lt _
    · rw [EventUnit.flagSet_toNat]
      exact answered
  · exact exec_answered_refusal (c := .ackEvents events) (status := .range) (at_ := 4) released rfl
      (if_pos beyond)
  · exact exec_answered_freely (c := .flushTributary (BitVec.ofNat 8 n.val)) released rfl rfl
      rfl rfl
      (by
        simp only [State.run, State.runFlushTributary, tribOperand_ofNat]
        rfl)
      (by simp)

/-! ### Settings stored (R168) -/

theorem Settings.withNumber_watermark (st : Settings) (name v : Nat) :
    (st.withNumber name v).watermark = st.watermark := by
  unfold Settings.withNumber
  split <;> rfl

theorem Settings.withNumber_stormGuard (st : Settings) (name v : Nat) :
    (st.withNumber name v).stormGuard = if name = 3 then v else st.stormGuard := by
  unfold Settings.withNumber
  split <;> simp_all

/-- A number out of range is brought to the nearer bound, which CLAMPED tells (R168). -/
theorem setNumber_eq (st : Settings) (name index : Byte) {low high : Nat} (range : low ≤ high)
    (value : BitVec 16) (store : Settings → Nat → Settings) :
    setNumber st name index low high value store =
      (settingStored name index (max low (min high value.toNat))
          (decide (value.toNat < low) || decide (high < value.toNat)),
        store st (max low (min high value.toNat))) := by
  rw [setNumber, clampNumber_eq _ range, Bool.decide_or]

/-- Each numeric setting without an index has its number and its range (R168, R185). -/
theorem Settings.set_number {name low high : Nat}
    (numeric : (name, low, high) ∈
      [(1, 1, 8), (2, 4, 64), (3, 0, 1023), (4, 1, 255), (5, 10, 1000), (7, 16, 1024)])
    (st : Settings) (index : Byte) (value : BitVec 16) :
    st.set (BitVec.ofNat 8 name) index value =
      (settingStored (BitVec.ofNat 8 name) 0 (max low (min high value.toNat))
          (decide (value.toNat < low) || decide (high < value.toNat)),
        st.withNumber name (max low (min high value.toNat))) := by
  obtain ⟨range, read⟩ : low ≤ high ∧ st.set (BitVec.ofNat 8 name) index value =
      setNumber st (BitVec.ofNat 8 name) 0 low high value fun t v => t.withNumber name v := by
    simp only [List.mem_cons, Prod.mk.injEq, List.not_mem_nil, or_false] at numeric
    rcases numeric with ⟨rfl, rfl, rfl⟩ | ⟨rfl, rfl, rfl⟩ | ⟨rfl, rfl, rfl⟩ | ⟨rfl, rfl, rfl⟩ |
      ⟨rfl, rfl, rfl⟩ | ⟨rfl, rfl, rfl⟩ <;> exact ⟨by omega, rfl⟩
  rw [read, setNumber_eq st _ _ range]

theorem Settings.set_watermark (st : Settings) (n : Trib) (value : BitVec 16) :
    st.set 0 (BitVec.ofNat 8 n.val) value =
      (settingStored 0 (BitVec.ofNat 8 n.val) (max 8 (min 63 value.toNat))
          (decide (value.toNat < 8) || decide (63 < value.toNat)),
        { st with watermark := st.watermark.write n (max 8 (min 63 value.toNat)) }) := by
  have read : st.set 0 (BitVec.ofNat 8 n.val) value =
      setNumber st 0 (BitVec.ofNat 8 n.val) 8 63 value
        fun t v => { t with watermark := t.watermark.write n v } := by
    simp [Settings.set]
  rw [read, setNumber_eq st _ _ (by omega)]

@[simp] theorem eventOperand_ofNat (e : Fin 20) : eventOperand (BitVec.ofNat 8 e.val) = some e := by
  have small := e.isLt
  have number : (BitVec.ofNat 8 e.val).toNat = e.val := Nat.mod_eq_of_lt (by omega)
  simp only [eventOperand, number, small, dif_pos]

/-! ### What a stored setting changes besides (R44, R108, R123) -/

/-- A fold whose operation does something for one member alone does just that. -/
theorem foldl_eq_of_only {α β : Type} {l : List α} (once : l.Nodup) {a : α} (member : a ∈ l)
    {f : β → α → β} (others : ∀ (b : β) (x : α), x ≠ a → f b x = b) (b : β) :
    l.foldl f b = f b a := by
  induction l with
  | nil => cases member
  | cons x l ih =>
    obtain ⟨fresh, once⟩ := List.nodup_cons.mp once
    rw [List.foldl_cons]
    by_cases same : x = a
    · subst same
      exact List.foldlRecOn (motive := (· = f b x)) l f rfl fun _ kept y hy => by
        rw [others _ y (fun e => fresh (e ▸ hy)), kept]
    · rw [others b x same]
      exact ih once ((List.mem_cons.mp member).resolve_left (Ne.symm same))

/-- The holds are judged again where the watermark has changed: at one tributary at most (R44). -/
theorem State.rejudgeHolds_eq {s : State} {old : Settings} (n : Trib)
    (others : ∀ m : Trib, m ≠ n →
      s.mgmt.settings.watermark.read m = old.watermark.read m) :
    s.rejudgeHolds old =
      if s.mgmt.settings.watermark.read n = old.watermark.read n then s
      else s.withIngress (s.ingress.rejudge (s.mgmt.settings.watermark.read n) n) := by
  have folded := foldl_eq_of_only (List.nodup_finRange 8) (List.mem_finRange n)
    (f := fun p m => if s.mgmt.settings.watermark.read m = old.watermark.read m then p
      else p.rejudge (s.mgmt.settings.watermark.read m) m)
    (fun p m other => if_pos (others m other)) s.ingress
  unfold State.rejudgeHolds
  rw [show allEights = List.finRange 8 from rfl, folded]
  split <;> rfl

section Stored

variable {s : State} {name index : Byte} {value : BitVec 16} {r : Reply} {st : Settings}
  (set : s.mgmt.settings.set name index value = (r, st))
include set

/-- A setting that is no watermark leaves the ingress holds alone; a new storm guard has the waiting
holds judged (R108). -/
theorem State.runSetSetting_eq (watermark : st.watermark = s.mgmt.settings.watermark) :
    s.runSetSetting name index value =
      (r, if st.stormGuard = s.mgmt.settings.stormGuard then
          s.withMgmt { s.mgmt with settings := st }
        else (s.withMgmt { s.mgmt with settings := st }).judgeHolds) := by
  have holds : (s.withMgmt { s.mgmt with settings := st }).rejudgeHolds s.mgmt.settings =
      s.withMgmt { s.mgmt with settings := st } := by
    rw [State.rejudgeHolds_eq 0 (fun m _ => by simp [watermark])]
    simp [watermark]
  simp only [State.runSetSetting, set, holds, State.judgeGuard, State.withMgmt_mgmt]

/-- A setting that is neither a watermark nor the storm guard changes nothing besides. -/
theorem State.runSetSetting_quiet (watermark : st.watermark = s.mgmt.settings.watermark)
    (guard : st.stormGuard = s.mgmt.settings.stormGuard) :
    s.runSetSetting name index value = (r, s.withMgmt { s.mgmt with settings := st }) := by
  rw [State.runSetSetting_eq set watermark, if_pos guard]

end Stored

/-- SET-SETTING of a watermark has its tributary's hold judged again (R44, R168). -/
theorem State.runSetSetting_watermark (s : State) (n : Trib) (value : BitVec 16) :
    let w := max 8 (min 63 value.toNat)
    let hold : Bool := if w = s.mgmt.settings.watermark.read n then s.ingress.hold.read n
      else holdRejudged w (s.ingress.fifo.read n).length (s.ingress.hold.read n)
    s.runSetSetting 0 (BitVec.ofNat 8 n.val) value =
      (settingStored 0 (BitVec.ofNat 8 n.val) w
          (decide (value.toNat < 8) || decide (63 < value.toNat)),
        { s with
          mgmt := { s.mgmt with settings := { s.mgmt.settings with
            watermark := s.mgmt.settings.watermark.write n w } }
          ingress := { s.ingress with hold := s.ingress.hold.write n hold } }) := by
  intro w hold
  have others (m : Trib) (other : m ≠ n) : (s.mgmt.settings.watermark.write n w).read m =
      s.mgmt.settings.watermark.read m := Tab.read_write_other _ _ other
  simp only [State.runSetSetting, s.mgmt.settings.set_watermark n value]
  rw [State.rejudgeHolds_eq n others]
  simp only [State.withMgmt_mgmt, Tab.read_write_same]
  by_cases same : w = s.mgmt.settings.watermark.read n
  · rw [if_pos same, show hold = s.ingress.hold.read n from if_pos same, Tab.write_read]
    exact Prod.ext rfl (if_pos rfl)
  · rw [if_neg same, show hold = holdRejudged w _ _ from if_neg same]
    exact Prod.ext rfl (if_pos rfl)

/-! ### Enumerated settings (R168) -/

theorem onOffValue_of_large {value : BitVec 16} (large : 1 < value.toNat) :
    onOffValue value = none := by
  unfold onOffValue
  split
  · omega
  · omega
  · rfl

theorem policyValue_of_large {value : BitVec 16} (large : 1 < value.toNat) :
    policyValue value = none := by
  unfold policyValue
  split
  · omega
  · omega
  · rfl

theorem levelValue_of_large {value : BitVec 16} (large : 1 < value.toNat) :
    levelValue value = none := by
  unfold levelValue
  split
  · omega
  · omega
  · rfl

/-- An enumerated setting with an undefined value is refused with FIELD, naming the value. -/
theorem Settings.set_undefined {name index : Byte} {value : BitVec 16} (large : 1 < value.toNat)
    (enumerated : name = 6 ∨ name = 8 ∨ name = 9 ∨ name = 10 ∨
      (name = 11 ∨ name = 12) ∧ index.toNat < 20) (st : Settings) :
    st.set name index value = (Reply.refusedAt .field [6], st) := by
  rcases enumerated with rfl | rfl | rfl | rfl | ⟨rfl | rfl, inside⟩ <;>
    simp [Settings.set, setChoice, onOffValue_of_large large, policyValue_of_large large,
      levelValue_of_large large, eventOperand, *]

/-- Settles O46: the settings are read and stored by their numbers, and what a changed watermark or
storm guard has judged is judged. -/
theorem setSettingClampsAndStores : Obligations.SetSettingClampsAndStores := by
  intro o tag value s released bar storing
  have passes (name index : Byte) : s.mgmt.refusal o (.setSetting name index value) = none :=
    ManagementUnit.refusal_eq_none rfl (fun far _ => bar far) fun _ => rfl
  have answers {name index i : Byte} {u : State} {clamped : Bool} {stored : Nat}
      (ran : s.runSetSetting name index value = (settingStored name i stored clamped, u)) :
      ∃ t : State, exec (.setSetting o tag name index value) s = .next t ∧
        Answered u t o (clampedRecord tag 12 clamped ([name, i] ++ bytesOf 2 stored)) :=
    exec_answered_ok (c := .setSetting name index value) released rfl (passes name index) ran
      (by simp)
  refine ⟨fun name low high index numeric => ?_, fun n => ?_, fun on index e hv => ⟨?_, ?_⟩, ?_⟩
  · intro v stored
    have unchanged : (s.mgmt.settings.withNumber name v).stormGuard = s.mgmt.settings.stormGuard ↔
        ¬(name = 3 ∧ v ≠ s.mgmt.settings.stormGuard) := by
      rw [Settings.withNumber_stormGuard]
      split <;> simp [*]
    refine answers ((State.runSetSetting_eq (Settings.set_number numeric _ index value)
      (Settings.withNumber_watermark _ _ _)).trans (congrArg (Prod.mk _) ?_))
    rw [if_congr unchanged rfl rfl, ite_not]
    rfl
  · intro w count hold
    obtain ⟨t, ran, answered⟩ := answers (State.runSetSetting_watermark s n value)
    exact ⟨t, _, ran, rfl, answered⟩
  · intro name new kind
    have set : s.mgmt.settings.set name index value =
        (settingStored name 0 value.toNat false, new) := by
      subst hv
      cases on <;> rcases kind with ⟨rfl, rfl⟩ | ⟨rfl, rfl⟩ | ⟨rfl, rfl⟩ | ⟨rfl, rfl⟩ <;> rfl
    obtain ⟨watermark, guard⟩ : new.watermark = s.mgmt.settings.watermark ∧
        new.stormGuard = s.mgmt.settings.stormGuard := by
      rcases kind with ⟨-, rfl⟩ | ⟨-, rfl⟩ | ⟨-, rfl⟩ | ⟨-, rfl⟩ <;> exact ⟨rfl, rfl⟩
    exact answers (State.runSetSetting_quiet set watermark guard)
  · intro name new kind
    have set : s.mgmt.settings.set name (BitVec.ofNat 8 e.val) value =
        (settingStored name (BitVec.ofNat 8 e.val) value.toNat false, new) := by
      subst hv
      cases on <;> rcases kind with ⟨rfl, rfl⟩ | ⟨rfl, rfl⟩ <;> simp [Settings.set] <;> rfl
    obtain ⟨watermark, guard⟩ : new.watermark = s.mgmt.settings.watermark ∧
        new.stormGuard = s.mgmt.settings.stormGuard := by
      rcases kind with ⟨-, rfl⟩ | ⟨-, rfl⟩ <;> exact ⟨rfl, rfl⟩
    exact answers (State.runSetSetting_quiet set watermark guard)
  · intro name index large enumerated
    exact exec_answered_refusal (c := .setSetting name index value) (status := .field) (at_ := 6)
      released rfl (State.runSetSetting_quiet (Settings.set_undefined large enumerated _) rfl rfl)

end Sys2Proof.Machine
end

section
/-! SUPPORT. How a step is put together. `StepLaw` lists the operations that every command is made of,
and a relation between states that each of them meets holds from every state to its successor. A law
of every step then needs one fact for each operation, and none for the ways they are combined. -/

namespace Sys2Proof.Machine

/-- A relation between a state and a later one that every operation of the part meets. -/
structure StepLaw (R : State → State → Prop) : Prop where
  refl : ∀ s, R s s
  trans : ∀ {s t u}, R s t → R t u → R s u
  /-- What stands outside the part, and the model's own notes. -/
  pending : ∀ s l, R s (s.withPending l)
  pins : ∀ s p, R s (s.withPins p)
  occasion : ∀ s, R s s.nextOccasion
  owed : ∀ s l, R s (s.withOwed l)
  powerOn : ∀ (s : State) r role p o l, R s (State.powerOn r role p s.egress.ready o l)
  /-- The Link Clock moves, and the Skew Unit follows. -/
  clock : ∀ (s : State) c, c.source = s.clock.source → c.radioOffset = s.clock.radioOffset →
    R s (s.withClock c)
  followMove : ∀ s n held, R s (s.withSkew (s.skew.followMove n held))
  timeStep : ∀ s old new, R s (s.raise .timeStep (.step old new))
  /-- The ports. -/
  ingressArrival : ∀ s n cell, R s (s.ingressArrival n cell)
  egressTake : ∀ s n, R s (s.withEgress (s.egress.take n))
  egressReady : ∀ s n ready, R s (s.withEgress (s.egress.setReady n ready))
  portTake : ∀ s, R s (s.withMgmt s.mgmt.take)
  /-- The Management Unit. -/
  run : ∀ s c, R s (s.run c).2
  answer : ∀ s o tag number reply, R s (s.answer o tag number reply)
  malformedCell : ∀ s, R s s.malformedCell
  placePort : ∀ s kind cell, R s (s.placePort kind cell)
  sendOn : ∀ s cell queue, joinQueue s.mgmt.flow0Queue cell = some queue →
    R s (s.withMgmt { s.mgmt with flow0Queue := queue })
  /-- The Merge Unit and what it hands on. -/
  mergeArrival : ∀ s f a, R s (s.mergeArrival f a).1
  mergeExpiry : ∀ s f, R s (s.mergeExpiry f).1
  handOver : ∀ s n f run, R s (s.handOver n f run)
  tallyDelivery : ∀ s d, R s (s.tallyDelivery d)
  /-- The superframe start and the entry of a slot. -/
  takeShare : ∀ s o, R s (s.takeShare o)
  superframeStart : ∀ s n counted, R s (s.superframeStart n counted)
  swapAtStep : ∀ s old new, R s (s.swapAtStep old new)
  sampleStrikes : ∀ s, R s s.sampleStrikes
  judgeHolds : ∀ s, R s s.judgeHolds
  sendSlot : ∀ s, R s s.sendSlot
  /-- The receivers and what takes their markers. -/
  examine : ∀ s b position header, R s (s.withRx b ((s.rx b).examine position header))
  confirmCell : ∀ s b cell, R s (s.withRx b ((s.rx b).confirmCell cell))
  endBadRun : ∀ s b, R s (s.withRx b (s.rx b).endBadRun)
  badHeader : ∀ s b, R s (s.badHeader b)
  receiverMarker : ∀ s b m, R s (s.receiverMarker b m)
  skewMarker : ∀ s b t stamp, R s (s.skewMarker b t stamp)
  farReport : ∀ s timed, R s (s.farReport timed)

namespace StepLaw

variable {R : State → State → Prop} (law : StepLaw R)
include law

/-- A fold of operations that meet the relation meets it. -/
theorem foldl {α : Type} {f : State → α → State} (each : ∀ s a, R s (f s a)) (l : List α)
    (s : State) : R s (l.foldl f s) := by
  induction l generalizing s with
  | nil => exact law.refl s
  | cons a l ih => exact law.trans (each s a) (ih (f s a))

/-! ### Commands and deliveries (R127, R156, R160, R161) -/

theorem carryOut (s : State) (o : Origin) (tag : Byte) (c : Command) :
    R s (s.carryOut o tag c) := by
  unfold State.carryOut
  split
  · exact law.answer ..
  · exact law.trans (law.run s c) (law.answer ..)

theorem carryOutRecord (s : State) (o : Origin) (record : List Byte) :
    R s (s.carryOutRecord o record) := by
  unfold State.carryOutRecord
  split
  · exact law.answer ..
  · exact law.answer ..
  · exact law.carryOut ..

theorem forwardCommand (s : State) (cell : CellData) : R s (s.forwardCommand cell) := by
  unfold State.forwardCommand
  dsimp only
  split
  · exact law.answer ..
  · split
    · exact law.answer ..
    · next queue joins => exact law.sendOn s cell queue joins

theorem portCell (s : State) (cell : CellData) : R s (s.portCell cell) := by
  unfold State.portCell
  split
  · exact law.malformedCell s
  · split
    · split
      · exact law.malformedCell s
      · split
        · exact law.carryOutRecord ..
        · exact law.forwardCommand ..
        · exact law.answer ..
    all_goals exact law.malformedCell s

theorem flow0Cell (s : State) (cell : CellData) : R s (s.flow0Cell cell) := by
  unfold State.flow0Cell
  split
  · split
    · exact law.malformedCell s
    · exact law.carryOutRecord ..
  · exact law.placePort ..
  · exact law.placePort ..
  · exact law.malformedCell s

theorem flow0Delivery (s : State) (d : Delivery) : R s (s.flow0Delivery d) := by
  cases d with
  | fill => exact law.refl s
  | cell data => exact law.flow0Cell s data

theorem deliver (s : State) (f : Flow) (run : List Delivery) : R s (s.deliver f run) := by
  unfold State.deliver
  split
  · exact law.refl s
  · split
    · exact law.handOver ..
    · exact law.foldl law.tallyDelivery run s
    · exact law.foldl law.flow0Delivery run s

theorem takeArrival (s : State) (f : Flow) (a : Arrival) : R s (s.takeArrival f a) :=
  law.trans (law.mergeArrival s f a) (law.deliver ..)

theorem takeExpiry (s : State) (f : Flow) : R s (s.takeExpiry f) := by
  unfold State.takeExpiry
  split
  · exact law.trans (law.mergeExpiry s f) (law.deliver ..)
  · exact law.refl s

/-! ### Link time (R2, R5, R13, R15, R70) -/

theorem takeOwed (s : State) : R s s.takeOwed :=
  law.trans (law.owed s []) (law.foldl law.takeShare s.owed _)

theorem takeOwedOf (s : State) (p : OwedStart → Bool) : R s (s.takeOwedOf p) := by
  unfold State.takeOwedOf
  split
  · exact law.refl s
  · next o rest _ => exact law.trans (law.owed s rest) (law.takeShare ..)

theorem settle (s : State) : R s s.settle :=
  law.trans (law.takeOwed s) (law.foldl law.takeExpiry settleOrder _)

theorem enterSlot (s : State) (start : Option Superframe) : R s (s.enterSlot start) := by
  have judged {u : State} (h : R s u) : R s u.judgeHolds.sendSlot :=
    law.trans (law.trans h (law.judgeHolds u)) (law.sendSlot _)
  unfold State.enterSlot
  split
  · exact judged (law.sampleStrikes s)
  · split
    · exact judged (law.trans (law.sampleStrikes s) (law.superframeStart ..))
    · exact judged (law.trans (law.superframeStart ..) (law.sampleStrikes _))

/-- Link time stands at `t`, and the slot there is entered. -/
theorem enterSlotAt (s : State) (t : LinkTime) (start : Option Superframe) :
    R s ((s.setTime t).enterSlot start) :=
  law.trans (law.clock s { s.clock with time := t } rfl rfl) (law.enterSlot (s.setTime t) start)

/-- The part settles before link time moves, and has then the levels on the pins. -/
theorem settlePins (s : State) (pins : Pins) : R s (s.settle.withPins pins) :=
  law.trans (law.settle s) (law.pins ..)

theorem advanceSlot (s : State) (pins : Pins) : R s (s.advanceSlot pins) :=
  law.trans (law.settlePins s pins) (law.trans (law.occasion _) (law.enterSlotAt ..))

theorem takeFarAbsence (s : State) : R s s.takeFarAbsence := by
  unfold State.takeFarAbsence
  split
  · exact law.advanceSlot ..
  · exact law.refl s

theorem takeRefEdge (s : State) (pins : Pins) : R s (s.takeRefEdge pins) := by
  unfold State.takeRefEdge
  split
  · exact law.refl s
  · split
    · exact law.refl s
    · exact law.trans (law.settlePins s pins) (law.trans (law.occasion _)
        (law.trans (law.followMove _ _ none) (law.enterSlotAt ..)))

theorem moveTime (s : State) (n : Int) (pins : Pins) (held : Option (Bearer × LinkTime)) :
    R s (s.moveTime n pins held) := by
  unfold State.moveTime
  split
  · exact law.refl s
  · exact law.trans (law.settlePins s pins)
      (law.trans (law.followMove _ n held) (law.enterSlotAt ..))

theorem stepTime (s : State) (a p : LinkTime) (pins : Pins) (held : Option (Bearer × LinkTime)) :
    R s (s.stepTime a p pins held) := by
  have landed (u : State) :
      R u (((u.raise .timeStep (.step a.sf p.sf)).swapAtStep a.sf p.sf).enterSlot none) :=
    law.trans (law.timeStep u a.sf p.sf) (law.trans (law.swapAtStep ..) (law.enterSlot ..))
  have stood (u : State) :
      R u (u.withClock { u.clock with time := p, lastStarted := p.sf, disagreements := 0 }) :=
    law.clock u { u.clock with time := p, lastStarted := p.sf, disagreements := 0 } rfl rfl
  exact law.trans (law.settlePins s pins)
    (law.trans (law.followMove _ (difference p a) held) (law.trans (stood _) (landed _)))

/-! ### Markers and received cells (R79, R83, R89) -/

theorem judgeMarker (s : State) (b : Bearer) (t : Superframe) (a : LinkTime) (pins : Pins)
    (held : Option (Bearer × LinkTime)) : R s (s.judgeMarker b t a pins held) := by
  have moved (count : Nat) (n : Int) :
      R s ((s.withClock { s.clock with disagreements := count }).moveTime n pins held) :=
    law.trans (law.clock s { s.clock with disagreements := count } rfl rfl) (law.moveTime _ n pins held)
  unfold State.judgeMarker
  dsimp only
  split
  · exact moved 0 _
  · split
    · exact law.stepTime ..
    · exact moved _ _

theorem skewIf (s : State) (now : Bool) (b : Bearer) (t : Superframe) (a : LinkTime) :
    R s (s.skewIf now b t a) := by
  cases now with
  | false => exact law.refl s
  | true => exact law.skewMarker ..

theorem reportIf (s : State) (now timed : Bool) : R s (s.reportIf now timed) := by
  cases now with
  | false => exact law.refl s
  | true => exact law.farReport ..

theorem handOnMarker (s : State) (b : Bearer) (m : MarkerRecord) (pins : Pins) :
    R s (s.handOnMarker b m pins) := by
  have both (u : State) (skew report : Bool) :
      R u ((u.skewIf skew b m.sf m.stamp).reportIf report m.farFibreTimed) :=
    law.trans (law.skewIf ..) (law.reportIf ..)
  unfold State.handOnMarker
  dsimp only
  split
  · exact law.trans (both s _ _) (law.trans (law.judgeMarker ..) (both _ _ _))
  · exact both s true true

theorem acceptedCell (s : State) (b : Bearer) (content : HeaderContent) (cell : List Byte)
    (pins : Pins) : R s (s.acceptedCell b content cell pins) := by
  cases content with
  | idle => exact law.refl s
  | data flow sequence len => exact law.takeArrival ..
  | marker sf fibreTimed radioTimed grade =>
    exact law.trans (law.receiverMarker ..) (law.handOnMarker ..)

theorem alignedCell (s : State) (b : Bearer) (cell : List Byte) (pins : Pins) :
    R s (s.alignedCell b cell pins) := by
  unfold State.alignedCell
  split
  · exact law.badHeader ..
  · exact law.trans (law.endBadRun s b) (law.acceptedCell ..)

theorem takeCell (s : State) (b : Bearer) (cell : List Byte) (pins : Pins) :
    R s (s.takeCell b cell pins) := by
  have aligned : R s (s.nextOccasion.alignedCell b cell pins) :=
    law.trans (law.occasion s) (law.alignedCell ..)
  unfold State.takeCell
  split
  · exact law.refl s
  · exact law.confirmCell ..
  · exact aligned
  · exact aligned

/-! ### Every command and every step -/

theorem released (s : State) (role : Role) (pins : Pins) : R s (s.released role pins) :=
  law.trans (law.powerOn s ..) (law.trans (law.superframeStart ..) (law.sendSlot _))

/-- An event that is taken only while RESET is released. -/
theorem whenReleased {s u t : State} (h : whenReleased s u = .next t) (taken : R s u) : R s t := by
  unfold Machine.whenReleased at h
  split at h
  · cases h; exact law.refl s
  · cases h; exact taken

theorem exec {i : Instr} {s t : State} (h : exec i s = .next t) : R s t := by
  cases i with
  | resetAssert => cases h; exact law.powerOn s ..
  | resetRelease role pins =>
    simp only [Machine.exec, execResetRelease] at h
    split at h
    · rw [← Host.Outcome.next.inj h]; exact law.released s role pins
    · cases h; exact law.refl s
  | egressReadyChange trib ready => cases h; exact law.egressReady ..
  | slotEntry pins => exact law.whenReleased h (law.advanceSlot ..)
  | refEdge pins => exact law.whenReleased h (law.takeRefEdge ..)
  | farMarkerAbsence => exact law.whenReleased h (law.takeFarAbsence s)
  | markerAbsenceExpiry | stormEnd | tallyLoss => exact law.whenReleased h (law.takeOwedOf ..)
  | tributaryCellArrival trib payload len => exact law.whenReleased h (law.ingressArrival ..)
  | egressTake trib => exact law.whenReleased h (law.egressTake ..)
  | mgmtPortTake => exact law.whenReleased h (law.portTake s)
  | mgmtPortCell payload len => exact law.whenReleased h (law.portCell ..)
  | huntCandidateFound bearer position header => exact law.whenReleased h (law.examine ..)
  | receivedCell bearer cell pins => exact law.whenReleased h (law.takeCell ..)
  | holdExpiry flow => exact law.whenReleased h (law.takeExpiry ..)
  | identify | readEntry | writeEntry | clearEntry | copyEntries | checkShadow | swapAt | cancelSwap
  | readFlowCounts | readBearer | readLink | setSetting | readSettings | setWindow | freezeWindow
  | setBar | clearBar | setTallySource | setTallyOverride | clearTallyOverride | readEvents
  | ackEvents | flushTributary | resetDatapath => exact law.whenReleased h (law.carryOut ..)

theorem step {s t : State} (h : step s = .next t) : R s t := by
  unfold Machine.step at h
  split at h
  · cases h; exact law.refl s
  · next c rest _ => exact law.trans (law.pending s rest) (law.exec h)

end StepLaw

end Sys2Proof.Machine
end

section
/-! SUPPORT. The Radio Plan (R64 to R75): what the plan is computed from and what leaves it as it is,
what a superframe start does to the Radio Planner, the candidates and their order, first fit, the
GRADE samples and the far reports; and the proof that every step keeps the plan fresh. -/

namespace Sys2Proof.Machine

/-! ### A plan that is the one of its inputs (R71) -/

/-- The plan is the one of its inputs exactly when the five things that a computation sets are what it
would set, and it reads the grade in effect and the far fibre status alone (R71, R72). -/
theorem RadioPlanner.compute_eq_self_iff (p : RadioPlanner) (entries : Tab 64 Entry) :
    p.compute entries = p ↔
      let fit := firstFit (usableSlots p.grade) (radioDemand entries) (candidates entries p.farFibre)
      (userFlows.filter fun f => fit.1.contains f) = p.plan ∧ radioDemand entries = p.fixedDemand ∧
      fit.2 = p.plannedDemand ∧ usableSlots p.grade = p.usable ∧
      decide (usableSlots p.grade < radioDemand entries) = p.overcommit := by
  obtain ⟨grade, awaiting, downRun, upRun, upLeast, farFibre, opposingRun, markerAbsence, plan,
    fixedDemand, plannedDemand, usable, overcommit⟩ := p
  simp [RadioPlanner.compute]

/-- A change of the runs, of the absence and of the awaiting grade leaves a fresh plan fresh. -/
theorem RadioPlanner.fresh_of_inputs {p q : RadioPlanner} {entries : Tab 64 Entry}
    (same : q = { p with
      awaiting := q.awaiting, downRun := q.downRun, upRun := q.upRun, upLeast := q.upLeast
      opposingRun := q.opposingRun, markerAbsence := q.markerAbsence })
    (fresh : p.compute entries = p) : q.compute entries = q := by
  rw [same, RadioPlanner.compute_eq_self_iff]
  exact (p.compute_eq_self_iff entries).mp fresh

/-! ### The Radio Planner at a superframe start (R65, R67, R70, R71) -/

/-- A GRADE sample moves the runs and may set a grade awaiting, and nothing else. -/
theorem RadioPlanner.takeSample_frame (p : RadioPlanner) (down up : Nat) (storm : Bool) (g : Grade) :
    ∃ (awaiting : Option Grade) (downRun upRun : Nat) (upLeast : Option Grade),
      p.takeSample down up storm g = { p with awaiting, downRun, upRun, upLeast } := by
  unfold RadioPlanner.takeSample RadioPlanner.sampleBelow RadioPlanner.sampleAbove
    RadioPlanner.clearRuns
  (repeat' split) <;> exact ⟨_, _, _, _, rfl⟩

theorem RadioPlanner.takeSample_fresh {p : RadioPlanner} {entries : Tab 64 Entry}
    (fresh : p.compute entries = p) (down up : Nat) (storm : Bool) (g : Grade) :
    (p.takeSample down up storm g).compute entries = p.takeSample down up storm g := by
  obtain ⟨_, _, _, _, sampled⟩ := p.takeSample_frame down up storm g
  rw [sampled]
  exact RadioPlanner.fresh_of_inputs rfl fresh

/-- An increase of the marker absence that calls for no computation leaves the status as it was
(R70). -/
theorem RadioPlanner.countAbsence_frame (p : RadioPlanner) (quiet : p.countAbsence.2 = false) :
    p.countAbsence.1 = { p with
      opposingRun := p.countAbsence.1.opposingRun
      markerAbsence := p.countAbsence.1.markerAbsence } := by
  have reaches (h : p.farFibre ≠ .lost) : FarFibre.present = p.farFibre := by
    cases far : p.farFibre with
    | present => rfl
    | lost => exact absurd far h
  unfold RadioPlanner.countAbsence at quiet ⊢
  dsimp only at quiet ⊢
  split
  · next third =>
    rw [if_pos third] at quiet
    rw [reaches (by simpa using quiet)]
  · rfl

/-- The grade that a superframe start puts in effect (R67). -/
theorem State.gradeTakesEffect_planner (s : State) :
    s.gradeTakesEffect.1.planner =
      { s.planner with grade := s.planner.awaiting.getD s.planner.grade, awaiting := none } := by
  unfold State.gradeTakesEffect
  split
  · next idle =>
    rw [idle, Option.getD_none, ← idle]
  · next g waits => simp [waits]

theorem State.gradeTakesEffect_due (s : State) :
    s.gradeTakesEffect.2 = s.planner.awaiting.isSome := by
  unfold State.gradeTakesEffect
  split <;> next h => simp [h]

theorem State.swapAtStart_due (s : State) (n : Superframe) :
    (s.swapAtStart n).2 = decide (s.table.pendingSwap = some n) := by
  unfold State.swapAtStart
  split
  · next x pending => by_cases h : x = n <;> simp [h, pending]
  · next idle => simp [idle]

/-- The bank that governs a superframe is active once its start has begun (R34). -/
theorem State.planAtStart_activeBank (s : State) (n : Superframe) :
    (s.planAtStart n).table.activeBank = s.bankAt n := by
  rw [State.planAtStart_table, State.bankAt]
  split <;> simp

/-- The one computation at a superframe start has every reason behind it (R67, R70, R71). -/
theorem State.planAtStart_planner (s : State) (n : Superframe) :
    (s.planAtStart n).planner = s.plannerAt n := by
  have bank : (s.absenceAtStart.1.swapAtStart n).1.gradeTakesEffect.1.table.activeBank =
      s.bankAt n := by
    rw [← State.planAtStart_activeBank]; simp [State.planAtStart]
  have due : (s.absenceAtStart.2 || (s.absenceAtStart.1.swapAtStart n).2 ||
      (s.absenceAtStart.1.swapAtStart n).1.gradeTakesEffect.2) = true ↔
        s.planner.countAbsence.2 = true ∨ s.table.pendingSwap = some n ∨
          s.planner.awaiting.isSome = true := by
    rw [State.swapAtStart_due, State.gradeTakesEffect_due, State.swapAtStart_planner,
      Bool.or_eq_true, Bool.or_eq_true, decide_eq_true_iff, or_assoc]
    simp [State.absenceAtStart, s.planner.countAbsence_kept]
  have grade : (s.absenceAtStart.1.swapAtStart n).1.gradeTakesEffect.1.planner =
      { s.planner.countAbsence.1 with
        grade := s.planner.awaiting.getD s.planner.grade, awaiting := none } := by
    rw [State.gradeTakesEffect_planner, State.swapAtStart_planner]
    simp [State.absenceAtStart, s.planner.countAbsence_kept]
  unfold State.planAtStart State.plannerAt State.recomputeIf
  dsimp only
  rw [← if_congr due rfl rfl]
  split
  · rw [State.recomputePlan_planner, grade, bank]
  · exact grade

theorem State.plannerAt_fresh (s : State) (n : Superframe) (fresh : s.planFresh) :
    (s.plannerAt n).compute (s.bankAt n) = s.plannerAt n := by
  unfold State.plannerAt
  dsimp only
  split
  · rfl
  · next quiet =>
    obtain ⟨absence, swap, grade⟩ : s.planner.countAbsence.2 = false ∧
        s.table.pendingSwap ≠ some n ∧ s.planner.awaiting = none := by
      simpa only [not_or, Bool.not_eq_true, Option.isSome_eq_false_iff, Option.isNone_iff_eq_none]
        using quiet
    rw [State.bankAt, if_neg swap]
    refine RadioPlanner.fresh_of_inputs (p := s.planner) ?_ fresh
    rw [s.planner.countAbsence_frame absence, grade]
    rfl

theorem State.planAtStart_planFresh (s : State) (n : Superframe) (fresh : s.planFresh) :
    (s.planAtStart n).planFresh := by
  unfold State.planFresh
  rw [State.planAtStart_planner, State.planAtStart_activeBank]
  exact s.plannerAt_fresh n fresh

/-! ### Operations that keep the plan fresh (R71) -/

/-- From `s` to `t` a plan that is the one of its inputs stays so. -/
def State.KeepsPlan (s t : State) : Prop := s.planFresh → t.planFresh

/-- An operation that leaves the Radio Planner and the active bank alone keeps the plan. -/
theorem State.KeepsPlan.of_bank {s t : State} (planner : t.planner = s.planner)
    (bank : t.table.activeBank = s.table.activeBank) : s.KeepsPlan t := by
  unfold State.KeepsPlan State.planFresh
  rw [planner, bank]
  exact id

/-- An operation that leaves the Radio Planner and the tables alone keeps the plan. -/
theorem State.KeepsPlan.of_frame {s t : State} (planner : t.planner = s.planner)
    (table : t.table = s.table) : s.KeepsPlan t :=
  .of_bank planner (by rw [table])

/-- A computation of the plan makes it fresh. -/
theorem State.recomputePlan_planFresh (s : State) : s.recomputePlan.planFresh := by
  unfold State.planFresh
  rw [State.recomputePlan_planner, State.recomputePlan_table]
  exact RadioPlanner.compute_compute ..

theorem State.farReport_keepsPlan (s : State) (timed : Bool) : s.KeepsPlan (s.farReport timed) := by
  intro fresh
  obtain ⟨-, report⟩ | ⟨-, -, report⟩ | ⟨-, -, report⟩ := s.farReport_cases timed
  · rw [report]; exact RadioPlanner.fresh_of_inputs (p := s.planner) rfl fresh
  · rw [report]; exact State.recomputePlan_planFresh _
  · rw [report]; exact RadioPlanner.fresh_of_inputs (p := s.planner) rfl fresh

theorem State.swapAtStep_keepsPlan (s : State) (old new : Superframe) :
    s.KeepsPlan (s.swapAtStep old new) := by
  unfold State.swapAtStep
  split
  · split
    · exact fun _ => State.recomputePlan_planFresh _
    · exact id
  · exact id

/-- The GRADE sample is taken once the plan is computed and the timers are counted (R65, R139). -/
theorem State.sharesAtStart_planner (s : State) (n : Superframe) :
    (s.sharesAtStart n).planner = (s.plannerAt n).takeSample s.mgmt.settings.gradeDown
      s.mgmt.settings.gradeUp ((s.planAtStart n).timersAtStart n).strike.storm s.pins.grade := by
  simp [State.sharesAtStart, State.sampleGrade, State.planAtStart_planner]

theorem State.sharesAtStart_activeBank (s : State) (n : Superframe) :
    (s.sharesAtStart n).table.activeBank = s.bankAt n := by
  rw [← State.planAtStart_activeBank]
  simp [State.sharesAtStart]

theorem State.superframeStart_keepsPlan (s : State) (n : Superframe) (counted : Bool) :
    s.KeepsPlan (s.superframeStart n counted) := by
  intro fresh
  have begun : (s.collectingStart n).planFresh :=
    State.KeepsPlan.of_frame (s := s) (by simp [State.collectingStart])
      (by simp [State.collectingStart]) fresh
  have shares : ((s.collectingStart n).sharesAtStart n).planFresh := by
    unfold State.planFresh
    rw [State.sharesAtStart_planner, State.sharesAtStart_activeBank]
    exact RadioPlanner.takeSample_fresh ((s.collectingStart n).plannerAt_fresh n begun) ..
  obtain ⟨-, table, -, planner, -⟩ := s.superframeStart_shares n counted
  exact State.KeepsPlan.of_frame planner table shares

theorem State.datapathReset_keepsPlan (s : State) : s.KeepsPlan s.datapathReset :=
  fun _ => State.recomputePlan_planFresh _

theorem State.run_keepsPlan (s : State) (c : Command) : s.KeepsPlan (s.run c).2 := by
  cases c with
  | writeEntry bank flow fields =>
    exact .of_bank rfl (s.table.writeEntry_edits bank flow fields).activeBank
  | clearEntry bank flow => exact .of_bank rfl (s.table.clearEntry_edits bank flow).activeBank
  | copyEntries source destination first count =>
    exact .of_bank rfl (s.table.copyEntries_edits source destination first count).activeBank
  | swapAt target => exact .of_bank rfl (TableControl.swapAt_activeBank ..)
  | cancelSwap => exact .of_bank rfl (by rw [State.run, State.runCancelSwap]; simp [State.keepTable, TableControl.cancelSwap_eq]; rfl)
  | readFlowCounts flow clear =>
    rw [State.run, State.runReadFlowCounts]
    split <;> exact .of_frame rfl rfl
  | readBearer bearer clear =>
    rw [State.run, State.runReadBearer]
    split <;> exact .of_frame (by simp) (by simp)
  | setSetting name index value =>
    exact .of_frame (by simp [State.run, State.runSetSetting, State.rejudgeHolds])
      (by simp [State.run, State.runSetSetting, State.rejudgeHolds])
  | setTally object mask lamps =>
    rw [State.run, State.runSetTally]
    split
    · exact .of_frame rfl rfl
    · rw [State.runSetTallyOverride]; split <;> exact .of_frame rfl rfl
    · exact .of_frame rfl rfl
  | ackEvents events =>
    rw [State.run, State.runAckEvents]
    split <;> exact .of_frame rfl rfl
  | flushTributary trib =>
    rw [State.run, State.runFlushTributary]
    split <;> exact .of_frame rfl rfl
  | resetDatapath => exact s.datapathReset_keepsPlan
  | identify | readEntry | checkShadow | readLink | readSettings | setWindow | freezeWindow | setBar
  | clearBar | clearTallyOverride | readEvents => exact .of_frame rfl rfl

/-- The power-on plan is the one of its inputs: at grade 0 with no entry there is nothing to place
(R64). -/
theorem State.powerOn_planFresh (inReset : Bool) (role : Role) (pins : Pins) (ready : Tab 8 Bool)
    (occasion : Nat) (pending : List Instr) :
    (State.powerOn inReset role pins ready occasion pending).planFresh := by
  show RadioPlanner.powerOn.compute powerOnBank = RadioPlanner.powerOn
  decide +kernel

/-- Every operation keeps the plan fresh. -/
theorem stepLaw_keepsPlan : StepLaw State.KeepsPlan where
  refl _ := id
  trans h h' := h' ∘ h
  pending _ _ := .of_frame rfl rfl
  pins _ _ := .of_frame rfl rfl
  occasion _ := .of_frame rfl rfl
  owed _ _ := .of_frame rfl rfl
  powerOn _ _ _ _ _ _ _ := State.powerOn_planFresh ..
  clock _ _ _ _ := .of_frame rfl rfl
  followMove _ _ _ := .of_frame rfl rfl
  timeStep _ _ _ := .of_frame rfl rfl
  ingressArrival _ _ _ := .of_frame (by simp) (by simp)
  egressTake _ _ := .of_frame rfl rfl
  egressReady _ _ _ := .of_frame rfl rfl
  portTake _ := .of_frame rfl rfl
  run := State.run_keepsPlan
  answer _ _ _ _ _ := .of_frame (by simp) (by simp)
  malformedCell _ := .of_frame rfl rfl
  placePort _ _ _ := .of_frame (by simp) (by simp)
  sendOn _ _ _ _ := .of_frame rfl rfl
  mergeArrival _ _ _ := .of_frame (by simp) (by simp)
  mergeExpiry _ _ := .of_frame (by simp) (by simp)
  handOver _ _ _ _ := .of_frame (by simp) (by simp)
  tallyDelivery _ d := by cases d <;> exact .of_frame rfl rfl
  takeShare _ _ := .of_frame (by simp) (by simp)
  superframeStart := State.superframeStart_keepsPlan
  swapAtStep := State.swapAtStep_keepsPlan
  sampleStrikes _ := .of_frame (by simp) (by simp)
  judgeHolds _ := .of_frame rfl rfl
  sendSlot _ := .of_frame (by simp) (by simp)
  examine _ _ _ _ := .of_frame (by simp) (by simp)
  confirmCell _ _ _ := .of_frame (by simp) (by simp)
  endBadRun _ _ := .of_frame (by simp) (by simp)
  badHeader _ _ := by
    unfold State.badHeader
    dsimp only
    split <;> exact .of_frame (by simp) (by simp)
  receiverMarker _ _ _ := .of_frame (by simp) (by simp)
  skewMarker _ _ _ _ := .of_frame (by simp) (by simp)
  farReport := State.farReport_keepsPlan

end Sys2Proof.Machine
end

section
/-! SUPPORT. The candidates of the Radio Plan and their order (R73), first fit (R74), and what a
computation of the plan, a GRADE sample and a far report give (R65, R66, R69, R72, R75); and the proof
about the Radio Plan that is assembled from them. -/

namespace Sys2Proof.Machine

/-! ### The candidates (R73) -/

/-- The order of the candidates: ascending rank, and within a rank ascending flow number (R73). -/
def candidateBefore (a b : Flow × EntryFields) : Prop :=
  a.2.rank < b.2.rank ∨ (a.2.rank = b.2.rank ∧ a.1 < b.1)

theorem candidateBefore.rank_le {a b : Flow × EntryFields} (h : candidateBefore a b) :
    a.2.rank ≤ b.2.rank := by
  unfold candidateBefore at h; omega

theorem insertByRank_perm (c : Flow × EntryFields) (l : List (Flow × EntryFields)) :
    (insertByRank c l).Perm (c :: l) := by
  induction l with
  | nil => exact .refl _
  | cons d l ih =>
    unfold insertByRank
    split
    · exact .refl _
    · exact (ih.cons d).trans (.swap c d l)

/-- A candidate of a higher flow number than any before it keeps the order. -/
theorem insertByRank_ordered {c : Flow × EntryFields} {l : List (Flow × EntryFields)}
    (ordered : l.Pairwise candidateBefore) (last : ∀ d ∈ l, d.1 < c.1) :
    (insertByRank c l).Pairwise candidateBefore := by
  induction l with
  | nil => exact List.pairwise_singleton ..
  | cons d l ih =>
    obtain ⟨first, rest⟩ := List.pairwise_cons.mp ordered
    unfold insertByRank
    split
    · next lower =>
      refine List.pairwise_cons.mpr ⟨fun e he => ?_, ordered⟩
      rcases List.mem_cons.mp he with rfl | he
      · exact .inl lower
      · exact .inl (Nat.lt_of_lt_of_le lower (first e he).rank_le)
    · next higher =>
      refine List.pairwise_cons.mpr
        ⟨fun e he => ?_, ih rest fun e he => last e (List.mem_cons_of_mem d he)⟩
      rcases List.mem_cons.mp ((insertByRank_perm c l).mem_iff.mp he) with rfl | he
      · rcases Nat.lt_or_eq_of_le (Nat.not_lt.mp higher) with below | same
        · exact .inl below
        · exact .inr ⟨same, last d List.mem_cons_self⟩
      · exact first e he

/-- What joins the candidates for one flow. -/
def addCandidate (entries : Tab 64 Entry) (far : FarFibre) (acc : List (Flow × EntryFields))
    (f : Flow) : List (Flow × EntryFields) :=
  match (entries.read f).candidate far with
  | some x => insertByRank (f, x) acc
  | none => acc

theorem candidates_eq_foldl (entries : Tab 64 Entry) (far : FarFibre) :
    candidates entries far = userFlows.foldl (addCandidate entries far) [] := rfl

theorem mem_addCandidate (entries : Tab 64 Entry) (far : FarFibre)
    (acc : List (Flow × EntryFields)) (f : Flow) (c : Flow × EntryFields) :
    c ∈ addCandidate entries far acc f ↔
      c ∈ acc ∨ c.1 = f ∧ (entries.read f).candidate far = some c.2 := by
  unfold addCandidate
  split
  · next x found =>
    rw [(insertByRank_perm _ _).mem_iff, List.mem_cons, or_comm, found]
    simp [Prod.ext_iff, eq_comm]
  · next missing => simp [missing]

theorem addCandidate_ordered (entries : Tab 64 Entry) (far : FarFibre)
    {acc : List (Flow × EntryFields)} {f : Flow} (ordered : acc.Pairwise candidateBefore)
    (last : ∀ d ∈ acc, d.1 < f) : (addCandidate entries far acc f).Pairwise candidateBefore := by
  unfold addCandidate
  split
  · exact insertByRank_ordered ordered last
  · exact ordered

theorem mem_foldl_addCandidate (entries : Tab 64 Entry) (far : FarFibre) (fs : List Flow)
    (acc : List (Flow × EntryFields)) (c : Flow × EntryFields) :
    c ∈ fs.foldl (addCandidate entries far) acc ↔
      c ∈ acc ∨ c.1 ∈ fs ∧ (entries.read c.1).candidate far = some c.2 := by
  induction fs generalizing acc with
  | nil => simp
  | cons f fs ih =>
    rw [List.foldl_cons, ih, mem_addCandidate, List.mem_cons, or_assoc, or_and_right]
    refine or_congr_right (or_congr_left (and_congr_right fun same => ?_))
    rw [same]

/-- Flows taken in ascending number give the candidates in order. -/
theorem foldl_addCandidate_ordered (entries : Tab 64 Entry) (far : FarFibre) {fs : List Flow}
    (ascending : fs.Pairwise (· < ·)) {acc : List (Flow × EntryFields)}
    (ordered : acc.Pairwise candidateBefore) (last : ∀ d ∈ acc, ∀ f ∈ fs, d.1 < f) :
    (fs.foldl (addCandidate entries far) acc).Pairwise candidateBefore := by
  induction fs generalizing acc with
  | nil => exact ordered
  | cons f fs ih =>
    obtain ⟨first, rest⟩ := List.pairwise_cons.mp ascending
    refine ih rest (addCandidate_ordered entries far ordered fun d hd => last d hd f List.mem_cons_self)
      fun d hd g hg => ?_
    rcases (mem_addCandidate entries far acc f d).mp hd with hd | ⟨same, -⟩
    · exact last d hd g (List.mem_cons_of_mem f hg)
    · exact same ▸ first g hg

theorem userFlows_ascending : userFlows.Pairwise (· < ·) :=
  (List.pairwise_lt_finRange 64).filter _

/-- A candidate is an OUTBOUND entry of a protection that the far fibre status lets stand on the radio
(R73). -/
theorem Entry.candidate_eq_some_iff (e : Entry) (far : FarFibre) (x : EntryFields) :
    e.candidate far = some x ↔ e = .used .outbound x ∧
      (x.protection = .bothShed ∨ x.protection = .fibreSwitch ∧ far = .lost) := by
  cases e with
  | unused => simp [Entry.candidate, Entry.outbound]
  | used d y =>
    cases d with
    | outbound =>
      simp only [Entry.candidate, Entry.outbound, Option.ite_none_right_eq_some, Option.some.injEq,
        Entry.used.injEq, true_and]
      exact ⟨fun ⟨h, same⟩ => ⟨same, same ▸ h⟩, fun ⟨same, h⟩ => ⟨same ▸ h, same⟩⟩
    | inbound | bothWays => simp [Entry.candidate, Entry.outbound]

theorem mem_candidates (entries : Tab 64 Entry) (far : FarFibre) (f : Flow) (x : EntryFields) :
    (f, x) ∈ candidates entries far ↔ f ≠ 0 ∧ entries.read f = .used .outbound x ∧
      (x.protection = .bothShed ∨ x.protection = .fibreSwitch ∧ far = .lost) := by
  rw [candidates_eq_foldl, mem_foldl_addCandidate, Entry.candidate_eq_some_iff]
  simp

theorem candidates_ordered (entries : Tab 64 Entry) (far : FarFibre) :
    (candidates entries far).Pairwise candidateBefore :=
  foldl_addCandidate_ordered entries far userFlows_ascending .nil (by simp)

/-! ### First fit (R74) -/

theorem firstFit_sublist (usable start : Nat) (cs : List (Flow × EntryFields)) :
    (firstFit usable start cs).1.Sublist (cs.map Prod.fst) := by
  induction cs generalizing start with
  | nil => exact .slnil
  | cons c cs ih =>
    obtain ⟨f, x⟩ := c
    unfold firstFit
    split
    · exact (ih _).cons_cons f
    · exact (ih _).cons f

theorem firstFit_within {usable start : Nat} (within : start ≤ usable)
    (cs : List (Flow × EntryFields)) : (firstFit usable start cs).2 ≤ usable := by
  induction cs generalizing start with
  | nil => exact within
  | cons c cs ih =>
    obtain ⟨f, x⟩ := c
    unfold firstFit
    split
    · next fits => exact ih fits
    · exact ih within

theorem firstFit_above {usable start : Nat} (above : usable < start)
    (cs : List (Flow × EntryFields)) : firstFit usable start cs = ([], start) := by
  induction cs with
  | nil => rfl
  | cons c cs ih =>
    obtain ⟨f, x⟩ := c
    unfold firstFit
    rw [if_neg (by omega), ih]

/-- Each admitted candidate adds its rate to the running demand, when no flow is a candidate twice. -/
theorem firstFit_demand (usable start : Nat) {cs : List (Flow × EntryFields)}
    (once : (cs.map Prod.fst).Nodup) :
    (firstFit usable start cs).2 = start +
      ((cs.filter fun c => (firstFit usable start cs).1.contains c.1).map fun c => c.2.rate).sum := by
  induction cs generalizing start with
  | nil => simp [firstFit]
  | cons c cs ih =>
    obtain ⟨f, x⟩ := c
    obtain ⟨new, rest⟩ := List.nodup_cons.mp once
    have other (c : Flow × EntryFields) (hc : c ∈ cs) : c.1 ≠ f := fun same =>
      new (List.mem_map.mpr ⟨c, hc, same⟩)
    unfold firstFit
    split
    · have same : (cs.filter fun c =>
          (f :: (firstFit usable (start + x.rate) cs).1).contains c.1) =
          cs.filter fun c => (firstFit usable (start + x.rate) cs).1.contains c.1 :=
        List.filter_congr fun c hc => by simp [other c hc]
      rw [List.filter_cons_of_pos (by simp), same]
      dsimp only
      rw [ih _ rest, List.map_cons, List.sum_cons, Nat.add_assoc]
    · have missing : (firstFit usable start cs).1.contains f = false := by
        simpa using fun admitted => new ((firstFit_sublist usable start cs).mem admitted)
      rw [List.filter_cons_of_neg (by simpa using missing), ← ih _ rest]

/-! ### What a computation of the plan gives (R72, R74) -/

/-- No admitted flow is flow 0, so that the plan is the flows admitted. -/
theorem mem_compute_plan (p : RadioPlanner) (entries : Tab 64 Entry) (f : Flow) :
    f ∈ (p.compute entries).plan ↔
      f ∈ (firstFit (usableSlots p.grade) (radioDemand entries) (candidates entries p.farFibre)).1 := by
  have user (admitted : f ∈ (firstFit (usableSlots p.grade) (radioDemand entries)
      (candidates entries p.farFibre)).1) : f ≠ 0 := by
    obtain ⟨⟨g, x⟩, candidate, rfl⟩ := List.mem_map.mp ((firstFit_sublist ..).mem admitted)
    exact ((mem_candidates ..).mp candidate).1
  simp only [RadioPlanner.compute, List.mem_filter, mem_userFlows, List.contains_iff_mem]
  exact ⟨And.right, fun admitted => ⟨user admitted, admitted⟩⟩

/-! ### The GRADE samples (R65, R66) -/

theorem RadioPlanner.takeSample_equal {p : RadioPlanner} {sample : Grade} {storm : Bool}
    (h : sample = p.grade ∨ (p.grade < sample ∧ storm = true)) (down up : Nat) :
    p.takeSample down up storm sample = p.clearRuns := by
  unfold RadioPlanner.takeSample
  rcases h with same | ⟨above, rfl⟩
  · rw [if_pos same]
  · rw [if_neg (by bv_omega), if_neg (by bv_omega), if_pos rfl]

theorem RadioPlanner.takeSample_below {p : RadioPlanner} {sample : Grade} (below : sample < p.grade)
    (down up : Nat) (storm : Bool) :
    p.takeSample down up storm sample = p.sampleBelow down sample := by
  unfold RadioPlanner.takeSample
  rw [if_neg (by bv_omega), if_pos below]

theorem RadioPlanner.takeSample_above {p : RadioPlanner} {sample : Grade} (above : p.grade < sample)
    (down up : Nat) : p.takeSample down up false sample = p.sampleAbove up sample := by
  unfold RadioPlanner.takeSample
  rw [if_neg (by bv_omega), if_neg (by bv_omega), if_neg Bool.false_ne_true]

/-! ### The far reports (R69, R75) -/

/-- SHED or RESTORE once some flows have left or entered the plan: it tells the lowest of them and
their number, and stands as it was when there is none (R75). -/
def EventState.afterFlows (old : EventState) : List Flow → EventState
  | [] => old
  | f :: fs => EventState.raised (.flows f (f :: fs).length)

theorem State.raiseFlows_read_same (s : State) (e : EventId) (fs : List Flow) :
    (s.raiseFlows e fs).events.event.read e.num = (s.events.event.read e.num).afterFlows fs := by
  cases fs with
  | nil => rfl
  | cons f fs => simp [State.raiseFlows, EventUnit.raise_read, EventState.afterFlows]

/-- A computation changes the Radio Planner and the Event Unit alone. -/
theorem State.recomputePlan_frame (s : State) :
    s.recomputePlan = { s with
      planner := s.recomputePlan.planner, events := s.recomputePlan.events } := by
  apply State.ext <;> simp

theorem State.recomputePlan_shed (s : State) :
    s.recomputePlan.events.event.read EventId.shed.num =
      (s.events.event.read EventId.shed.num).afterFlows
        (flowsLeaving s.planner.plan s.recomputePlan.planner.plan) := by
  rw [State.recomputePlan_planner, State.recomputePlan,
    State.raiseFlows_read _ _ _ _ (by decide), State.raiseFlows_read_same]
  rfl

theorem State.recomputePlan_restore (s : State) :
    s.recomputePlan.events.event.read EventId.restore.num =
      (s.events.event.read EventId.restore.num).afterFlows
        (flowsLeaving s.recomputePlan.planner.plan s.planner.plan) := by
  rw [State.recomputePlan_planner, State.recomputePlan, State.raiseFlows_read_same,
    State.raiseFlows_read _ _ _ _ (by decide)]
  rfl

theorem FarFibre.other_eq (far : FarFibre) :
    far.other = if far = .present then .lost else .present := by
  cases far <;> rfl

/-! ### The Radio Plan stays fresh and fits -/

/-- Settles O57: every operation keeps the plan fresh, the candidates are put in order one by one, first
fit goes through them by recursion, and the samples and the far reports are judged by their cases. -/
theorem radioPlanStaysFreshAndFits : Obligations.RadioPlanStaysFreshAndFits := by
  refine ⟨fun s t h => stepLaw_keepsPlan.step h, fun p entries => ?_, fun entries far => ?_,
    fun usable start cs => ?_, fun p down up storm sample => ?_, fun s farFibreTimed => ?_⟩
  · intro q usable demand
    have fixed : demand = radioDemand entries := by
      refine congrArg List.sum (List.map_congr_left fun f _ => ?_)
      unfold Entry.fixedRate
      cases entries.read f with
      | unused => rfl
      | used d x => cases d <;> rfl
    clear_value demand
    rw [fixed]
    refine ⟨?_, ?_, ?_⟩
    · rfl
    · exact mem_compute_plan p entries
    · exact userFlows_ascending.filter _
  · exact ⟨mem_candidates entries far, candidates_ordered entries far⟩
  · exact ⟨firstFit_sublist usable start cs, fun within => firstFit_within within cs,
      fun above => firstFit_above above cs, firstFit_demand usable start⟩
  · dsimp only
    refine ⟨fun h => RadioPlanner.takeSample_equal h down up, fun below short => ?_,
      fun below long => ?_, fun above quiet short => ?_, fun above quiet long => ?_⟩
    · rw [RadioPlanner.takeSample_below below, RadioPlanner.sampleBelow, if_neg (by omega)]
    · rw [RadioPlanner.takeSample_below below, RadioPlanner.sampleBelow, if_pos long]
      rfl
    · rw [quiet, RadioPlanner.takeSample_above above, RadioPlanner.sampleAbove, if_neg (by omega)]
      cases p.upLeast <;> rfl
    · rw [quiet, RadioPlanner.takeSample_above above, RadioPlanner.sampleAbove, if_pos long]
      cases p.upLeast <;> rfl
  · intro t p confirms leaving told
    have agrees : confirms ↔ farFibreTimed = decide (s.planner.farFibre = .present) := by
      rw [Bool.eq_iff_iff, decide_eq_true_iff]
    have afterFlows (old : EventState) (flows : List Flow) :
        told old flows = old.afterFlows flows := by cases flows <;> rfl
    rw [agrees]
    obtain ⟨same, report⟩ | ⟨differs, opposed, report⟩ | ⟨differs, first, report⟩ :=
      s.farReport_cases farFibreTimed
    · exact ⟨fun _ => report, fun h => absurd same h, fun h => absurd same h⟩
    · refine ⟨fun h => absurd h differs, fun _ first => by omega, fun _ _ => ?_⟩
      rw [afterFlows, afterFlows, show t = _ from report, ← FarFibre.other_eq]
      exact ⟨State.recomputePlan_planner _, State.recomputePlan_shed _, State.recomputePlan_restore _,
        State.recomputePlan_frame _⟩
    · exact ⟨fun h => absurd h differs, fun _ _ => report, fun _ second => by omega⟩

end Sys2Proof.Machine
end

section
/-! SUPPORT. The batches of a superframe start (R44, R46 to R50, R54): what one flow's batch does to
the FIFOs, the counters, the send lists and the Event Unit, and, flow by flow, what the batches of
flows that draw from different tributaries do together. -/

namespace Sys2Proof.Machine

/-! ### What an entry takes from where (R47, R48, R50, R54) -/

/-- The payloads of the batch of a flow with entry `e`, given the FIFOs and the tally cell of the
moment (R47, R48, R50). -/
def Entry.batchFrom (e : Entry) (fifo : Trib → List CellData) (tally : CellData) : List CellData :=
  match e.outbound with
  | none => []
  | some x =>
    match x.endpoint with
    | .trib k => (fifo k).take x.rate
    | .tally => [tally]
    | .mgmt => []

/-- What a flow with entry `e` places of its cells on bearer `b` (R54). -/
def Entry.cellsOn (e : Entry) (b : Bearer) (inPlan : Bool) (cells : List BatchCell) :
    List BatchCell :=
  match e.outbound with
  | none => []
  | some x => if placedOn b x.protection inPlan = true then cells else []

/-- The rate at which a flow with entry `e` draws from tributary `k`, when it does (R48). -/
def Entry.rateFrom (e : Entry) (k : Trib) : Option Nat :=
  e.outbound.bind fun x => if x.endpoint = .trib k then some x.rate else none

/-- FIFOs that agree on the tributary an entry draws from give it the same batch. -/
theorem Entry.batchFrom_congr {e : Entry} {fifo fifo' : Trib → List CellData} (tally : CellData)
    (same : ∀ k, e.rateFrom k ≠ none → fifo k = fifo' k) :
    e.batchFrom fifo tally = e.batchFrom fifo' tally := by
  unfold Entry.batchFrom
  cases out : e.outbound with
  | none => rfl
  | some x =>
    dsimp only
    cases endpoint : x.endpoint with
    | trib k => exact congrArg (List.take x.rate) (same k (by simp [Entry.rateFrom, out, endpoint]))
    | tally | mgmt => rfl

/-- The payloads of flow `f`'s batch as the part stands, by the active bank. -/
def State.batchNow (s : State) (tally : Flow → CellData) (f : Flow) : List CellData :=
  (s.activeEntry f).batchFrom s.ingress.fifo.read (tally f)

/-- The cells of flow `f`'s batch on bearer `b` as the part stands, numbered. -/
def State.cellsNow (s : State) (tally : Flow → CellData) (b : Bearer) (f : Flow) : List BatchCell :=
  (s.activeEntry f).cellsOn b (s.planner.plan.contains f)
    (numberCells f (s.batch.flow.read f).sequence (s.batchNow tally f))

/-- The rate at which the first of some flows that draws from tributary `k` draws from it. -/
def State.rateOver (s : State) (fs : List Flow) (k : Trib) : Option Nat :=
  fs.findSome? fun f => (s.activeEntry f).rateFrom k

/-! ### Raising events (R177) -/

/-- From `u` to `v` every event stands as it did or is freshly raised. -/
def EventUnit.RaisedFrom (u v : EventUnit) : Prop :=
  ∀ n : Fin 20, v.event.read n = u.event.read n ∨ ∃ d, v.event.read n = EventState.raised d

theorem EventUnit.RaisedFrom.refl (u : EventUnit) : u.RaisedFrom u := fun _ => .inl rfl

theorem EventUnit.RaisedFrom.trans {u v w : EventUnit} (h : u.RaisedFrom v) (h' : v.RaisedFrom w) :
    u.RaisedFrom w := fun n =>
  (h' n).elim (fun same => same ▸ h n) .inr

theorem EventUnit.raise_raisedFrom (u : EventUnit) (e : EventId) (d : EventDetail) :
    u.RaisedFrom (u.raise e d) := fun n => by
  rw [EventUnit.raise_read]
  split
  · exact .inr ⟨d, rfl⟩
  · exact .inl rfl

/-! ### The parts of one batch -/

theorem State.batchCells_eq_tx (s : State) (b : Bearer) (f : Flow) (p : Protection)
    (ds : List CellData) :
    (s.batchCells f p ds).tx b = { s.tx b with
      sendList := (s.tx b).sendList ++
        if placedOn b p (s.planner.plan.contains f) = true then
          numberCells f (s.batch.flow.read f).sequence ds
        else [] } := by
  have joined (t : Transmitter) (here : Bool) (cells : List BatchCell) :
      t.addCells here cells = { t with
        sendList := t.sendList ++ if here = true then cells else [] } := by
    cases here <;> simp [Transmitter.addCells]
  cases b <;> exact joined _ _ _

theorem State.batchCells_tallySource (s : State) (f : Flow) (p : Protection) (ds : List CellData) :
    (s.batchCells f p ds).batch.tallySource = s.batch.tallySource := rfl

theorem State.judgeSilence_tallySource (s : State) (f : Flow) (empty : Bool) :
    (s.judgeSilence f empty).batch.tallySource = s.batch.tallySource := by
  unfold State.judgeSilence
  dsimp only
  split <;> simp

theorem State.judgeSilence_tx (s : State) (f : Flow) (empty : Bool) (b : Bearer) :
    (s.judgeSilence f empty).tx b = s.tx b := by
  cases b <;> simp [State.tx]

/-- The judging of a silent run raises SOURCE-SILENT or nothing (R53). -/
theorem State.judgeSilence_events (s : State) (f : Flow) (empty : Bool) :
    (s.judgeSilence f empty).events = s.events ∨
      (s.judgeSilence f empty).events = s.events.raise .sourceSilent (.flow f) := by
  unfold State.judgeSilence State.raiseSilent
  dsimp only
  (repeat' split)
  · exact .inl rfl
  · exact .inr rfl
  · exact .inl rfl

theorem State.judgeSilence_counters (s : State) (f : Flow) (empty : Bool) (g : Flow) :
    ((s.judgeSilence f empty).batch.flow.read g).sequence = (s.batch.flow.read g).sequence ∧
    ((s.judgeSilence f empty).batch.flow.read g).batched = (s.batch.flow.read g).batched := by
  rw [State.judgeSilence_flow]
  split
  · next same =>
    rw [same, FlowBatchState.judgeSilence_eq]
    exact ⟨rfl, rfl⟩
  · exact ⟨rfl, rfl⟩

/-! ### What some flows' batches do -/

/-- What batches leave alone: the Tally Source, all of a transmitter but its send list, the ingress
drops, and every event but SOURCE-SILENT. -/
structure BatchFrame (s t : State) : Prop where
  tallySource : t.batch.tallySource = s.batch.tallySource
  tx : ∀ b : Bearer, t.tx b = { s.tx b with sendList := (t.tx b).sendList }
  drops : t.ingress.dropCount = s.ingress.dropCount ∧ t.ingress.unrouted = s.ingress.unrouted
  raised : s.events.RaisedFrom t.events
  events : ∀ n : Fin 20, n ≠ EventId.sourceSilent.num →
    t.events.event.read n = s.events.event.read n

theorem BatchFrame.refl (s : State) : BatchFrame s s where
  tallySource := rfl
  tx _ := rfl
  drops := ⟨rfl, rfl⟩
  raised := .refl _
  events _ _ := rfl

theorem BatchFrame.trans {s t u : State} (h : BatchFrame s t) (h' : BatchFrame t u) :
    BatchFrame s u where
  tallySource := h'.tallySource.trans h.tallySource
  tx b := by rw [h'.tx b, h.tx b]
  drops := ⟨h'.drops.1.trans h.drops.1, h'.drops.2.trans h.drops.2⟩
  raised := h.raised.trans h'.raised
  events n other := (h'.events n other).trans (h.events n other)

/-- `t` is `s` after the batches of the flows `fs`, the tally cell of flow `f` being `tally f`: the
FIFOs drawn and the holds judged (R44, R48), the counters moved on (R49) and the cells joined to the
send lists (R54). -/
structure BatchedOver (s t : State) (fs : List Flow) (tally : Flow → CellData) : Prop where
  frame : BatchFrame s t
  tallies : ∀ f, ∃ k, tally f = paddedCell k (lampBytes s.batch.tallySource)
  counters : ∀ g : Flow,
    (t.batch.flow.read g).sequence = (s.batch.flow.read g).sequence +
      BitVec.ofNat 16 (if g ∈ fs then (s.batchNow tally g).length else 0) ∧
    (t.batch.flow.read g).batched = satAdd (s.batch.flow.read g).batched
      (if g ∈ fs then (s.batchNow tally g).length else 0)
  lists : ∀ b : Bearer,
    (t.tx b).sendList = (s.tx b).sendList ++ fs.flatMap (s.cellsNow tally b)
  fifos : ∀ k : Trib,
    t.ingress.fifo.read k = (s.ingress.fifo.read k).drop ((s.rateOver fs k).getD 0)
  holds : ∀ k : Trib, t.ingress.hold.read k = (s.ingress.hold.read k &&
    !((s.rateOver fs k).isSome &&
      decide ((t.ingress.fifo.read k).length + 8 ≤ s.mgmt.settings.watermark.read k)))

/-- A flow whose entry is of no batch changes nothing. -/
theorem BatchedOver.of_idle {s : State} {f : Flow}
    (batch : s.batchNow (fun _ => s.tallyCell) f = [])
    (rate : ∀ k, (s.activeEntry f).rateFrom k = none) :
    BatchedOver s s [f] fun _ => s.tallyCell where
  frame := .refl s
  tallies _ := ⟨s.occasion, rfl⟩
  counters g := by
    have nothing : (if g ∈ [f] then (s.batchNow (fun _ => s.tallyCell) g).length else 0) = 0 := by
      split
      · next named => rw [List.mem_singleton.mp named, batch]; rfl
      · rfl
    rw [nothing]
    simp
  lists b := by
    have nothing : s.cellsNow (fun _ => s.tallyCell) b f = [] := by
      unfold State.cellsNow Entry.cellsOn
      rw [batch]
      split
      · rfl
      · split <;> rfl
    simp [nothing]
  fifos k := by simp [State.rateOver, rate]
  holds k := by simp [State.rateOver, rate]

/-- The batch of a tributary's flow (R44, R48, R53). -/
theorem State.tributaryBatch_batchedOver (s : State) (f : Flow) {x : EntryFields} {n : Trib}
    (entry : (s.activeEntry f).outbound = some x) (source : x.endpoint = .trib n) :
    BatchedOver s (s.tributaryBatch f x n) [f] fun _ => s.tallyCell := by
  let k := min x.rate (s.ingress.fifo.read n).length
  let s1 := s.withIngress (s.ingress.remove (s.mgmt.settings.watermark.read n) n k)
  let s2 := s1.batchCells f x.protection (s.batchNow (fun _ => s.tallyCell) f)
  have cells : (s.ingress.fifo.read n).take k = s.batchNow (fun _ => s.tallyCell) f := by
    simp [k, State.batchNow, Entry.batchFrom, entry, source, List.take_eq_take_iff]
  have formed : s.tributaryBatch f x n = s2.judgeSilence f (k == 0) := by
    simp only [s2, ← cells]; rfl
  have rate (j : Trib) : s.rateOver [f] j = if j = n then some x.rate else none := by
    simp [State.rateOver, Entry.rateFrom, entry, source, @eq_comm _ n j]
  have ingress : (s.tributaryBatch f x n).ingress = s1.ingress := by
    rw [formed, State.judgeSilence_ingress, State.batchCells_ingress]
  have fifos (j : Trib) : (s.tributaryBatch f x n).ingress.fifo.read j =
      (s.ingress.fifo.read j).drop ((s.rateOver [f] j).getD 0) := by
    rw [ingress, rate]
    refine (s.ingress.remove_fifo _ n k j).trans ?_
    by_cases same : j = n
    · subst same
      simp [k, List.drop_eq_drop_iff]
    · simp [same]
  have tx (b : Bearer) : (s.tributaryBatch f x n).tx b =
      { s.tx b with sendList :=
        (s.tx b).sendList ++ s.cellsNow (fun _ => s.tallyCell) b f } := by
    have before : s1.tx b = s.tx b := by cases b <;> rfl
    rw [formed, State.judgeSilence_tx, State.batchCells_eq_tx, before]
    simp [s1, State.cellsNow, Entry.cellsOn, entry]
  refine ⟨⟨?_, fun b => by rw [tx b], ?_, ?_, fun e other => ?_⟩, fun _ => ⟨s.occasion, rfl⟩,
    fun g => ?_, fun b => ?_, fifos, fun j => ?_⟩
  · rw [formed, State.judgeSilence_tallySource]
    rfl
  · rw [ingress]
    exact ⟨rfl, rfl⟩
  · rw [formed]
    rcases s2.judgeSilence_events f (k == 0) with same | silent
    · rw [same]; exact .refl _
    · rw [silent]; exact EventUnit.raise_raisedFrom _ _ _
  · rw [formed]
    rcases s2.judgeSilence_events f (k == 0) with same | silent
    · rw [same]; rfl
    · rw [silent, EventUnit.raise_read, if_neg other]; rfl
  · obtain ⟨sequence, batched⟩ := s2.judgeSilence_counters f (k == 0) g
    rw [formed, sequence, batched, State.batchCells_flow]
    by_cases same : g = f
    · subst same
      simp [s1]
    · simp [same, s1]
  · rw [tx b]
    simp
  · rw [fifos, ingress, rate]
    show (s.ingress.hold.write n _).read j = _
    by_cases same : j = n
    · subst same
      have left : (s.ingress.fifo.read j).length - k = (s.ingress.fifo.read j).length - x.rate := by
        omega
      simp [holdAfterTaking, left]
    · simp [same]

/-- The batch of a flow whose source is the Tally Source (R50). -/
theorem State.tallyBatch_batchedOver (s : State) (f : Flow) {x : EntryFields}
    (entry : (s.activeEntry f).outbound = some x) (source : x.endpoint = .tally) :
    BatchedOver s (s.tallyBatch f x) [f] fun _ => s.tallyCell := by
  have cells : [s.tallyCell] = s.batchNow (fun _ => s.tallyCell) f := by
    simp [State.batchNow, Entry.batchFrom, entry, source]
  have rate (k : Trib) : s.rateOver [f] k = none := by
    simp [State.rateOver, Entry.rateFrom, entry, source]
  have formed : s.tallyBatch f x =
      (s.batchCells f x.protection (s.batchNow (fun _ => s.tallyCell) f)).nextOccasion := by
    rw [← cells]; rfl
  have tx (b : Bearer) : (s.tallyBatch f x).tx b =
      { s.tx b with sendList :=
        (s.tx b).sendList ++ s.cellsNow (fun _ => s.tallyCell) b f } := by
    have after (u : State) : u.nextOccasion.tx b = u.tx b := by cases b <;> rfl
    rw [formed, after, State.batchCells_eq_tx]
    simp [State.cellsNow, Entry.cellsOn, entry]
  refine ⟨⟨rfl, fun b => by rw [tx b], ⟨rfl, rfl⟩, .refl _, fun _ _ => rfl⟩,
    fun _ => ⟨s.occasion, rfl⟩, fun g => ?_, fun b => ?_, fun k => ?_, fun k => ?_⟩
  · rw [formed, State.nextOccasion_batch, State.batchCells_flow]
    by_cases same : g = f
    · subst same; simp
    · simp [same]
  · rw [tx b]
    simp
  · simp [rate]
  · simp [rate]

/-- The batch of any flow, by its entry (R47). -/
theorem State.formBatch_batchedOver (s : State) (f : Flow) :
    BatchedOver s (s.formBatch f) [f] fun _ => s.tallyCell := by
  unfold State.formBatch
  split
  · next entry =>
    exact .of_idle (by simp [State.batchNow, Entry.batchFrom, entry])
      (by simp [Entry.rateFrom, entry])
  · next x entry =>
    split
    · next n source => exact s.tributaryBatch_batchedOver f entry source
    · next source => exact s.tallyBatch_batchedOver f entry source
    · next source =>
      exact .of_idle (by simp [State.batchNow, Entry.batchFrom, entry, source])
        (by simp [Entry.rateFrom, entry, source])

theorem State.formBatches_frame (s : State) : BatchFrame s s.formBatches := by
  unfold State.formBatches
  induction userFlows generalizing s with
  | nil => exact .refl s
  | cons f fs ih => exact (s.formBatch_batchedOver f).frame.trans (ih (s.formBatch f))

/-! ### One batch after another -/

/-- Two flows draw from different tributaries, by the entries of a bank (R27). -/
def drawApart (bank : Tab 64 Entry) (f g : Flow) : Prop :=
  f ≠ g ∧ ∀ k, (bank.read f).rateFrom k = none ∨ (bank.read g).rateFrom k = none

section Apart
variable {s t : State} {f g : Flow} (formed : BatchedOver s t [f] fun _ => s.tallyCell)
  (table : t.table = s.table) (planner : t.planner = s.planner)
  (apart : drawApart s.table.activeBank f g)
include formed table apart

/-- A batch leaves the payloads of a flow that draws elsewhere. -/
theorem BatchedOver.batchNow_apart (tally : Flow → CellData) :
    t.batchNow tally g = s.batchNow tally g := by
  have entry : t.activeEntry g = s.activeEntry g := by rw [State.activeEntry, table]; rfl
  unfold State.batchNow
  rw [entry]
  refine Entry.batchFrom_congr _ fun k draws => ?_
  have idle : (s.activeEntry f).rateFrom k = none := (apart.2 k).resolve_right draws
  rw [formed.fifos k]
  simp [State.rateOver, idle]

include planner

theorem BatchedOver.cellsNow_apart (tally : Flow → CellData) (b : Bearer) :
    t.cellsNow tally b g = s.cellsNow tally b g := by
  have entry : t.activeEntry g = s.activeEntry g := by rw [State.activeEntry, table]; rfl
  have sequence : (t.batch.flow.read g).sequence = (s.batch.flow.read g).sequence := by
    rw [(formed.counters g).1]
    simp [apart.1.symm]
  unfold State.cellsNow
  rw [formed.batchNow_apart table apart, entry, sequence, planner]

end Apart

theorem drawApart.symm {bank : Tab 64 Entry} {f g : Flow} (h : drawApart bank f g) :
    drawApart bank g f :=
  ⟨h.1.symm, fun k => (h.2 k).symm⟩

/-- What the first of some flows draws it alone draws, and what it leaves the others draw (R27). -/
theorem State.rateOver_cons (s : State) {f : Flow} {fs : List Flow}
    (apart : ∀ g ∈ fs, drawApart s.table.activeBank f g) (k : Trib) :
    s.rateOver (f :: fs) k = s.rateOver [f] k ∧ s.rateOver fs k = none ∨
      s.rateOver (f :: fs) k = s.rateOver fs k ∧ s.rateOver [f] k = none := by
  unfold State.rateOver
  cases draws : (s.activeEntry f).rateFrom k with
  | none => exact .inr (by simp [draws])
  | some r =>
    refine .inl ⟨by simp [draws], List.findSome?_eq_none_iff.mpr fun g hg => ?_⟩
    exact ((apart g hg).2 k).resolve_left fun none => by
      rw [State.activeEntry, none] at draws
      cases draws

/-- The batches of one flow and then of others that draw elsewhere. -/
theorem BatchedOver.cons {s u : State} {f : Flow} {fs : List Flow} {tally : Flow → CellData}
    (apart : ∀ g ∈ fs, drawApart s.table.activeBank f g)
    (rest : BatchedOver (s.formBatch f) u fs tally) :
    BatchedOver s u (f :: fs) (Function.update tally f s.tallyCell) := by
  have first := s.formBatch_batchedOver f
  have other {g : Flow} (hg : g ∈ fs) : g ≠ f := (apart g hg).1.symm
  have fresh : f ∉ fs := fun named => other named rfl
  have own (b : Bearer) : s.batchNow (fun _ => s.tallyCell) f =
      s.batchNow (Function.update tally f s.tallyCell) f ∧
      s.cellsNow (fun _ => s.tallyCell) b f =
        s.cellsNow (Function.update tally f s.tallyCell) b f := by
    simp [State.cellsNow, State.batchNow]
  have later {g : Flow} (hg : g ∈ fs) (b : Bearer) : (s.formBatch f).batchNow tally g =
      s.batchNow (Function.update tally f s.tallyCell) g ∧
      (s.formBatch f).cellsNow tally b g =
        s.cellsNow (Function.update tally f s.tallyCell) b g := by
    rw [first.batchNow_apart (s.formBatch_table f) (apart g hg),
      first.cellsNow_apart (s.formBatch_table f) (s.formBatch_planner f) (apart g hg)]
    simp [State.cellsNow, State.batchNow, Function.update_of_ne (other hg)]
  have rate (k : Trib) : (s.formBatch f).rateOver fs k = s.rateOver fs k := by
    simp [State.rateOver, State.activeEntry]
  refine ⟨first.frame.trans rest.frame, fun g => ?_, fun g => ?_, fun b => ?_, fun k => ?_,
    fun k => ?_⟩
  · by_cases same : g = f
    · rw [same, Function.update_self]
      exact ⟨_, rfl⟩
    · rw [Function.update_of_ne same, ← first.frame.tallySource]
      exact rest.tallies g
  · obtain ⟨sequence, batched⟩ := rest.counters g
    obtain ⟨sequence₁, batched₁⟩ := first.counters g
    rw [sequence, batched, sequence₁, batched₁]
    by_cases same : g = f
    · subst same
      rw [(own .fibre).1]
      simp [fresh]
    · by_cases hg : g ∈ fs
      · rw [(later hg .fibre).1]
        simp [same, hg]
      · simp [same, hg]
  · have lists : (f :: fs).flatMap (s.cellsNow (Function.update tally f s.tallyCell) b) =
        s.cellsNow (fun _ => s.tallyCell) b f ++ fs.flatMap ((s.formBatch f).cellsNow tally b) := by
      rw [List.flatMap_cons, (own b).2, List.flatMap_congr fun g hg => (later hg b).2]
    rw [rest.lists b, first.lists b, lists]
    simp
  · rw [rest.fifos k, first.fifos k, rate k]
    rcases s.rateOver_cons apart k with ⟨drawn, idle⟩ | ⟨drawn, idle⟩
    · simp [drawn, idle]
    · simp [drawn, idle]
  · rw [rest.holds k, first.holds k, rate k, State.formBatch_mgmt]
    rcases s.rateOver_cons apart k with ⟨drawn, idle⟩ | ⟨drawn, idle⟩
    · simp [drawn, idle, rest.fifos k, rate k]
    · simp [drawn, idle]

/-- The batches of flows that draw from different tributaries (R47). -/
theorem State.foldl_formBatch_batchedOver {fs : List Flow} {bank : Tab 64 Entry}
    (apart : fs.Pairwise (drawApart bank)) (s : State) (active : s.table.activeBank = bank) :
    ∃ tally, BatchedOver s (fs.foldl State.formBatch s) fs tally := by
  induction fs generalizing s with
  | nil =>
    exact ⟨fun _ => s.tallyCell, .refl s, fun _ => ⟨s.occasion, rfl⟩, by simp, by simp,
      by simp [State.rateOver], by simp [State.rateOver]⟩
  | cons f fs ih =>
    obtain ⟨first, others⟩ := List.pairwise_cons.mp apart
    obtain ⟨tally, rest⟩ := ih others (s.formBatch f) (by rw [State.formBatch_table, active])
    exact ⟨_, .cons (by rwa [active]) rest⟩

/-! ### A bank without conflicts (R27, R43) -/

theorem Entry.rateFrom_eq_some_iff (e : Entry) (k : Trib) (r : Nat) :
    e.rateFrom k = some r ↔ ∃ x, e = .used .outbound x ∧ x.endpoint = .trib k ∧ x.rate = r := by
  cases e with
  | unused => simp [Entry.rateFrom, Entry.outbound]
  | used d y => cases d <;> simp [Entry.rateFrom, Entry.outbound]

/-- In a bank that passes the check no two flows draw from one tributary (R27). -/
theorem drawApart_of_pass {bank : Tab 64 Entry} (pass : consistencyCheck bank = .pass) {f g : Flow}
    (hf : f ≠ 0) (hg : g ≠ 0) (ne : f ≠ g) : drawApart bank f g := by
  obtain ⟨noConflict, -, -⟩ := (consistencyCheck_pass_iff bank).mp pass
  have apart := (tribConflict_eq_none_iff bank).mp noConflict f g hf hg ne
  refine ⟨ne, fun k => ?_⟩
  cases first : (bank.read f).rateFrom k with
  | none => exact .inl rfl
  | some r =>
    refine .inr (Option.eq_none_iff_forall_ne_some.mpr fun r' second => ?_)
    obtain ⟨x, entry, source, -⟩ := (Entry.rateFrom_eq_some_iff ..).mp first
    obtain ⟨y, entry', source', -⟩ := (Entry.rateFrom_eq_some_iff ..).mp second
    exact (Entry.conflicts_eq_false_iff _ _).mp apart .outbound x y entry entry'
      (source.trans source'.symm)

theorem userFlows_drawApart {bank : Tab 64 Entry} (pass : consistencyCheck bank = .pass) :
    userFlows.Pairwise (drawApart bank) :=
  userFlows_ascending.imp_of_mem fun hf hg below =>
    drawApart_of_pass pass ((mem_userFlows _).mp hf) ((mem_userFlows _).mp hg) (ne_of_lt below)

/-- The batch of a superframe draws from a tributary for the flow whose OUTBOUND entry names it. -/
theorem drawnFrom_eq (bank : Tab 64 Entry) (k : Trib) :
    drawnFrom bank k = userFlows.findSome? fun f => (bank.read f).rateFrom k := by
  unfold drawnFrom outboundFlowOf
  induction userFlows with
  | nil => rfl
  | cons f fs ih =>
    rw [List.find?_cons, List.findSome?_cons]
    cases out : (bank.read f).outbound with
    | none => simpa [Entry.rateFrom, out] using ih
    | some x =>
      by_cases source : x.endpoint = .trib k
      · simp [Entry.rateFrom, out, source]
      · have elsewhere : (x.endpoint == .trib k) = false := beq_eq_false_iff_ne.mpr source
        simpa [Entry.rateFrom, out, source, elsewhere] using ih

/-- The batches of a superframe start, when the bank that governs it passes the check. -/
theorem State.formBatches_batchedOver (s : State)
    (pass : consistencyCheck s.table.activeBank = .pass) :
    ∃ tally, BatchedOver s s.formBatches userFlows tally :=
  State.foldl_formBatch_batchedOver (userFlows_drawApart pass) s rfl

end Sys2Proof.Machine
end

section
/-! SUPPORT. The report of a superframe start (R157, R159, R179, R180, R182): the judging and its
notices, flow 0's batch and the far notice, and what the raisings of the start leave in the Event
Unit. -/

namespace Sys2Proof.Machine

/-! ### The judging (R179, R180) -/

theorem State.judge_of_not_reports {s : State} (quiet : s.events.reports s.mgmt.settings = false)
    (n : Superframe) : s.judge n = (s, none) := by
  simp [State.judge, quiet]

theorem State.judge_of_reports {s : State} (reports : s.events.reports s.mgmt.settings = true)
    (n : Superframe) :
    (s.judge n).2 = s.nextOccasion.buildNotice n .flow0 ∧
    ∃ es, (s.judge n).1 =
      (((s.withEvents (s.events.listed s.mgmt.settings es)).nextOccasion).nextOccasion).placeNear
        (s.buildNotice n .port) := by
  simp only [State.judge, reports, if_true]
  exact ⟨trivial, _, rfl⟩

/-- With the report enable OFF nothing is reported. -/
theorem EventUnit.reports_off (u : EventUnit) {st : Settings} (off : st.reportEnable = false) :
    u.reports st = false := by
  simp [EventUnit.reports, off]

/-- Nothing is reportable to a destination that is OFF. -/
theorem EventUnit.listing_off (u : EventUnit) {st : Settings} {q : MgmtQueue}
    (off : st.destinationOn q = false) : u.listing st q = [] := by
  simp [EventUnit.listing, EventUnit.reportable, off]

/-- A destination to which nothing is reportable has no notice. -/
theorem State.buildNotice_none {s : State} {q : MgmtQueue}
    (nothing : s.events.listing s.mgmt.settings q = []) (n : Superframe) :
    s.buildNotice n q = none := by
  simp [State.buildNotice, nothing]

/-- A notice begins with its kind, tag 0 and the superframe number (R185). -/
theorem State.buildNotice_some {s : State} {q : MgmtQueue}
    (something : s.events.listing s.mgmt.settings q ≠ []) (n : Superframe) :
    ∃ c, s.buildNotice n q = some c ∧ c.record.take 4 = [3, 0] ++ bytesOf 2 n.toNat := by
  unfold State.buildNotice
  split
  · next nothing => exact absurd nothing something
  · refine ⟨_, rfl, ?_⟩
    rw [paddedCell_record]
    simp [EventUnit.noticeRecord, RecordKind.number, bytesOf]

/-- Event `e` is UNREPORTED, enabled, and URGENT or due with the routine count as it is (R179). -/
def State.waits (s : State) (e : Fin 20) : Prop :=
  (s.events.event.read e).unreported = true ∧ s.mgmt.settings.eventEnable.read e = true ∧
  (s.mgmt.settings.eventLevel.read e = .urgent ∨
    s.mgmt.settings.routineInterval ≤ s.events.routineCount)

/-- An event that waits, and tells of no drop, is reportable to every destination that is ON. -/
theorem State.waits.mem_listing {s : State} {e : Fin 20} (waits : s.waits e)
    (other : e ≠ EventId.mgmtDrop.num) {q : MgmtQueue}
    (on : s.mgmt.settings.destinationOn q = true) : e ∈ s.events.listing s.mgmt.settings q := by
  obtain ⟨unreported, enabled, -⟩ := waits
  have reportable : s.events.reportable s.mgmt.settings q e = true := by
    simp [EventUnit.reportable, EventUnit.ownDrop, on, unreported, enabled, other]
  unfold EventUnit.listing
  cases level : s.mgmt.settings.eventLevel.read e <;> simp [reportable, level]

/-- An event that waits calls for a report (R179). -/
theorem State.waits.reports {s : State} {e : Fin 20} (waits : s.waits e)
    (other : e ≠ EventId.mgmtDrop.num) (enabled : s.mgmt.settings.reportEnable = true)
    {q : MgmtQueue} (on : s.mgmt.settings.destinationOn q = true) :
    s.events.reports s.mgmt.settings = true := by
  have calls : s.events.callsForReport s.mgmt.settings e = true := by
    obtain ⟨-, -, due⟩ := waits
    unfold EventUnit.callsForReport
    split
    · rfl
    · next routine => simpa [routine] using due
  have listed := waits.mem_listing other on
  unfold EventUnit.reports
  rw [enabled, Bool.true_and, List.any_eq_true]
  refine ⟨e, List.mem_append.mpr ?_, calls⟩
  cases q with
  | port => exact .inl listed
  | flow0 => exact .inr listed

theorem State.placeNear_cases (s : State) (notice : Option CellData) :
    (s.placeNear notice).mgmt.flow0Queue = s.mgmt.flow0Queue ∧
    (s.placeNear notice).mgmt = { s.mgmt with
      portQueue := (s.placeNear notice).mgmt.portQueue
      portDrops := (s.placeNear notice).mgmt.portDrops } ∧
    ∀ e : Fin 20, e ≠ EventId.mgmtDrop.num →
      (s.placeNear notice).events.event.read e = s.events.event.read e := by
  cases notice with
  | none => exact ⟨rfl, rfl, fun _ _ => rfl⟩
  | some cell =>
    unfold State.placeNear
    dsimp only
    by_cases room : s.mgmt.portQueue.length < 16
    · rw [State.placePort_room _ _ _ room]
      exact ⟨rfl, rfl, fun _ _ => rfl⟩
    · rw [State.placePort_full _ _ _ room]
      exact ⟨rfl, rfl, fun e other => by rw [EventUnit.raise_read, if_neg other]⟩

/-- The judging changes the port's queue and its drops in the Management Unit, and no flag and no
detail but those of MGMT-DROP (R157, R180). -/
theorem State.judge_kept (s : State) (n : Superframe) :
    (s.judge n).1.mgmt.flow0Queue = s.mgmt.flow0Queue ∧
    (s.judge n).1.mgmt = { s.mgmt with
      portQueue := (s.judge n).1.mgmt.portQueue, portDrops := (s.judge n).1.mgmt.portDrops } ∧
    ∀ e : Fin 20, e ≠ EventId.mgmtDrop.num →
      ((s.judge n).1.events.event.read e).flag = (s.events.event.read e).flag ∧
      ((s.judge n).1.events.event.read e).detail = (s.events.event.read e).detail := by
  cases reports : s.events.reports s.mgmt.settings with
  | false =>
    rw [State.judge_of_not_reports reports]
    exact ⟨rfl, rfl, fun _ _ => ⟨rfl, rfl⟩⟩
  | true =>
    obtain ⟨-, es, judged⟩ := State.judge_of_reports reports n
    rw [judged]
    obtain ⟨queue, mgmt, events⟩ := State.placeNear_cases
      (((s.withEvents (s.events.listed s.mgmt.settings es)).nextOccasion).nextOccasion)
      (s.buildNotice n .port)
    refine ⟨queue, mgmt, fun e other => ?_⟩
    rw [events e other]
    simp only [State.nextOccasion_events, State.withEvents_events, EventUnit.listed, Tab.read_build]
    split <;> exact ⟨rfl, rfl⟩

/-- The near notice of a report joins the port's queue when there is room (R157, R180). -/
theorem State.judge_near {s : State} {e : Fin 20} (waits : s.waits e)
    (other : e ≠ EventId.mgmtDrop.num) (enabled : s.mgmt.settings.reportEnable = true)
    (near : s.mgmt.settings.reportNear = true) (room : s.mgmt.portQueue.length < 16)
    (n : Superframe) :
    ∃ c, (s.judge n).1.mgmt.portQueue = s.mgmt.portQueue ++ [c] ∧
      c.record.take 4 = [3, 0] ++ bytesOf 2 n.toNat := by
  obtain ⟨-, es, judged⟩ := State.judge_of_reports (waits.reports other enabled (q := .port) near) n
  obtain ⟨c, built, record⟩ := State.buildNotice_some
    (List.ne_nil_of_mem (waits.mem_listing other (q := .port) near)) n
  rw [judged, built]
  refine ⟨c, ?_, record⟩
  simp only [State.placeNear]
  rw [State.placePort_room _ _ _ (by simpa using room)]
  simp

/-- The far notice of a report (R180). -/
theorem State.judge_far {s : State} {e : Fin 20} (waits : s.waits e)
    (other : e ≠ EventId.mgmtDrop.num) (enabled : s.mgmt.settings.reportEnable = true)
    (far : s.mgmt.settings.reportFar = true) (n : Superframe) :
    ∃ c, (s.judge n).2 = some c ∧ c.record.take 4 = [3, 0] ++ bytesOf 2 n.toNat := by
  rw [(State.judge_of_reports (waits.reports other enabled (q := .flow0) far) n).1]
  exact State.buildNotice_some (s := s.nextOccasion)
    (List.ne_nil_of_mem (waits.mem_listing other (q := .flow0) far)) n

/-- With the report or its far destination OFF there is no far notice (R179). -/
theorem State.judge_no_far {s : State} (off : s.mgmt.settings.reportEnable = false ∨
    s.mgmt.settings.reportFar = false) (n : Superframe) : (s.judge n).2 = none := by
  cases reports : s.events.reports s.mgmt.settings with
  | false => rw [State.judge_of_not_reports reports]
  | true =>
    rw [(State.judge_of_reports reports n).1]
    have enabled : s.mgmt.settings.reportEnable ≠ false := fun disabled => by
      rw [EventUnit.reports_off _ disabled] at reports
      cases reports
    exact State.buildNotice_none (s := s.nextOccasion) (q := .flow0)
      (EventUnit.listing_off _ (off.resolve_left enabled)) n

/-! ### Flow 0's batch and the far notice (R52, R159, R182) -/

/-- `t` is `s` after flow 0's batch of the cells `flow0` is drawn and the far notice is placed. -/
structure Drained (s t : State) (far : Option CellData) (flow0 : List CellData) : Prop where
  batch : t.batch = (s.batchCells 0 .both flow0).batch
  tx : ∀ b : Bearer, t.tx b = (s.batchCells 0 .both flow0).tx b
  short : flow0.length ≤ 8
  alone : far = none → flow0 = s.mgmt.flow0Queue.take 8 ∧
    t.mgmt = { s.mgmt with flow0Queue := s.mgmt.flow0Queue.drop 8 } ∧ t.events = s.events
  joined : ∀ c, far = some c → s.mgmt.flow0Queue.length < 16 →
    flow0 ++ t.mgmt.flow0Queue = s.mgmt.flow0Queue ++ [c]
  mgmt : t.mgmt = { s.mgmt with
    flow0Queue := t.mgmt.flow0Queue, flow0Drops := t.mgmt.flow0Drops }
  events : ∀ e : Fin 20, e ≠ EventId.mgmtDrop.num →
    t.events.event.read e = s.events.event.read e
  routine : t.events.routineCount = s.events.routineCount

/-- Flow 0's batch with no notice to place (R52). -/
theorem State.flow0Batch_drained (s : State) :
    Drained s s.flow0Batch none (s.mgmt.flow0Queue.take 8) where
  batch := rfl
  tx b := by cases b <;> rfl
  short := List.length_take_le ..
  alone _ := ⟨rfl, rfl, rfl⟩
  joined _ h := by cases h
  mgmt := rfl
  events _ _ := rfl
  routine := rfl

theorem State.placeFlow0_cases (s : State) (kind : RecordKind) (c : CellData) :
    s.mgmt.flow0Queue.length < 16 ∧
      s.placeFlow0 kind c =
        { s with mgmt := { s.mgmt with flow0Queue := s.mgmt.flow0Queue ++ [c] } } ∨
    ¬ s.mgmt.flow0Queue.length < 16 ∧
      s.placeFlow0 kind c = { s with
        mgmt := { s.mgmt with flow0Drops := satInc s.mgmt.flow0Drops }
        events := s.events.raise .mgmtDrop (.dropped .flow0 kind) } := by
  by_cases room : s.mgmt.flow0Queue.length < 16
  · exact .inl ⟨room, State.placeFlow0_room _ _ _ room⟩
  · exact .inr ⟨room, State.placeFlow0_full _ _ _ room⟩

/-- The notice placed first, and the batch drawn from what then stands in the queue (R182). -/
theorem State.placed_then_drained (s : State) (c : CellData) :
    ∃ flow0, Drained s (s.placeFlow0 .notice c).flow0Batch (some c) flow0 := by
  rcases s.placeFlow0_cases .notice c with ⟨room, placed⟩ | ⟨full, placed⟩
  · rw [placed]
    exact ⟨(s.mgmt.flow0Queue ++ [c]).take 8, rfl, fun b => by cases b <;> rfl,
      List.length_take_le .., fun h => (by cases h), fun c' same _ => by
        cases same; exact List.take_append_drop 8 _, rfl, fun _ _ => rfl, rfl⟩
  · rw [placed]
    exact ⟨s.mgmt.flow0Queue.take 8, rfl, fun b => by cases b <;> rfl, List.length_take_le ..,
      fun h => (by cases h), fun _ _ room => absurd room full, rfl,
      fun e other => (s.events.raise_read .mgmtDrop _ e).trans (if_neg other), rfl⟩

/-- The batch drawn first, and the notice placed in what it leaves (R182). -/
theorem State.drained_then_placed (s : State) (c : CellData) :
    Drained s (s.flow0Batch.placeFlow0 .notice c) (some c) (s.mgmt.flow0Queue.take 8) := by
  have tx (u : State) (b : Bearer) : (u.placeFlow0 .notice c).tx b = u.tx b := by
    cases b <;> simp [State.tx]
  refine ⟨State.placeFlow0_batch .., fun b => (tx _ b).trans (s.flow0Batch_drained.tx b),
    List.length_take_le .., fun h => (by cases h), fun c' same room => ?_, ?_,
    fun e other => ?_, ?_⟩
  · cases same
    have left : s.flow0Batch.mgmt.flow0Queue.length < 16 := by
      show (s.mgmt.flow0Queue.drop 8).length < 16
      rw [List.length_drop]; omega
    rw [State.placeFlow0_room _ _ _ left]
    show s.mgmt.flow0Queue.take 8 ++ (s.mgmt.flow0Queue.drop 8 ++ [c]) = _
    rw [← List.append_assoc, List.take_append_drop]
  all_goals rcases s.flow0Batch.placeFlow0_cases .notice c with ⟨-, placed⟩ | ⟨-, placed⟩ <;>
    rw [placed]
  · rfl
  · rfl
  · rfl
  · exact (s.events.raise_read .mgmtDrop _ e).trans (if_neg other)
  · rfl
  · rfl

theorem State.drainAndPlace_drained (s : State) (far : Option CellData) (first : Bool) :
    ∃ flow0, Drained s (s.drainAndPlace far first) far flow0 := by
  cases far with
  | none => exact ⟨_, s.flow0Batch_drained⟩
  | some c =>
    cases first with
    | true => exact s.placed_then_drained c
    | false => exact ⟨_, s.drained_then_placed c⟩

/-! ### The report as a whole (R176, R179, R182) -/

/-- The judging, flow 0's batch with the far notice, and then the raisings that are taken late. -/
def State.reportOf (s : State) (n : Superframe) (first : Bool) (raisings : EventUnit)
    (late : Fin 20 → Bool) : State :=
  let placed := (s.judge n).1.drainAndPlace (s.judge n).2 first
  placed.withEvents (placed.events.takeRaisings raisings late)

/-- What the report at a superframe start leaves of a state `w`: flow 0's batch of the cells
`flow0`, the notices, and the raisings that are taken late. -/
structure Reported (w t : State) (n : Superframe) (flow0 : List CellData) (raisings : EventUnit)
    (late : Fin 20 → Bool) : Prop where
  batch : t.batch = (w.batchCells 0 .both flow0).batch
  tx : ∀ b : Bearer, t.tx b = (w.batchCells 0 .both flow0).tx b
  mgmt : t.mgmt = { w.mgmt with
    portQueue := t.mgmt.portQueue, flow0Queue := t.mgmt.flow0Queue
    portDrops := t.mgmt.portDrops, flow0Drops := t.mgmt.flow0Drops }
  told : ∀ e : Fin 20, (raisings.event.read e).flag = true → late e = true →
    t.events.event.read e = raisings.event.read e
  kept : ∀ e : Fin 20, e ≠ EventId.mgmtDrop.num → late e = false →
    (t.events.event.read e).flag = (w.events.event.read e).flag ∧
    (t.events.event.read e).detail = (w.events.event.read e).detail
  off : w.mgmt.settings.reportEnable = false →
    t.mgmt = { w.mgmt with flow0Queue := w.mgmt.flow0Queue.drop 8 } ∧
    t.events.routineCount = w.events.routineCount
  noFar : w.mgmt.settings.reportEnable = false ∨ w.mgmt.settings.reportFar = false →
    flow0 = w.mgmt.flow0Queue.take 8 ∧ t.mgmt.flow0Queue = w.mgmt.flow0Queue.drop 8
  far : w.mgmt.settings.reportEnable = true → w.mgmt.settings.reportFar = true →
    (∃ e : Fin 20, e ≠ EventId.mgmtDrop.num ∧ w.waits e) → w.mgmt.flow0Queue.length < 16 →
    ∃ c : CellData, c.record.take 4 = [3, 0] ++ bytesOf 2 n.toNat ∧
      flow0.length ≤ 8 ∧ flow0 ++ t.mgmt.flow0Queue = w.mgmt.flow0Queue ++ [c]
  near : w.mgmt.settings.reportEnable = true → w.mgmt.settings.reportNear = true →
    (∃ e : Fin 20, e ≠ EventId.mgmtDrop.num ∧ w.waits e) → w.mgmt.portQueue.length < 16 →
    ∃ c : CellData, t.mgmt.portQueue = w.mgmt.portQueue ++ [c] ∧
      c.record.take 4 = [3, 0] ++ bytesOf 2 n.toNat

theorem State.reportOf_reported (w : State) (n : Superframe) (first : Bool) (raisings : EventUnit)
    (late : Fin 20 → Bool) :
    ∃ flow0, Reported w (w.reportOf n first raisings late) n flow0 raisings late := by
  obtain ⟨queue, judged, marks⟩ := w.judge_kept n
  obtain ⟨flow0, drained⟩ := (w.judge n).1.drainAndPlace_drained (w.judge n).2 first
  have port : (w.reportOf n first raisings late).mgmt.portQueue = (w.judge n).1.mgmt.portQueue ∧
      (w.reportOf n first raisings late).mgmt.portDrops = (w.judge n).1.mgmt.portDrops := by
    have mgmt : (w.reportOf n first raisings late).mgmt =
      ((w.judge n).1.drainAndPlace (w.judge n).2 first).mgmt := rfl
    rw [mgmt, drained.mgmt]
    exact ⟨rfl, rfl⟩
  refine ⟨flow0, drained.batch.trans ?_, fun b => (drained.tx b).trans ?_, ?_,
    fun e flag isLate => ?_, fun e other isEarly => ?_, fun off => ?_, fun off => ?_,
    fun enabled far ⟨e, other, waits⟩ room => ?_, fun enabled near ⟨e, other, waits⟩ room => ?_⟩
  · simp [State.batchCells]
  · cases b <;> simp [State.batchCells, State.tx]
  · rw [port.1, port.2]
    exact drained.mgmt.trans (by rw [judged]; rfl)
  · exact (EventUnit.takeRaisings_read ..).trans (by simp [flag, isLate])
  · have read : (w.reportOf n first raisings late).events.event.read e =
        (w.judge n).1.events.event.read e :=
      ((EventUnit.takeRaisings_read ..).trans (by simp [isEarly])).trans (drained.events e other)
    rw [read]
    exact marks e other
  · have quiet := State.judge_of_not_reports (w.events.reports_off off) n
    obtain ⟨-, mgmt, -⟩ := drained.alone (by rw [quiet])
    refine ⟨mgmt.trans (by rw [quiet]), ?_⟩
    exact (EventUnit.takeRaisings_routineCount ..).trans (drained.routine.trans (by rw [quiet]))
  · obtain ⟨taken, mgmt, -⟩ := drained.alone (State.judge_no_far off n)
    exact ⟨taken.trans (by rw [queue]),
      (congrArg ManagementUnit.flow0Queue mgmt).trans (by rw [queue])⟩
  · obtain ⟨c, notice, record⟩ := State.judge_far waits other enabled far n
    exact ⟨c, record, drained.short, by
      rw [← queue]; exact drained.joined c notice (by rwa [queue])⟩
  · obtain ⟨c, joined, record⟩ := State.judge_near waits other enabled near room n
    exact ⟨c, port.1.trans joined, record⟩

/-- A superframe start that the routine count counts is the blocks' shares, with the raisings that
are taken early, and then the report. -/
theorem State.superframeStart_eq_reportOf (s : State) (n : Superframe) :
    ∃ (first : Bool) (late : Fin 20 → Bool),
      let shared := (s.collectingStart n).sharesAtStart n
      s.superframeStart n true =
        (shared.withEvents
          (s.takeOwed.events.takeRaisings shared.events fun e => !late e)).countRoutine.reportOf n
          first shared.events late :=
  ⟨_, _, rfl⟩

end Sys2Proof.Machine
end

section
/-! SUPPORT. A superframe start at which nothing falls in an open order (R2, R34, R44 to R59, R65 to
R71, R90, R123, R136 to R139, R150, R176 to R182): what its parts leave in each block. -/

namespace Sys2Proof.Machine

/-! ### The swap, the grade and the plan (R34, R67, R71) -/

theorem State.swapAtStart_eq (s : State) (n : Superframe) :
    (s.swapAtStart n).1 = if s.table.pendingSwap = some n then s.executeSwap n else s := by
  unfold State.swapAtStart
  split
  · next x pending =>
    by_cases same : x = n
    · simp [same, pending]
    · simp [same, pending]
  · next idle => simp [idle]

theorem State.absenceAtStart_swapAtStart (s : State) (n : Superframe) :
    (s.absenceAtStart.1.swapAtStart n).1 = if s.table.pendingSwap = some n then
      s.absenceAtStart.1.executeSwap n else s.absenceAtStart.1 :=
  s.absenceAtStart.1.swapAtStart_eq n

theorem State.planAtStart_batch (s : State) (n : Superframe) :
    (s.planAtStart n).batch = if s.table.pendingSwap = some n then
      s.batch.atSwap (classifyFlow s.table.activeBank s.table.shadowBank) else s.batch := by
  simp only [State.planAtStart, State.recomputeIf_batch, State.gradeTakesEffect_batch]
  rw [State.absenceAtStart_swapAtStart]
  split
  · exact State.executeSwap_batch ..
  · rfl

theorem State.planAtStart_merge (s : State) (n : Superframe) :
    (s.planAtStart n).merge = if s.table.pendingSwap = some n then
      s.merge.flushFlows (endedInbound (classifyFlow s.table.activeBank s.table.shadowBank))
    else s.merge := by
  simp only [State.planAtStart, State.recomputeIf_merge, State.gradeTakesEffect_merge]
  rw [State.absenceAtStart_swapAtStart]
  split
  · exact State.executeSwap_merge ..
  · rfl

theorem State.planAtStart_tally (s : State) (n : Superframe) :
    (s.planAtStart n).tally = if s.table.pendingSwap = some n then
      s.tally.atSwap (hasInboundTally s.table.shadowBank) s.mgmt.settings.tallyLoss
    else s.tally := by
  simp only [State.planAtStart, State.recomputeIf_tally, State.gradeTakesEffect_tally]
  rw [State.absenceAtStart_swapAtStart]
  split
  · exact State.executeSwap_tally ..
  · rfl

theorem State.planAtStart_expired (s : State) (n : Superframe) :
    (s.planAtStart n).expired = if s.table.pendingSwap = some n then
      (s.absenceAtStart.1.executeSwap n).expired else s.expired := by
  simp only [State.planAtStart, State.recomputeIf_expired, State.gradeTakesEffect_expired]
  rw [State.absenceAtStart_swapAtStart]
  split <;> rfl

/-- A swap judges every hold by what it leaves (R123). -/
theorem State.executeSwap_expired (s : State) (x : Superframe) {f : Flow}
    (none : s.expired.read f = false) :
    (s.executeSwap x).expired.read f = (s.executeSwap x).expiryDue f := by
  have due {u : State} (before : MergeUnit) (e : EventUnit) (idle : u.expired.read f = false) :
      ((u.followHolds before).withEvents e).expired.read f =
        ((u.followHolds before).withEvents e).expiryDue f := by
    rw [State.withEvents_expired, State.followHolds_read, State.holdFollowed, idle, Bool.and_false,
      Bool.false_or]
    exact (State.expiryDue_congr f rfl rfl rfl rfl rfl rfl).symm
  exact due _ _ none

theorem State.guard_congr {s t : State} (storm : t.strike.storm = s.strike.storm)
    (settings : t.mgmt.settings = s.mgmt.settings) : t.guard = s.guard := by
  unfold State.guard
  rw [storm, settings]

/-- An expiry that stands once the plan of a start is computed is due (R123). -/
theorem State.planAtStart_expiryDue (s : State) (n : Superframe) {f : Flow}
    (none : s.expired.read f = false) (expired : (s.planAtStart n).expired.read f = true) :
    (s.planAtStart n).expiryDue f = true := by
  rw [State.planAtStart_expired] at expired
  split at expired
  · next pending =>
    rw [State.executeSwap_expired s.absenceAtStart.1 _ none] at expired
    rw [← expired]
    have merge : (s.planAtStart n).merge = (s.absenceAtStart.1.executeSwap n).merge := by
      rw [State.planAtStart_merge, if_pos pending, State.executeSwap_merge]; rfl
    have table : (s.planAtStart n).table = (s.absenceAtStart.1.executeSwap n).table := by
      rw [State.planAtStart_table, if_pos pending, State.executeSwap_table]; rfl
    refine State.expiryDue_congr f (by rw [merge]) ?_ (by simp) (by simp)
      (State.guard_congr (by simp) (by simp)) (by simp)
    unfold State.receiving State.activeEntry
    rw [table]
  · rw [none] at expired
    cases expired

/-! ### The events of the plan's part (R34, R67, R75) -/

theorem State.raiseFlows_raisedFrom (s : State) (e : EventId) (fs : List Flow) :
    s.events.RaisedFrom (s.raiseFlows e fs).events := by
  cases fs with
  | nil => exact .refl _
  | cons f fs => exact s.events.raise_raisedFrom _ _

theorem State.recomputeIf_raisedFrom (s : State) (due : Bool) :
    s.events.RaisedFrom (s.recomputeIf due).events := by
  cases due with
  | false => exact .refl _
  | true =>
    exact EventUnit.RaisedFrom.trans
      (State.raiseFlows_raisedFrom (s.withPlanner (s.planner.compute s.table.activeBank)) _ _)
      (State.raiseFlows_raisedFrom _ _ _)

theorem State.recomputeIf_read (s : State) (due : Bool) {e : Fin 20} (shed : e ≠ EventId.shed.num)
    (restore : e ≠ EventId.restore.num) :
    (s.recomputeIf due).events.event.read e = s.events.event.read e := by
  cases due with
  | false => rfl
  | true => exact s.recomputePlan_read e shed restore

theorem State.executeSwap_events (s : State) (x : Superframe) :
    (s.executeSwap x).events = s.events.raise .swapDone (.superframe x) := by
  simp [State.executeSwap]

theorem State.gradeTakesEffect_events (s : State) :
    s.gradeTakesEffect.1.events = match s.planner.awaiting with
      | none => s.events
      | some g => s.events.raise .gradeChange (.grades s.planner.grade g) := by
  unfold State.gradeTakesEffect
  cases s.planner.awaiting <;> rfl

theorem State.gradeTakesEffect_raisedFrom (s : State) :
    s.events.RaisedFrom s.gradeTakesEffect.1.events := by
  rw [State.gradeTakesEffect_events]
  cases s.planner.awaiting with
  | none => exact .refl _
  | some g => exact s.events.raise_raisedFrom _ _

theorem State.gradeTakesEffect_read (s : State) {e : Fin 20} (other : e ≠ EventId.gradeChange.num) :
    s.gradeTakesEffect.1.events.event.read e = s.events.event.read e := by
  rw [State.gradeTakesEffect_events]
  cases s.planner.awaiting with
  | none => rfl
  | some g => exact (EventUnit.raise_read ..).trans (if_neg other)

theorem State.swapAtStart_raisedFrom (s : State) (n : Superframe) :
    s.events.RaisedFrom (s.swapAtStart n).1.events := by
  rw [State.swapAtStart_eq]
  split
  · rw [State.executeSwap_events]
    exact s.events.raise_raisedFrom _ _
  · exact .refl _

theorem State.planAtStart_raisedFrom (s : State) (n : Superframe) :
    s.events.RaisedFrom (s.planAtStart n).events :=
  ((State.swapAtStart_raisedFrom s.absenceAtStart.1 n).trans
    (State.gradeTakesEffect_raisedFrom _)).trans (State.recomputeIf_raisedFrom _ _)

/-- The swap of a start is told (R34). -/
theorem State.planAtStart_swapDone {s : State} {n : Superframe}
    (pending : s.table.pendingSwap = some n) :
    (s.planAtStart n).events.event.read EventId.swapDone.num =
      EventState.raised (.superframe n) := by
  unfold State.planAtStart
  dsimp only
  rw [State.recomputeIf_read _ _ (by decide) (by decide),
    State.gradeTakesEffect_read _ (by decide), State.absenceAtStart_swapAtStart, if_pos pending,
    State.executeSwap_events, EventUnit.raise_read, if_pos rfl]

/-- The grade that takes effect at a start is told (R67). -/
theorem State.planAtStart_gradeChange {s : State} {g : Grade} (n : Superframe)
    (awaiting : s.planner.awaiting = some g) :
    (s.planAtStart n).events.event.read EventId.gradeChange.num =
      EventState.raised (.grades s.planner.grade g) := by
  have planner : (s.absenceAtStart.1.swapAtStart n).1.planner = s.absenceAtStart.1.planner :=
    State.swapAtStart_planner ..
  unfold State.planAtStart
  dsimp only
  rw [State.recomputeIf_read _ _ (by decide) (by decide), State.gradeTakesEffect_events, planner,
    s.absenceAtStart_kept.1, s.absenceAtStart_kept.2, awaiting]
  exact (EventUnit.raise_read ..).trans (if_pos rfl)

/-! ### The timers and the absences (R90, R138, R150) -/

/-- The Strike Monitor after one superframe more of a storm that does not end. -/
def StrikeMonitor.counted (m : StrikeMonitor) : StrikeMonitor :=
  { m with timer := match m.timer with
    | .stopped => .stopped
    | .running k => .running (k - 1) }

/-- The Tally Unit after one superframe more that does not end its timer. -/
def TallyUnit.counted (u : TallyUnit) : TallyUnit :=
  { u with timer := match u.timer with
    | .stopped => .stopped
    | .running k => .running (k - 1)
    | .expired => .expired }

/-- A receiver after one superframe more that does not end its absence. -/
def Receiver.counted (r : Receiver) : Receiver :=
  { r with markerAbsence := r.markerAbsence + if (r.state == .timed) = true then 1 else 0 }

@[simp] theorem StrikeMonitor.counted_storm (m : StrikeMonitor) : m.counted.storm = m.storm := by
  unfold StrikeMonitor.counted StrikeMonitor.storm
  cases m.timer <;> rfl

theorem StrikeMonitor.counted_strikesOf (m : StrikeMonitor) (pins : Pins) :
    m.counted.strikesOf pins = m.strikesOf pins := rfl

/-- At a start at which nothing ends, the timers and the absences are counted and nothing else
changes. -/
theorem State.timersAtStart_counted (s : State) (n : Superframe) (storm : s.strike.ending = false)
    (tally : s.tally.ending = false) (fibre : s.fibreRx.ending = false)
    (radio : s.radioRx.ending = false) :
    s.timersAtStart n = { s with
      strike := s.strike.counted, tally := s.tally.counted
      fibreRx := s.fibreRx.counted, radioRx := s.radioRx.counted } := by
  have stormed : s.stormStart = s.withStrike s.strike.counted := s.stormStart_timer storm
  have tallied (m : StrikeMonitor) : (s.withStrike m).tallyStart n =
      (s.withStrike m).withTally s.tally.counted := State.tallyStart_timer _ n tally
  have received (m : StrikeMonitor) (u : TallyUnit) :
      (((s.withStrike m).withTally u).receiverStart .fibre).receiverStart .radio =
        (((s.withStrike m).withTally u).withFibreRx s.fibreRx.counted).withRadioRx
          s.radioRx.counted := by
    rw [State.receiverStart_quiet _ .fibre (by exact fibre),
      State.receiverStart_quiet _ .radio (by exact radio)]
    rfl
  rw [State.timersAtStart_quiet s n storm tally fibre radio, stormed, tallied, received]
  rfl

/-! ### The transmitters (R56, R57, R59) -/

theorem Transmitter.sendOne_opened (tx : Transmitter) (m : Marker) (cells : List BatchCell) :
    Transmitter.sendOne { tx.openSuperframe with marker := some m, sendList := cells } =
      tx.opened cells (some m) 0 := rfl

theorem State.sendSlot_tx (u : State) :
    u.sendSlot.fibreTx = u.fibreTx.sendOne ∧
    u.sendSlot.radioTx =
      if radioSlotDue u.planner.grade u.radioTx.usedSlots u.clock.time.slot = true then
        { u.radioTx.sendOne with usedSlots := u.radioTx.usedSlots + 1 }
      else { u.radioTx with lane := none } := by
  unfold State.sendSlot
  dsimp only
  split <;> exact ⟨rfl, rfl⟩

/-- The radio uses the first slot of a superframe at any grade but 0 (R59). -/
theorem radioSlotDue_first (g : Grade) (slot : Slot) :
    radioSlotDue g 0 slot = !decide (g = 0) := by
  by_cases silent : g = 0
  · simp [silent, radioSlotDue]
  · have sends : 0 < g.toNat := by bv_omega
    rw [decide_eq_false silent]
    simp [radioSlotDue, sends]

/-! ### The start of a superframe, block by block -/

/-- The part as link time stands at `time` with the levels `pins`, on a new occasion. -/
def State.standAt (s : State) (time : LinkTime) (pins : Pins) : State :=
  ((s.withPins pins).nextOccasion).setTime time

/-- The part as the blocks' shares of the superframe start at `time` find it, the Event Unit set to
collect. -/
def State.startAt (s : State) (time : LinkTime) (pins : Pins) : State :=
  { s with
    pins := pins, occasion := s.occasion + 1
    clock := { s.clock with time := time, lastStarted := time.sf }
    events := s.events.collecting }

/-- The part after the blocks' shares of the superframe start at `time`. -/
def State.sharedAt (s : State) (time : LinkTime) (pins : Pins) : State :=
  (s.startAt time pins).sharesAtStart time.sf

/-- The part after the superframe start at `time`, before the lines are sampled. -/
def State.startedAt (s : State) (time : LinkTime) (pins : Pins) : State :=
  (s.standAt time pins).superframeStart time.sf true

/-- The part after the superframe start at `time` and the filtering of the lines. -/
def State.filteredAt (s : State) (time : LinkTime) (pins : Pins) : State :=
  (s.startedAt time pins).withStrike { s.strike.counted with
    lineA := (s.strike.lineA.take pins.strikeA).1
    lineB := (s.strike.lineB.take pins.strikeB).1 }

/-- The part after the slot entry that starts the superframe at `time`: the holds judged and the
first slot of each lane sent. -/
def State.enteredAt (s : State) (time : LinkTime) (pins : Pins) : State :=
  (s.filteredAt time pins).judgeHolds.sendSlot

/-- The part with its plan computed and its timers and absences counted for the start at `time`. -/
def State.countedAt (s : State) (time : LinkTime) (pins : Pins) : State :=
  { (s.startAt time pins).planAtStart time.sf with
    strike := s.strike.counted
    tally := ((s.startAt time pins).planAtStart time.sf).tally.counted
    fibreRx := s.fibreRx.counted, radioRx := s.radioRx.counted }

/-- The part with its send lists open for the superframe that starts at `time` (R56, R57). -/
def State.openedAt (s : State) (time : LinkTime) (pins : Pins) : State :=
  (s.countedAt time pins).sampleGrade.openTransmitters time.sf

/-- What the report of the start at `time` judges: what the batches left, with the raisings that are
not taken late, and the start counted (R176, R182). -/
def State.reportAt (s : State) (time : LinkTime) (pins : Pins) (late : Fin 20 → Bool) : State :=
  ((s.openedAt time pins).formBatches.withEvents (s.events.takeRaisings
    (s.openedAt time pins).formBatches.events fun e => !late e)).countRoutine

section Opened
variable (s : State) (time : LinkTime) (pins : Pins)

@[simp] theorem State.startAt_mgmt : (s.startAt time pins).mgmt = s.mgmt := rfl
@[simp] theorem State.startAt_pins : (s.startAt time pins).pins = pins := rfl
@[simp] theorem State.startAt_fibreTx : (s.startAt time pins).fibreTx = s.fibreTx := rfl
@[simp] theorem State.startAt_radioTx : (s.startAt time pins).radioTx = s.radioTx := rfl
@[simp] theorem State.startAt_strike : (s.startAt time pins).strike = s.strike := rfl

@[simp] theorem State.openedAt_clock : (s.openedAt time pins).clock =
    { s.clock with time := time, lastStarted := time.sf } := by
  simp [State.openedAt, State.countedAt, State.startAt]

@[simp] theorem State.openedAt_table : (s.openedAt time pins).table =
    if s.table.pendingSwap = some time.sf then s.table.swapped else s.table := by
  simp [State.openedAt, State.countedAt, State.startAt, State.planAtStart_table]

@[simp] theorem State.openedAt_activeBank :
    (s.openedAt time pins).table.activeBank = s.bankAt time.sf := by
  rw [State.bankAt, State.openedAt_table]
  split <;> simp

@[simp] theorem State.openedAt_ingress : (s.openedAt time pins).ingress = s.ingress := by
  simp [State.openedAt, State.countedAt, State.startAt]

@[simp] theorem State.openedAt_mgmt : (s.openedAt time pins).mgmt = s.mgmt := by
  simp [State.openedAt, State.countedAt, State.startAt]

@[simp] theorem State.openedAt_batch : (s.openedAt time pins).batch =
    if s.table.pendingSwap = some time.sf then
      s.batch.atSwap (classifyFlow s.table.activeBank s.table.shadowBank) else s.batch := by
  simp [State.openedAt, State.countedAt, State.startAt, State.planAtStart_batch]

@[simp] theorem State.openedAt_planner : (s.openedAt time pins).planner =
    (s.plannerAt time.sf).takeSample s.mgmt.settings.gradeDown s.mgmt.settings.gradeUp
      s.strike.storm pins.grade := by
  have planner : (s.startAt time pins).plannerAt time.sf = s.plannerAt time.sf := rfl
  simp [State.openedAt, State.countedAt, State.sampleGrade, State.planAtStart_planner, planner]

@[simp] theorem State.openedAt_rx (b : Bearer) :
    (s.openedAt time pins).rx b = (s.rx b).counted := by
  cases b <;> simp [State.rx, State.openedAt, State.countedAt]

@[simp] theorem State.openedAt_skew : (s.openedAt time pins).skew = s.skew := by
  simp [State.openedAt, State.countedAt, State.startAt]

@[simp] theorem State.openedAt_merge : (s.openedAt time pins).merge =
    if s.table.pendingSwap = some time.sf then
      s.merge.flushFlows (endedInbound (classifyFlow s.table.activeBank s.table.shadowBank))
    else s.merge := by
  simp [State.openedAt, State.countedAt, State.startAt, State.planAtStart_merge]

@[simp] theorem State.openedAt_strike : (s.openedAt time pins).strike = s.strike.counted := by
  simp [State.openedAt, State.countedAt]

@[simp] theorem State.openedAt_tally : (s.openedAt time pins).tally =
    (if s.table.pendingSwap = some time.sf then
      s.tally.atSwap (hasInboundTally s.table.shadowBank) s.mgmt.settings.tallyLoss
    else s.tally).counted := by
  simp [State.openedAt, State.countedAt, State.startAt, State.planAtStart_tally]

@[simp] theorem State.openedAt_owed : (s.openedAt time pins).owed = s.owed := by
  simp [State.openedAt, State.countedAt, State.startAt]

/-- The marker of the superframe that starts (R57). -/
theorem State.openedAt_tx :
    let m : Marker :=
      ⟨time.sf, s.timed .fibre, s.timed .radio, (s.openedAt time pins).planner.grade⟩
    (s.openedAt time pins).fibreTx = { s.fibreTx.openSuperframe with marker := some m } ∧
    (s.openedAt time pins).radioTx = { s.radioTx.openSuperframe with
      marker := if (s.openedAt time pins).planner.grade = 0 then none else some m } := by
  have marker : (s.countedAt time pins).sampleGrade.buildMarker time.sf =
      ⟨time.sf, s.timed .fibre, s.timed .radio, (s.openedAt time pins).planner.grade⟩ := by
    simp [State.buildMarker, State.openedAt, State.timed, State.rx, State.countedAt,
      Receiver.counted]
  have grade : (s.countedAt time pins).sampleGrade.planner.grade =
      (s.openedAt time pins).planner.grade := by simp [State.openedAt]
  rw [← marker, ← grade]
  simp [State.openedAt, State.openTransmitters, State.countedAt]

/-- An expiry that stands once the send lists are open is due (R123). -/
theorem State.openedAt_expiryDue {f : Flow} (idle : s.expired.read f = false)
    (expired : (s.openedAt time pins).expired.read f = true) :
    (s.openedAt time pins).expiryDue f = true := by
  have kept : (s.openedAt time pins).expired =
      ((s.startAt time pins).planAtStart time.sf).expired := by
    simp [State.openedAt, State.countedAt]
  rw [kept] at expired
  rw [← State.planAtStart_expiryDue (s.startAt time pins) time.sf idle expired]
  refine State.expiryDue_congr f ?_ ?_ ?_ ?_ (State.guard_congr ?_ ?_) ?_
  all_goals simp [State.openedAt, State.countedAt, State.receiving, State.activeEntry]

theorem State.openedAt_events : (s.openedAt time pins).events =
    ((s.startAt time pins).planAtStart time.sf).events := by
  simp [State.openedAt, State.countedAt]

theorem State.openedAt_raisedFrom :
    s.events.collecting.RaisedFrom (s.openedAt time pins).events := by
  rw [State.openedAt_events]
  exact (s.startAt time pins).planAtStart_raisedFrom time.sf

@[simp] theorem State.reportAt_mgmt (late : Fin 20 → Bool) :
    (s.reportAt time pins late).mgmt = s.mgmt := by
  simp [State.reportAt]

@[simp] theorem State.reportAt_tx (late : Fin 20 → Bool) (b : Bearer) :
    (s.reportAt time pins late).tx b = (s.openedAt time pins).formBatches.tx b := by
  cases b <;> simp [State.tx, State.reportAt]

@[simp] theorem State.reportAt_batch (late : Fin 20 → Bool) :
    (s.reportAt time pins late).batch = (s.openedAt time pins).formBatches.batch := by
  simp [State.reportAt]

theorem State.reportAt_routineCount (late : Fin 20 → Bool) :
    (s.reportAt time pins late).events.routineCount = min 1024 (s.events.routineCount + 1) := rfl

theorem State.reportAt_read (late : Fin 20 → Bool) (e : Fin 20) :
    (s.reportAt time pins late).events.event.read e =
      if (((s.openedAt time pins).formBatches.events.event.read e).flag && !late e) = true then
        (s.openedAt time pins).formBatches.events.event.read e
      else s.events.event.read e :=
  EventUnit.takeRaisings_read ..

/-- An event that waits before a start waits at its judging (R179, R182). -/
theorem State.reportAt_waits {e : Fin 20} (h : s.reportWaits e) (late : Fin 20 → Bool) :
    (s.reportAt time pins late).waits e := by
  obtain ⟨unreported, enabled, due⟩ := h
  unfold State.waits
  rw [State.reportAt_mgmt, State.reportAt_routineCount, State.reportAt_read]
  refine ⟨?_, enabled, due⟩
  have raised := (s.openedAt_raisedFrom time pins).trans
    (s.openedAt time pins).formBatches_frame.raised
  split
  · next taken =>
    rcases raised e with same | ⟨d, fresh⟩
    · simp [same, EventUnit.collecting, EventState.powerOn] at taken
    · rw [fresh]; rfl
  · exact unreported

end Opened

section Start
variable {s : State} {time : LinkTime} {pins : Pins} (noneOwed : s.owed = [])
  (ranges : s.rangesKept) (quiet : s.quietStart pins)

section Shares
include ranges quiet

/-- The shares of a start at which nothing ends, one after the other. -/
theorem State.sharedAt_eq : s.sharedAt time pins = (s.openedAt time pins).formBatches := by
  obtain ⟨storm, tally, fibre, radio, -⟩ := quiet
  obtain ⟨⟨-, -, -, -, -, ⟨loss, -⟩, -⟩, -⟩ := ranges
  have governed : ((s.startAt time pins).planAtStart time.sf).tally.ending = false :=
    State.planAtStart_tally_ending _ _ tally (Nat.le_trans (by decide) loss)
  have counted := State.timersAtStart_counted ((s.startAt time pins).planAtStart time.sf) time.sf
    (by rw [State.planAtStart_strike]; exact storm) governed
    (by rw [State.planAtStart_fibreRx]; exact fibre)
    (by rw [State.planAtStart_radioRx]; exact radio)
  rw [State.planAtStart_strike, State.planAtStart_fibreRx, State.planAtStart_radioRx] at counted
  unfold State.sharedAt State.sharesAtStart
  rw [counted]
  rfl

end Shares

include noneOwed in
theorem State.collectingStart_standAt :
    (s.standAt time pins).collectingStart time.sf = s.startAt time pins := by
  have settled : (s.standAt time pins).takeOwed = s.standAt time pins :=
    State.takeOwed_nil _ noneOwed
  unfold State.collectingStart
  rw [settled]
  rfl

/-- The send lists at a start: the batches', and then flow 0's. -/
theorem State.startedAt_tx {flow0 : List CellData} {late : Fin 20 → Bool}
    (reported : Reported (s.reportAt time pins late) (s.startedAt time pins) time.sf flow0
      (s.openedAt time pins).formBatches.events late)
    (b : Bearer) :
    (s.startedAt time pins).tx b = { (s.openedAt time pins).tx b with
      sendList := ((s.openedAt time pins).formBatches.tx b).sendList ++
        numberCells 0 ((s.openedAt time pins).formBatches.batch.flow.read 0).sequence flow0 } := by
  have placed (inPlan : Bool) : placedOn b .both inPlan = true := by cases b <;> rfl
  rw [reported.tx b, State.batchCells_eq_tx, placed, if_pos rfl, State.reportAt_tx,
    State.reportAt_batch]
  conv_lhs => rw [(s.openedAt time pins).formBatches_frame.tx b]

include noneOwed ranges quiet

/-- The blocks that the report leaves alone, after the start at `time`. -/
theorem State.startedAt_kept :
    let o := s.openedAt time pins
    let t := s.startedAt time pins
    t.clock = o.clock ∧ t.table = o.table ∧ t.ingress = o.formBatches.ingress ∧
    t.planner = o.planner ∧ (∀ b, t.rx b = o.rx b) ∧ t.skew = o.skew ∧ t.merge = o.merge ∧
    t.strike = o.strike ∧ t.tally = o.tally ∧ t.owed = o.owed ∧ t.expired = o.expired := by
  intro o t
  have shares : ((s.standAt time pins).collectingStart time.sf).sharesAtStart time.sf =
      o.formBatches := by
    rw [State.collectingStart_standAt noneOwed]
    exact State.sharedAt_eq ranges quiet
  have kept := (s.standAt time pins).superframeStart_shares time.sf true
  have expired : t.expired = o.formBatches.expired := by
    rw [← shares]
    simp [t, State.startedAt, State.superframeStart, State.collectingStart]
  rw [shares] at kept
  obtain ⟨clock, table, ingress, planner, fibreRx, radioRx, skew, merge, strike, tally, owed, -⟩ :=
    kept
  refine ⟨clock.trans o.formBatches_clock, table.trans o.formBatches_table, ingress,
    planner.trans o.formBatches_planner, fun b => ?_, skew.trans o.formBatches_skew,
    merge.trans o.formBatches_merge, strike.trans o.formBatches_strike,
    tally.trans o.formBatches_tally, owed.trans o.formBatches_owed,
    expired.trans o.formBatches_expired⟩
  cases b with
  | fibre => exact fibreRx.trans o.formBatches_fibreRx
  | radio => exact radioRx.trans o.formBatches_radioRx

/-- The report of the start at `time`, made of what the batches left and the raisings that are taken
early (R182). -/
theorem State.startedAt_reported : ∃ (flow0 : List CellData) (late : Fin 20 → Bool),
    Reported (s.reportAt time pins late) (s.startedAt time pins) time.sf flow0
      (s.openedAt time pins).formBatches.events late := by
  obtain ⟨first, late, started⟩ := (s.standAt time pins).superframeStart_eq_reportOf time.sf
  have settled : (s.standAt time pins).takeOwed = s.standAt time pins :=
    State.takeOwed_nil _ noneOwed
  have shares : (s.startAt time pins).sharesAtStart time.sf = _ := State.sharedAt_eq ranges quiet
  rw [State.collectingStart_standAt noneOwed, shares, settled] at started
  unfold State.startedAt
  rw [started]
  obtain ⟨flow0, reported⟩ := State.reportOf_reported _ time.sf first _ late
  exact ⟨flow0, late, reported⟩

/-- At samples that complete no strike the slot is entered with the start, the lines are only
filtered, the holds are judged and the transmitters send. -/
theorem State.enterSlot_started :
    (s.standAt time pins).enterSlot (some time.sf) = s.enteredAt time pins := by
  obtain ⟨-, -, -, -, -, -, -, strike, -⟩ :=
    State.startedAt_kept (time := time) noneOwed ranges quiet
  rw [State.openedAt_strike] at strike
  obtain ⟨-, -, -, -, strikes⟩ := quiet
  have none : (s.standAt time pins).strikeComes = false := by
    simp [State.strikeComes, State.standAt, strikes]
  have level : (s.startedAt time pins).pins = pins := by
    simp [State.startedAt, State.standAt]
  have filtered := (s.startedAt time pins).sampleStrikes_quiet (by
    rw [strike, level, StrikeMonitor.counted_strikesOf]; exact strikes)
  rw [strike, level] at filtered
  unfold State.enterSlot
  simp only [none, Bool.false_and, Bool.false_eq_true, if_false]
  exact congrArg (fun u => u.judgeHolds.sendSlot) filtered

/-- A raising of the plan's part reaches the Event Unit before the judging or after it (R182). -/
theorem State.startedAt_tells {e : Fin 20} {d : EventDetail} (drop : e ≠ EventId.mgmtDrop.num)
    (silent : e ≠ EventId.sourceSilent.num)
    (raised : (s.openedAt time pins).events.event.read e = EventState.raised d) :
    ((s.startedAt time pins).events.event.read e).flag = true ∧
    ((s.startedAt time pins).events.event.read e).detail = some d := by
  obtain ⟨flow0, late, reported⟩ := State.startedAt_reported (time := time) noneOwed ranges quiet
  have told : (s.openedAt time pins).formBatches.events.event.read e = EventState.raised d :=
    ((State.formBatches_frame _).events e silent).trans raised
  cases isLate : late e with
  | true =>
    rw [reported.told e (by rw [told]; rfl) isLate, told]
    exact ⟨rfl, rfl⟩
  | false =>
    obtain ⟨flag, detail⟩ := reported.kept e drop isLate
    have early : (s.reportAt time pins late).events.event.read e = EventState.raised d := by
      rw [State.reportAt_read, told, isLate]; rfl
    rw [flag, detail, early]
    exact ⟨rfl, rfl⟩

end Start

end Sys2Proof.Machine
end

section
/-! SUPPORT. The slot entry that starts a superframe at which nothing falls in an open order (R1,
R2), put together from its blocks into `SuperframeStarted`; and the proof about FAR_MARKER_ABSENCE,
which is such an entry. -/

namespace Sys2Proof.Machine

/-! ### The slot that starts a superframe -/

theorem BatchUnit.atSwap_batched (u : BatchUnit) (change : Flow → Classification) (f : Flow) :
    ((u.atSwap change).flow.read f).batched = (u.flow.read f).batched := by
  simp only [BatchUnit.atSwap, Tab.read_build]
  split <;> rfl

/-- A cell of the Tally Source's lamp states, padded, is a tally cell (R50, R183). -/
theorem tallyCellOf_paddedCell (lamps : Tab 8 LampState) (k : Nat) :
    tallyCellOf lamps (paddedCell k (lampBytes lamps)) := by
  have bytes := lampBytes_length lamps
  refine ⟨by rw [paddedCell_len, bytes], paddedCell_payload_length k _ (by omega), ?_⟩
  rw [← bytes]
  exact List.take_left

theorem Transmitter.opened_sendList (tx : Transmitter) (cells : List BatchCell)
    (m : Option Marker) (n : Nat) : (tx.opened cells m n).sendList = cells := rfl

/-- What the radio sends of its first slot: its marker, or nothing at grade 0 (R57, R59). -/
theorem Transmitter.radioSlot_opened (tx : Transmitter) (m : Marker) (cells : List BatchCell)
    (grade : Grade) (slot : Slot) :
    let u : Transmitter := { tx.openSuperframe with
      marker := if grade = 0 then none else some m, sendList := cells }
    (if radioSlotDue grade u.usedSlots slot = true then
        { u.sendOne with usedSlots := u.usedSlots + 1 }
      else { u with lane := none }) =
      tx.opened cells (if grade = 0 then none else some m) (if grade = 0 then 0 else 1) := by
  intro u
  have due : radioSlotDue grade u.usedSlots slot = !decide (grade = 0) := radioSlotDue_first ..
  rw [due]
  by_cases silent : grade = 0
  · subst silent
    rfl
  · simp only [u, silent, decide_false, Bool.not_false, if_true, if_false]
    rw [Transmitter.sendOne_opened]
    rfl

theorem State.tx_fibre (s : State) : s.tx .fibre = s.fibreTx := rfl
theorem State.tx_radio (s : State) : s.tx .radio = s.radioTx := rfl

section Parts
variable (s : State) (time : LinkTime) (pins : Pins)

theorem State.openedAt_sequence (f : Flow) :
    ((s.openedAt time pins).batch.flow.read f).sequence = s.sequenceAt time.sf f := by
  rw [State.openedAt_batch, State.sequenceAt]
  by_cases pending : s.table.pendingSwap = some time.sf
  · simp [pending, BatchUnit.atSwap_sequence]
  · simp [pending]

theorem State.openedAt_batched (f : Flow) :
    ((s.openedAt time pins).batch.flow.read f).batched = (s.batch.flow.read f).batched := by
  rw [State.openedAt_batch]
  split
  · exact BatchUnit.atSwap_batched ..
  · rfl

theorem State.openedAt_tallySource :
    (s.openedAt time pins).batch.tallySource = s.batch.tallySource := by
  rw [State.openedAt_batch]
  split <;> rfl

theorem State.openedAt_sendList (b : Bearer) : ((s.openedAt time pins).tx b).sendList = [] := by
  obtain ⟨fibre, radio⟩ := s.openedAt_tx time pins
  cases b with
  | fibre => exact (congrArg Transmitter.sendList fibre).trans rfl
  | radio => exact (congrArg Transmitter.sendList radio).trans rfl

theorem State.openedAt_activeEntry (f : Flow) :
    (s.openedAt time pins).activeEntry f = (s.bankAt time.sf).read f := by
  rw [State.activeEntry, State.openedAt_activeBank]

/-- The batch as the part stands with the send lists open is the batch of the superframe. -/
theorem State.openedAt_batchNow (tally : Flow → CellData) (f : Flow) :
    (s.openedAt time pins).batchNow tally f = s.batchAt time.sf tally f := by
  rw [State.batchNow, State.openedAt_activeEntry, State.openedAt_ingress]
  rfl

theorem State.openedAt_cellsNow (tally : Flow → CellData) (b : Bearer) (f : Flow) :
    (s.openedAt time pins).cellsNow tally b f =
      s.cellsAt time.sf tally (s.openedAt time pins).planner.plan b f := by
  rw [State.cellsNow, State.openedAt_activeEntry, State.openedAt_sequence, State.openedAt_batchNow]
  rfl

/-- The rate drawn from a tributary, once the send lists are open. -/
theorem State.openedAt_rateOver (k : Trib) :
    (s.openedAt time pins).rateOver userFlows k = drawnFrom (s.bankAt time.sf) k := by
  rw [drawnFrom_eq, State.rateOver]
  simp only [State.openedAt_activeEntry]

/-- The bank that governs a start passes the check (R30, R34). -/
theorem State.bankAt_pass {s : State} (lawful : s.table.lawful) (n : Superframe) :
    consistencyCheck (s.bankAt n) = .pass := by
  obtain ⟨-, -, active, shadow⟩ := lawful
  unfold State.bankAt
  split
  · next pending => exact shadow (by simp [pending])
  · exact active

/-- The blocks that the report changes, once the slot is entered. -/
theorem State.enteredAt_reported :
    (s.enteredAt time pins).batch = (s.startedAt time pins).batch ∧
    (s.enteredAt time pins).mgmt = (s.startedAt time pins).mgmt ∧
    (s.enteredAt time pins).events = (s.startedAt time pins).events := by
  simp [State.enteredAt, State.filteredAt]

end Parts

section Entered
variable {s : State} {time : LinkTime} {pins : Pins} (noneOwed : s.owed = [])
  (ranges : s.rangesKept) (quiet : s.quietStart pins)
include noneOwed ranges quiet

/-- The blocks that the end of a slot entry leaves alone, after the start at `time`. -/
theorem State.enteredAt_kept :
    let o := s.openedAt time pins
    let t := s.enteredAt time pins
    t.clock = o.clock ∧ t.table = o.table ∧ t.ingress = o.formBatches.ingress ∧
    t.planner = o.planner ∧ (∀ b, t.rx b = o.rx b) ∧ t.skew = o.skew ∧ t.merge = o.merge ∧
    t.tally = o.tally ∧ t.owed = o.owed := by
  obtain ⟨clock, table, ingress, planner, rx, skew, merge, -, tally, owed, -⟩ :=
    State.startedAt_kept (time := time) noneOwed ranges quiet
  have entered (b : Bearer) : (s.enteredAt time pins).rx b = (s.startedAt time pins).rx b := by
    cases b <;> simp [State.rx, State.enteredAt, State.filteredAt]
  refine ⟨?_, ?_, ?_, ?_, fun b => (entered b).trans (rx b), ?_, ?_, ?_, ?_⟩
  all_goals simp [State.enteredAt, State.filteredAt, clock, table, ingress, planner, skew, merge,
    tally, owed]

/-- The transmitters once the first slot of each lane is sent. -/
theorem State.enteredAt_tx :
    let grade := (s.openedAt time pins).planner.grade
    let m : Marker := ⟨time.sf, s.timed .fibre, s.timed .radio, grade⟩
    (s.enteredAt time pins).fibreTx =
      s.fibreTx.opened ((s.startedAt time pins).tx .fibre).sendList (some m) 0 ∧
    (s.enteredAt time pins).radioTx =
      s.radioTx.opened ((s.startedAt time pins).tx .radio).sendList
        (if grade = 0 then none else some m) (if grade = 0 then 0 else 1) := by
  intro grade m
  obtain ⟨flow0, late, reported⟩ := State.startedAt_reported (time := time) noneOwed ranges quiet
  obtain ⟨-, -, -, planner, -⟩ := State.startedAt_kept (time := time) noneOwed ranges quiet
  obtain ⟨fibre, radio⟩ := s.openedAt_tx time pins
  have listed (b : Bearer) : (s.startedAt time pins).tx b = { (s.openedAt time pins).tx b with
      sendList := ((s.startedAt time pins).tx b).sendList } := by
    rw [State.startedAt_tx reported b]
  have fibreTx : (s.startedAt time pins).fibreTx = { s.fibreTx.openSuperframe with
      marker := some m, sendList := ((s.startedAt time pins).tx .fibre).sendList } := by
    refine (listed .fibre).trans ?_
    rw [State.tx, fibre]
  have radioTx : (s.startedAt time pins).radioTx = { s.radioTx.openSuperframe with
      marker := if grade = 0 then none else some m
      sendList := ((s.startedAt time pins).tx .radio).sendList } := by
    refine (listed .radio).trans ?_
    rw [State.tx, radio]
  obtain ⟨sentFibre, sentRadio⟩ := State.sendSlot_tx (s.filteredAt time pins).judgeHolds
  refine ⟨sentFibre.trans ?_, sentRadio.trans ?_⟩
  · rw [State.judgeHolds_fibreTx, State.filteredAt, State.withStrike_fibreTx, fibreTx]
    exact Transmitter.sendOne_opened ..
  · rw [State.judgeHolds_radioTx, State.filteredAt, State.withStrike_radioTx,
      State.judgeHolds_planner, State.withStrike_planner, planner, radioTx]
    exact Transmitter.radioSlot_opened ..

theorem State.enteredAt_sendList (b : Bearer) :
    ((s.enteredAt time pins).tx b).sendList = ((s.startedAt time pins).tx b).sendList := by
  obtain ⟨fibreTx, radioTx⟩ := State.enteredAt_tx (time := time) noneOwed ranges quiet
  cases b with
  | fibre => rw [State.tx_fibre (s.enteredAt time pins), fibreTx, Transmitter.opened_sendList]
  | radio => rw [State.tx_radio (s.enteredAt time pins), radioTx, Transmitter.opened_sendList]

/-- Every hold is judged by what the slot entry leaves (R123). -/
theorem State.enteredAt_expired {f : Flow} (idle : s.expired.read f = false) :
    (s.enteredAt time pins).expired.read f = (s.enteredAt time pins).expiryDue f := by
  obtain ⟨flow0, late, reported⟩ := State.startedAt_reported (time := time) noneOwed ranges quiet
  obtain ⟨clock, table, -, -, -, skew, merge, -, -, -, expired⟩ :=
    State.startedAt_kept (time := time) noneOwed ranges quiet
  have settings : (s.startedAt time pins).mgmt.settings = s.mgmt.settings := by
    rw [reported.mgmt, State.reportAt_mgmt]
  have storm : (s.filteredAt time pins).strike.storm = s.strike.counted.storm := rfl
  have filtered : (s.filteredAt time pins).expiryDue f = (s.openedAt time pins).expiryDue f := by
    refine State.expiryDue_congr f ?_ ?_ ?_ ?_ (State.guard_congr (storm.trans ?_) ?_) ?_
    all_goals simp [State.filteredAt, State.receiving, State.activeEntry, clock, table, skew, merge,
      settings]
  have due : (s.enteredAt time pins).expiryDue f = (s.filteredAt time pins).expiryDue f := by
    refine State.expiryDue_congr f ?_ ?_ ?_ ?_ (State.guard_congr ?_ ?_) ?_
    all_goals simp [State.enteredAt, State.receiving, State.activeEntry]
  have judged : (s.enteredAt time pins).expired.read f =
      ((s.openedAt time pins).expired.read f || (s.filteredAt time pins).expiryDue f) := by
    rw [State.enteredAt, State.sendSlot_expired, State.judgeHolds_read, State.holdExpired,
      State.filteredAt, State.withStrike_expired, expired]
  rw [judged, due, filtered]
  cases stands : (s.openedAt time pins).expired.read f with
  | false => rfl
  | true => rw [s.openedAt_expiryDue time pins idle stands]; rfl

/-- The batches of a start, formed by the bank that governs it, and flow 0's after them. -/
theorem State.enteredAt_batchesFormed {tally : Flow → CellData} {flow0 : List CellData}
    {late : Fin 20 → Bool}
    (formed : BatchedOver (s.openedAt time pins) (s.openedAt time pins).formBatches userFlows tally)
    (reported : Reported (s.reportAt time pins late) (s.startedAt time pins) time.sf flow0
      (s.openedAt time pins).formBatches.events late) :
    BatchesFormed s (s.enteredAt time pins) time.sf tally flow0 := by
  obtain ⟨-, -, ingress, planner, -⟩ := State.enteredAt_kept (time := time) noneOwed ranges quiet
  have batch (f : Flow) : (s.enteredAt time pins).batch.flow.read f =
      if f = 0 then { (s.openedAt time pins).formBatches.batch.flow.read 0 with
        sequence := ((s.openedAt time pins).formBatches.batch.flow.read 0).sequence +
          BitVec.ofNat 16 flow0.length
        batched := satAdd ((s.openedAt time pins).formBatches.batch.flow.read 0).batched
          flow0.length }
      else (s.openedAt time pins).formBatches.batch.flow.read f := by
    rw [(s.enteredAt_reported time pins).1, reported.batch, State.batchCells_flow,
      State.reportAt_batch]
  have zero : ((s.openedAt time pins).formBatches.batch.flow.read 0).sequence =
        (s.batch.flow.read 0).sequence ∧
      ((s.openedAt time pins).formBatches.batch.flow.read 0).batched =
        (s.batch.flow.read 0).batched := by
    obtain ⟨sequence, batched⟩ := formed.counters 0
    rw [sequence, batched, State.openedAt_sequence, State.openedAt_batched]
    simp [State.sequenceAt]
  refine ⟨fun f => ?_, fun k => ?_, fun k => ?_, fun f user => ?_, ?_, fun b => ?_⟩
  · obtain ⟨k, cell⟩ := formed.tallies f
    rw [cell, State.openedAt_tallySource]
    exact tallyCellOf_paddedCell _ k
  · rw [ingress, formed.fifos k, State.openedAt_rateOver, State.openedAt_ingress]
  · rw [ingress, formed.holds k, State.openedAt_rateOver, State.openedAt_ingress,
      State.openedAt_mgmt]
  · obtain ⟨sequence, batched⟩ := formed.counters f
    rw [batch, if_neg user, sequence, batched, if_pos ((mem_userFlows f).mpr user),
      State.openedAt_sequence, State.openedAt_batched, State.openedAt_batchNow]
    exact ⟨rfl, rfl⟩
  · rw [batch, if_pos rfl, zero.1, zero.2]
    exact ⟨rfl, rfl⟩
  · have cells : (s.openedAt time pins).cellsNow tally b =
        s.cellsAt time.sf tally (s.openedAt time pins).planner.plan b :=
      funext (s.openedAt_cellsNow time pins tally b)
    rw [State.enteredAt_sendList noneOwed ranges quiet, State.startedAt_tx reported b, planner]
    dsimp only
    rw [formed.lists b, State.openedAt_sendList, List.nil_append, zero.1, cells]

end Entered

/-- A slot entry that starts a superframe, at which nothing falls in an open order, is the start as
a whole (R2, R176). -/
theorem State.enterSlot_superframeStarted {s : State} {pins : Pins} (time : LinkTime)
    (noneOwed : s.owed = []) (idle : ∀ f, s.expired.read f = false) (ranges : s.rangesKept)
    (quiet : s.quietStart pins) :
    SuperframeStarted s ((s.standAt time pins).enterSlot (some time.sf)) time pins := by
  rw [State.enterSlot_started noneOwed ranges quiet]
  obtain ⟨flow0, late, reported⟩ := State.startedAt_reported (time := time) noneOwed ranges quiet
  obtain ⟨clock, table, ingress, planner, rx, skew, merge, tally, owed⟩ :=
    State.enteredAt_kept (time := time) noneOwed ranges quiet
  obtain ⟨batch, mgmt, events⟩ := s.enteredAt_reported time pins
  have frame := (s.openedAt time pins).formBatches_frame
  have tells {e : Fin 20} {d : EventDetail} (drop : e ≠ EventId.mgmtDrop.num)
      (silent : e ≠ EventId.sourceSilent.num)
      (raised : ((s.startAt time pins).planAtStart time.sf).events.event.read e =
        EventState.raised d) :
      ((s.enteredAt time pins).events.event.read e).flag = true ∧
      ((s.enteredAt time pins).events.event.read e).detail = some d := by
    rw [events]
    exact State.startedAt_tells noneOwed ranges quiet drop silent
      (by rw [State.openedAt_events]; exact raised)
  refine
    { clock := by rw [clock, State.openedAt_clock]
      table := by rw [table, State.openedAt_table]
      swapDone := fun pending =>
        tells (by decide) (by decide)
          (State.planAtStart_swapDone (s := s.startAt time pins) pending)
      planner := by rw [planner, State.openedAt_planner]
      gradeChange := fun g awaiting =>
        tells (by decide) (by decide)
          (State.planAtStart_gradeChange (s := s.startAt time pins) time.sf awaiting)
      transmitters := ?transmitters
      batches := fun lawful => ?batches
      strike := ?strike
      receivers := fun b => by rw [rx b, State.openedAt_rx]; rfl
      tally := by rw [tally, State.openedAt_tally]; rfl
      merge := by rw [merge, State.openedAt_merge]
      holds := fun f => State.enteredAt_expired noneOwed ranges quiet (idle f)
      reportOff := fun off => ?reportOff
      report := fun enabled near waits room => ?report
      mgmt := ?mgmt
      others := ?others }
  case transmitters =>
    obtain ⟨fibreTx, radioTx⟩ := State.enteredAt_tx (time := time) noneOwed ranges quiet
    have fibreList := State.enteredAt_sendList (time := time) noneOwed ranges quiet .fibre
    have radioList := State.enteredAt_sendList (time := time) noneOwed ranges quiet .radio
    rw [State.tx_fibre (s.enteredAt time pins)] at fibreList
    rw [State.tx_radio (s.enteredAt time pins)] at radioList
    rw [planner, fibreList, radioList]
    exact ⟨fibreTx, radioTx⟩
  case batches =>
    obtain ⟨tallyCells, formed⟩ := State.formBatches_batchedOver (s.openedAt time pins)
      (by rw [State.openedAt_activeBank]; exact State.bankAt_pass lawful time.sf)
    refine ⟨tallyCells, flow0, State.enteredAt_batchesFormed noneOwed ranges quiet formed reported,
      fun off => ?_, fun enabled far waits room => ?_⟩
    · have none := reported.noFar
      rw [State.reportAt_mgmt] at none
      rw [mgmt]
      exact none off
    · have placed := reported.far
      rw [State.reportAt_mgmt] at placed
      obtain ⟨e, other, waiting⟩ := waits
      rw [mgmt]
      exact placed enabled far ⟨e, other, s.reportAt_waits time pins waiting late⟩ room
  case strike =>
    have filtered : (s.enteredAt time pins).strike = (s.filteredAt time pins).strike := by
      rw [State.enteredAt, State.sendSlot_strike, State.judgeHolds_strike]
    rw [filtered]
    rfl
  case reportOff =>
    have none := reported.off
    rw [State.reportAt_mgmt, State.reportAt_routineCount] at none
    rw [mgmt, events]
    exact none off
  case report =>
    have placed := reported.near
    rw [State.reportAt_mgmt] at placed
    obtain ⟨e, other, waiting⟩ := waits
    rw [mgmt]
    exact placed enabled near ⟨e, other, s.reportAt_waits time pins waiting late⟩ room
  case mgmt =>
    have kept := reported.mgmt
    rw [State.reportAt_mgmt] at kept
    rw [mgmt]
    exact kept
  case others =>
    rw [skew, State.openedAt_skew, owed, State.openedAt_owed, ingress, frame.drops.1, frame.drops.2,
      State.openedAt_ingress, batch, reported.batch]
    have source := frame.tallySource.trans (s.openedAt_tallySource time pins)
    simp [State.enteredAt, State.filteredAt, State.startedAt, State.standAt, noneOwed,
      State.batchCells_tallySource, source]

/-- A slot entry from a settled part: link time one slot on, and that slot entered. -/
theorem State.advanceSlot_settled {s : State} (settled : s.settled) (pins : Pins) :
    s.advanceSlot pins = (s.standAt (s.clock.time.advance 1) pins).enterSlot
      (if (s.clock.time.advance 1).slot = 0 ∧ (s.clock.time.advance 1).sf ≠ s.clock.lastStarted
        then some (s.clock.time.advance 1).sf else none) := by
  unfold State.advanceSlot
  rw [State.settle_settled s settled]
  rfl

/-- The entry of a slot that starts a superframe, as SLOT_ENTRY and FAR_MARKER_ABSENCE take it. -/
theorem State.advanceSlot_superframeStarted {s : State} {pins : Pins} (settled : s.settled)
    (ranges : s.rangesKept) (quiet : s.quietStart pins) (last : s.clock.time.slot = 1535)
    (unstarted : s.clock.time.sf + 1 ≠ s.clock.lastStarted) :
    SuperframeStarted s (s.advanceSlot pins) ⟨s.clock.time.sf + 1, 0⟩ pins := by
  obtain ⟨-, noneOwed, noneDue⟩ := id settled
  have idle (f : Flow) : s.expired.read f = false := (Bool.or_eq_false_iff.mp (noneDue f)).1
  have advanced : s.clock.time.advance 1 = ⟨s.clock.time.sf + 1, 0⟩ :=
    LinkTime.advance_one_wrap _ last
  rw [State.advanceSlot_settled settled, advanced, if_pos ⟨rfl, unstarted⟩]
  exact State.enterSlot_superframeStarted ⟨s.clock.time.sf + 1, 0⟩ noneOwed idle ranges quiet

/-! ### FAR_MARKER_ABSENCE (R70, R71) -/

/-- The absence that reaches 3 makes the far fibre PRESENT (R70). -/
theorem State.plannerAt_third {s : State} (second : s.planner.markerAbsence = 2) (n : Superframe) :
    (s.plannerAt n).markerAbsence = 3 ∧ (s.plannerAt n).opposingRun = 0 ∧
    (s.plannerAt n).farFibre = .present := by
  have counted : s.planner.countAbsence.1 =
      { s.planner with farFibre := .present, opposingRun := 0, markerAbsence := 3 } := by
    simp [RadioPlanner.countAbsence, second]
  unfold State.plannerAt
  dsimp only
  rw [counted]
  split <;> exact ⟨rfl, rfl, rfl⟩

/-- A plan that was the one of its inputs is the one of the inputs that a start leaves (R71). -/
theorem SuperframeStarted.planFresh {s t : State} {time : LinkTime} {pins : Pins}
    (started : SuperframeStarted s t time pins) (fresh : s.planFresh) : t.planFresh := by
  have bank : t.table.activeBank = s.bankAt time.sf := by
    rw [started.table, State.bankAt]
    split <;> simp
  unfold State.planFresh
  rw [bank, started.planner]
  exact RadioPlanner.takeSample_fresh (s.plannerAt_fresh time.sf fresh) _ _ _ _

theorem State.startIsNext_iff (s : State) : s.startIsNext = true ↔
    s.clock.time.slot = 1535 ∧ s.clock.time.sf + 1 ≠ s.clock.lastStarted := by
  rw [State.startIsNext, Bool.and_eq_true_iff, decide_eq_true_iff, bne_iff_ne]

theorem State.takeFarAbsence_starts {s : State} (second : s.planner.markerAbsence = 2)
    (next : s.startIsNext = true) : s.takeFarAbsence = s.advanceSlot s.pins :=
  if_pos ⟨second, next⟩

theorem State.takeFarAbsence_idle {s : State}
    (elsewhere : ¬ (s.planner.markerAbsence = 2 ∧ s.startIsNext = true)) :
    s.takeFarAbsence = s :=
  if_neg elsewhere

/-- Settles O12: FAR_MARKER_ABSENCE is the slot entry that starts the coming superframe, whose
planner counts the third absence before the plan is computed; where the start or the third absence
does not come next, its condition fails. -/
theorem farMarkerAbsenceRestoresFarFibre : Obligations.FarMarkerAbsenceRestoresFarFibre := by
  refine ⟨fun s settled ranges quiet second last unstarted => ?_, fun s elsewhere => ?_⟩
  · have starts := State.takeFarAbsence_starts second (s.startIsNext_iff.mpr ⟨last, unstarted⟩)
    have started := State.advanceSlot_superframeStarted settled ranges quiet last unstarted
    obtain ⟨released, -⟩ := settled
    have same : exec .farMarkerAbsence s = exec (.slotEntry s.pins) s :=
      congrArg (whenReleased s) starts
    obtain ⟨absence, run, present⟩ := State.plannerAt_third second (s.clock.time.sf + 1)
    have planner := started.planner
    obtain ⟨awaiting, downRun, upRun, upLeast, sampled⟩ :=
      (s.plannerAt (s.clock.time.sf + 1)).takeSample_frame s.mgmt.settings.gradeDown
        s.mgmt.settings.gradeUp s.strike.storm s.pins.grade
    rw [sampled] at planner
    refine ⟨same, s.advanceSlot s.pins, same.trans (whenReleased_next released _), started, ?_, ?_,
      ?_, started.planFresh⟩
    · rw [planner]; exact absence
    · rw [planner]; exact run
    · rw [planner]; exact present
  · show whenReleased s s.takeFarAbsence = .next s
    cases reset : s.inReset with
    | true => simp [whenReleased, reset]
    | false =>
      have never : ¬ (s.planner.markerAbsence = 2 ∧ s.startIsNext = true) := by
        rw [State.startIsNext_iff]
        rintro ⟨second, last, unstarted⟩
        rcases elsewhere with inReset | other | slot | begun
        · rw [reset] at inReset
          cases inReset
        · exact other second
        · exact slot last
        · exact unstarted begun
      rw [whenReleased_next reset, State.takeFarAbsence_idle never]

end Sys2Proof.Machine
end

section
/-! SUPPORT. What a receiver does with the bytes of its lane, state by state (R79 to R83, R91, R92),
what a data cell that carries N does to an empty window (R116, R125, R127), and the proofs about the
reception of cells. -/

namespace Sys2Proof.Machine

/-! ### The search and its confirmation (R81, R82) -/

theorem exec_huntCandidateFound (b : Bearer) (position : Nat) (header : List Byte) {s : State}
    (released : s.inReset = false) : exec (.huntCandidateFound b position header) s =
      .next (s.withRx b ((s.rx b).examine position header)) :=
  whenReleased_next released _

theorem exec_receivedCell (b : Bearer) (cell : List Byte) (pins : Pins) {s : State}
    (released : s.inReset = false) :
    exec (.receivedCell b cell pins) s = .next (s.takeCell b cell pins) :=
  whenReleased_next released _

@[simp] theorem State.withRx_rx (s : State) (b : Bearer) : s.withRx b (s.rx b) = s := by
  cases b <;> rfl

/-- In HUNT a position not yet passed is a candidate, or is passed over (R81). -/
theorem Receiver.examine_hunt {r : Receiver} {position : Nat} (hunting : r.state = .hunt)
    (ahead : r.searchFrom ≤ position) (header : List Byte) : r.examine position header =
      if framingTest header = true then
        { r with state := .confirm, boundary := some position, atFoundCell := true,
                 confirmCount := 0, arrived := max r.arrived (position + 12) }
      else { r with searchFrom := position + 1, arrived := max r.arrived (position + 12) } :=
  if_pos ⟨hunting, ahead⟩

theorem Receiver.examine_elsewhere {r : Receiver} {position : Nat}
    (elsewhere : r.state ≠ .hunt ∨ position < r.searchFrom) (header : List Byte) :
    r.examine position header = r :=
  if_neg fun ⟨hunting, ahead⟩ =>
    elsewhere.elim (· hunting) fun passed => absurd ahead (Nat.not_le.mpr passed)

theorem State.takeCell_confirm {s : State} {b : Bearer} (confirming : (s.rx b).state = .confirm)
    (cell : List Byte) (pins : Pins) :
    s.takeCell b cell pins = s.withRx b ((s.rx b).confirmCell cell) := by
  rw [State.takeCell, confirming]

/-- Settles O23: the search examines a position that it has not passed, and the cell taken in CONFIRM
is judged by the framing test and then by the count. -/
theorem huntAndConfirmFindCells : Obligations.HuntAndConfirmFindCells := by
  refine ⟨fun b position header s released hunting ahead => ?_,
    fun b position header s elsewhere => ?_, fun b cell pins s released confirming => ?_⟩
  · rw [exec_huntCandidateFound b position header released, Receiver.examine_hunt hunting ahead]
  · have stands : s.withRx b ((s.rx b).examine position header) = s := by
      rw [Receiver.examine_elsewhere elsewhere, State.withRx_rx]
    change whenReleased s (s.withRx b ((s.rx b).examine position header)) = .next s
    rw [stands, whenReleased, ite_self]
  · rw [exec_receivedCell b cell pins released, State.takeCell_confirm confirming,
      Receiver.confirmCell]
    simp only [Nat.succ_le_succ_iff]
    rfl

/-! ### Headers taken in ALIGNED and TIMED (R83) -/

theorem State.takeCell_locked {s : State} {b : Bearer}
    (locked : (s.rx b).state = .aligned ∨ (s.rx b).state = .timed) (cell : List Byte) (pins : Pins) :
    s.takeCell b cell pins = s.nextOccasion.alignedCell b cell pins := by
  rcases locked with aligned | timed
  · rw [State.takeCell, aligned]
  · rw [State.takeCell, timed]

@[simp] theorem State.nextOccasion_rx (s : State) (b : Bearer) : s.nextOccasion.rx b = s.rx b := by
  cases b <;> rfl

/-- The part once the receiver of bearer `b` has taken a good header: the boundary moved on and the
bad-header run ended, nothing yet done with what the header says (R79, R83). -/
def State.pastGoodHeader (s : State) (b : Bearer) : State :=
  s.nextOccasion.withRx b (s.rx b).endBadRun

theorem State.pastGoodHeader_eq (s : State) (b : Bearer) : s.pastGoodHeader b =
    { s.withRx b { s.rx b with
        boundary := some ((s.rx b).cellBegin + 192), atFoundCell := false, badRun := 0
        arrived := (s.rx b).cellBegin + 192 } with
      occasion := s.occasion + 1 } := by
  cases b <;> rfl

/-- A cell with a good header is dealt with by what the header says (R83). -/
theorem exec_receivedCell_good {s : State} {b : Bearer} {cell : List Byte} {content : HeaderContent}
    (pins : Pins) (released : s.inReset = false)
    (locked : (s.rx b).state = .aligned ∨ (s.rx b).state = .timed)
    (good : goodHeader cell = some content) : exec (.receivedCell b cell pins) s =
      .next ((s.pastGoodHeader b).acceptedCell b content cell pins) := by
  rw [exec_receivedCell b cell pins released, State.takeCell_locked locked, State.alignedCell, good,
    State.nextOccasion_rx]
  rfl

/-! ### Bad headers (R83, R91, R92) -/

/-- The part once the receiver of bearer `b` has taken and counted a bad header (R79, R83). -/
def State.pastBadHeader (s : State) (b : Bearer) : State :=
  s.nextOccasion.withRx b (s.rx b).countBad

theorem State.pastBadHeader_eq (s : State) (b : Bearer) : s.pastBadHeader b =
    { s.withRx b { s.rx b with
        boundary := some ((s.rx b).cellBegin + 192), atFoundCell := false
        arrived := (s.rx b).cellBegin + 192
        badCount := satInc (s.rx b).badCount, badRun := (s.rx b).badRun + 1 } with
      occasion := s.occasion + 1 } := by
  cases b <;> rfl

/-- A cell with a bad header is counted, and the bad-header run that reaches the threshold ends the
alignment (R83). -/
theorem exec_receivedCell_bad {s : State} {b : Bearer} {cell : List Byte} (pins : Pins)
    (released : s.inReset = false) (locked : (s.rx b).state = .aligned ∨ (s.rx b).state = .timed)
    (bad : goodHeader cell = none) : exec (.receivedCell b cell pins) s =
      .next (if badRunThreshold s.strike.storm ≤ (s.rx b).badRun + 1 then
          (s.pastBadHeader b).enterHunt b ((s.rx b).cellBegin + 192) .headers
        else s.pastBadHeader b) := by
  rw [exec_receivedCell b cell pins released, State.takeCell_locked locked, State.alignedCell, bad,
    State.badHeader, State.nextOccasion_rx]
  rfl

@[simp] theorem LinkClock.choose_time (c : LinkClock) (source : Option Bearer) :
    (c.choose source).time = c.time := by
  unfold LinkClock.choose; split <;> rfl

@[simp] theorem State.chooseSource_time (s : State) : s.chooseSource.clock.time = s.clock.time := by
  unfold State.chooseSource; split <;> simp

theorem State.leftTimed_events (s : State) (b : Bearer) (way : WayOut) :
    (s.leftTimed b way).events = s.events.raise (downEvent b) (.wayOut way) := by
  rw [State.leftTimed, State.chooseSource_events]
  rfl

theorem State.leftTimed_skew (s : State) (b : Bearer) (way : WayOut) :
    (s.leftTimed b way).skew = s.skew.leftTimed b := by
  rw [State.leftTimed, State.chooseSource_skew]
  rfl

@[simp] theorem State.leftTimed_time (s : State) (b : Bearer) (way : WayOut) :
    (s.leftTimed b way).clock.time = s.clock.time := by
  rw [State.leftTimed, State.chooseSource_time]
  rfl

/-- The Marker List of the bearer that left TIMED is emptied, and the other's is kept (R99, R105). -/
theorem SkewUnit.leftTimed_lists (u : SkewUnit) (b : Bearer) :
    (u.leftTimed b).list b = [] ∧ (u.leftTimed b).list (otherBearer b) = u.list (otherBearer b) := by
  cases b <;> exact ⟨rfl, rfl⟩

@[simp] theorem State.withRx_timed_same (s : State) (b : Bearer) (r : Receiver) :
    (s.withRx b r).timed b = (r.state == .timed) := by
  rw [State.timed, State.withRx_same]

/-- A receiver that was not TIMED enters HUNT by itself (R91). -/
theorem State.enterHunt_untimed {s : State} {b : Bearer} (untimed : s.timed b = false) (k : Nat)
    (way : WayOut) : s.enterHunt b k way = s.withRx b ((s.rx b).enterHunt k) := by
  rw [State.enterHunt, untimed]
  rfl

/-- A receiver that was TIMED enters HUNT and has left TIMED (R91, R92). -/
theorem State.enterHunt_timed {s : State} {b : Bearer} (timed : s.timed b = true) (k : Nat)
    (way : WayOut) :
    s.enterHunt b k way = (s.withRx b ((s.rx b).enterHunt k)).leftTimed b way := by
  rw [State.enterHunt, timed]
  rfl

@[simp] theorem State.enterHunt_time (s : State) (b : Bearer) (k : Nat) (way : WayOut) :
    (s.enterHunt b k way).clock.time = s.clock.time := by
  unfold State.enterHunt; split <;> simp

theorem exec_receivedCell_counted {s : State} {b : Bearer} {cell : List Byte} (pins : Pins)
    (released : s.inReset = false) (locked : (s.rx b).state = .aligned ∨ (s.rx b).state = .timed)
    (bad : goodHeader cell = none)
    (below : (s.rx b).badRun + 1 < badRunThreshold s.strike.storm) :
    exec (.receivedCell b cell pins) s = .next (s.pastBadHeader b) := by
  rw [exec_receivedCell_bad pins released locked bad, if_neg (Nat.not_le.mpr below)]

theorem exec_receivedCell_hunts {s : State} {b : Bearer} {cell : List Byte} (pins : Pins)
    (released : s.inReset = false) (locked : (s.rx b).state = .aligned ∨ (s.rx b).state = .timed)
    (bad : goodHeader cell = none)
    (reached : badRunThreshold s.strike.storm ≤ (s.rx b).badRun + 1) :
    exec (.receivedCell b cell pins) s =
      .next ((s.pastBadHeader b).enterHunt b ((s.rx b).cellBegin + 192) .headers) := by
  rw [exec_receivedCell_bad pins released locked bad, if_pos reached]

/-- Settles O24: below the threshold only the receiver's counts move on; at it the counted receiver
enters HUNT, and what follows a way out of TIMED follows only where it was TIMED. -/
theorem badHeaderCountsAndHunts : Obligations.BadHeaderCountsAndHunts := by
  intro b cell pins s released locked bad
  have stateKept : (s.pastBadHeader b).timed b = ((s.rx b).state == .timed) :=
    State.withRx_timed_same _ b _
  have events : (s.pastBadHeader b).events = s.events := State.withRx_events _ b _
  have skew : (s.pastBadHeader b).skew = s.skew := State.withRx_skew _ b _
  refine ⟨fun below => ⟨_, exec_receivedCell_counted pins released locked bad below,
      s.pastBadHeader_eq b⟩,
    fun reached => ⟨_, exec_receivedCell_hunts pins released locked bad reached,
      ?receiver, ?other, fun timed => ?timed, fun aligned => ?aligned, ?merge, ?mgmt, ?time⟩⟩
  case receiver => rw [State.enterHunt_rx_same, State.pastBadHeader, State.withRx_same]; rfl
  case other => simp [State.pastBadHeader]
  case timed =>
    obtain ⟨emptied, kept⟩ := s.skew.leftTimed_lists b
    rw [State.enterHunt_timed (by rw [stateKept, timed]; rfl), State.leftTimed_events,
      State.leftTimed_skew, State.withRx_events, State.withRx_skew, events, skew]
    exact ⟨rfl, emptied, rfl, rfl, kept⟩
  case aligned =>
    rw [State.enterHunt_untimed (by rw [stateKept, aligned]; rfl), State.withRx_events,
      State.withRx_skew, State.withRx_clock]
    exact ⟨events, skew, State.withRx_clock _ b _⟩
  case merge => simp [State.pastBadHeader]
  case mgmt => simp [State.pastBadHeader]
  case time => simp [State.pastBadHeader]

/-! ### Arrivals that are not received here, and arrivals that carry N (R113, R116, R127) -/

theorem State.receiving_user {f : Flow} (user : f ≠ 0) (s : State) :
    s.receiving f = (s.activeEntry f).inbound :=
  if_neg user

/-- An arrival of a flow that is not received here is counted and goes no further (R113). -/
theorem State.takeArrival_unrouted {s : State} {f : Flow} (unrouted : s.receiving f = none)
    (a : Arrival) : s.takeArrival f a =
      s.withMerge { s.merge with unrouted := satInc s.merge.unrouted } := by
  have counted : s.mergeArrival f a =
      (s.withMerge { s.merge with unrouted := satInc s.merge.unrouted }, []) := by
    rw [State.mergeArrival, unrouted]
  have nowhere : (s.withMerge { s.merge with unrouted := satInc s.merge.unrouted }).receiving f =
      none := unrouted
  rw [State.takeArrival, counted, State.deliver, nowhere]

/-- Settles O25: after a good header an idle cell has no effect, and a data cell that finds no flow
adds one to the unrouted-arrival count. -/
theorem idleAndUnroutedCellsAreDropped : Obligations.IdleAndUnroutedCellsAreDropped := by
  intro b cell pins s released locked
  refine ⟨fun idle => ?_, fun f q len data user closed => ?_⟩
  · rw [exec_receivedCell_good pins released locked idle, ← State.pastGoodHeader_eq]
    rfl
  · have unrouted : (s.pastGoodHeader b).receiving f = none := by
      rw [State.receiving_user user, ← closed, State.pastGoodHeader_eq]
      cases b <;> rfl
    rw [exec_receivedCell_good pins released locked data, State.acceptedCell,
      State.takeArrival_unrouted unrouted, State.pastGoodHeader_eq]
    cases b <;> rfl

/-- An arrival that carries N of a RUNNING window with nothing held is released by itself (R116,
R125). -/
theorem MergeTurn.arrive_next {m : MergeTurn} {a : Arrival} (running : m.window.running = true)
    (empty : m.window.held = []) (next : a.sequence = m.window.next) (f : Flow) (rule : FlowRule) :
    m.arrive f rule a =
      ({ m with
          window := ⟨true, m.window.next + 1, [], 0⟩
          counts := m.counts.released a.bearer
          out := m.out ++ [.cell a.data] }, none) := by
  have distance : m.window.distance a.sequence = 0 := by simp [MergeWindow.distance, next]
  have band : bandOf rule.depth 0 = .expected := rfl
  have expected : m.arrive f rule a = (m.expected rule a, none) := by
    simp [MergeTurn.arrive, running, distance, band]
  rw [expected]
  simp [MergeTurn.expected, MergeTurn.releaseRun, MergeTurn.releaseArrival, MergeTurn.drain_nil,
    MergeTurn.endStaleRun, running, empty, next]

/-- A window in which nothing is held has no hold to judge, and none found before it was emptied
stands (R123). -/
theorem State.followHold_empty {s : State} {before : MergeUnit} {f : Flow}
    (was : (before.window.read f).held = []) (empty : (s.merge.window.read f).held = []) :
    s.followHold before f = s := by
  have notDue : s.expiryDue f = false := by
    simp [State.expiryDue, empty]
  have kept : s.holdFollowed before f = s.expired.read f := by
    simp [State.holdFollowed, MergeUnit.lowest, was, empty, notDue]
  rw [State.followHold, kept, Tab.write_read]
  rfl

/-- The Merge Unit once a cell from bearer `b` that carries N of flow `f` is released with nothing
held (R116, R125). -/
def MergeUnit.releasedNext (u : MergeUnit) (f : Flow) (b : Bearer) : MergeUnit :=
  { u with
    window := u.window.write f ⟨true, (u.window.read f).next + 1, [], 0⟩
    counts := u.counts.write f ((u.counts.read f).released b) }

theorem State.mergeArrival_next {s : State} {f : Flow} {x : EntryFields} {a : Arrival}
    (received : s.receiving f = some x) (running : (s.merge.window.read f).running = true)
    (empty : (s.merge.window.read f).held = [])
    (next : a.sequence = (s.merge.window.read f).next) :
    s.mergeArrival f a = (s.withMerge (s.merge.releasedNext f a.bearer), [.cell a.data]) := by
  have turn := MergeTurn.arrive_next (m := s.merge.turn f) running empty next f x.rule
  rw [State.mergeArrival, received]
  simp only [turn]
  refine Prod.ext ?_ rfl
  exact State.followHold_empty (s := s.withMerge (s.merge.releasedNext f a.bearer)) empty
    (by simp [MergeUnit.releasedNext])

/-- One released cell of a flow to a tributary whose egress FIFO has room joins its tail (R127,
R144). -/
theorem State.deliver_cell_trib {s : State} {f : Flow} {x : EntryFields} {n : Trib}
    (received : s.receiving f = some x) (destination : x.endpoint = .trib n)
    (room : (s.egress.fifo.read n).length < 64) (data : CellData) :
    s.deliver f [.cell data] = s.withEgress { s.egress with
      fifo := s.egress.fifo.write n (s.egress.fifo.read n ++ [.cell data]) } := by
  rw [State.deliver, received]
  simp only [destination]
  exact State.handEntry_room s n f (.cell data) room

/-- An arrival that carries N of an empty window passes through to its tributary at once (R116, R127,
R144). -/
theorem State.takeArrival_next {s : State} {f : Flow} {x : EntryFields} {n : Trib} {a : Arrival}
    (received : s.receiving f = some x) (destination : x.endpoint = .trib n)
    (running : (s.merge.window.read f).running = true)
    (empty : (s.merge.window.read f).held = [])
    (next : a.sequence = (s.merge.window.read f).next)
    (room : (s.egress.fifo.read n).length < 64) :
    s.takeArrival f a = (s.withMerge (s.merge.releasedNext f a.bearer)).withEgress { s.egress with
      fifo := s.egress.fifo.write n (s.egress.fifo.read n ++ [.cell a.data]) } := by
  rw [State.takeArrival, State.mergeArrival_next received running empty next]
  exact State.deliver_cell_trib (s := s.withMerge (s.merge.releasedNext f a.bearer)) received
    destination room a.data

/-- Settles O26: the sent bytes read back as put in, the cell carries N of an empty window, and its
release finds room in the FIFO. -/
theorem dataCellReleasedInOrder : Obligations.DataCellReleasedInOrder := by
  intro b f x n data pins s released locked user entry destination whole nonempty short running
    empty room
  obtain ⟨-, good, payload⟩ :=
    sentCellReadsBack.1 f (s.merge.window.read f).next data whole nonempty short
  have merge : (s.pastGoodHeader b).merge = s.merge := State.withRx_merge _ b _
  have egress : (s.pastGoodHeader b).egress = s.egress := State.withRx_egress _ b _
  have received : (s.pastGoodHeader b).receiving f = some x := by
    rw [State.receiving_user user, State.activeEntry, State.pastGoodHeader, State.withRx_table]
    exact congrArg Entry.inbound entry
  rw [exec_receivedCell_good pins released locked good, State.acceptedCell,
    State.takeArrival_next received destination (by rw [merge]; exact running)
      (by rw [merge]; exact empty) (by rw [merge]) (by rw [egress]; exact room),
    payload, merge, egress, State.pastGoodHeader_eq]
  cases b <;> rfl

end Sys2Proof.Machine
end

section
/-! SUPPORT. READ-FLOW-COUNTS and READ-BEARER (R94, R132, R133, R166, R167, R186, R187): their
operands, the lengths of their results, and the proof about them. -/

namespace Sys2Proof.Machine

/-! ### Operands (R166, R167) -/

@[simp] theorem bearerOperand_number (b : Bearer) : bearerOperand (bearerNumber b) = some b := by
  cases b <;> rfl

theorem bearerOperand_eq_none {v : Byte} (undefined : 1 < v.toNat) : bearerOperand v = none := by
  unfold bearerOperand
  split
  · omega
  · omega
  · rfl

theorem yesNoOperand_eq_none {v : Byte} (undefined : 1 < v.toNat) : yesNoOperand v = none := by
  unfold yesNoOperand
  split
  · omega
  · omega
  · rfl

theorem flowOperand_eq_none {v : Byte} (above : 63 < v.toNat) : flowOperand v = none :=
  dif_neg (by omega)

theorem flowOperand_eq_some {v : Byte} (inside : v.toNat ≤ 63) :
    flowOperand v = some ⟨v.toNat, by omega⟩ :=
  dif_pos _

/-! ### The lengths of results (R186, R187) -/

@[simp] theorem MergeWindow.recordBytes_length (w : MergeWindow) (now : LinkTime) :
    (w.recordBytes now).length = 11 := by
  cases held : w.held <;> simp [MergeWindow.recordBytes, held, zeroBytes]

@[simp] theorem MergeCounts.recordBytes_length (c : MergeCounts) : c.recordBytes.length = 44 := by
  simp [MergeCounts.recordBytes, countBytes]

/-- The count record has 88 bytes (R186). -/
theorem State.countRecord_length (s : State) (f : Flow) : (s.countRecord f).length = 88 := by
  simp [State.countRecord, countBytes]

@[simp] theorem markerRecordBytes_length (m : Option MarkerRecord) :
    (markerRecordBytes m).length = 9 := by
  cases m <;> simp [markerRecordBytes, zeroBytes]

/-- READ-BEARER shows a receiver in 17 bytes (R187). -/
theorem Receiver.resultBytes_length (r : Receiver) (b : Bearer) : (r.resultBytes b).length = 17 := by
  simp [Receiver.resultBytes, countBytes]

/-! ### Counts read and zeroed (R166, R167) -/

/-- Settles O40: the results are taken from the state that the command finds, and each operand in
turn is refused when it is undefined. -/
theorem readAndClearCounts : Obligations.ReadAndClearCounts := by
  intro o tag s released
  have flowAnswered (f : Flow) {clear : Byte} {u : State}
      (ran : s.run (.readFlowCounts (BitVec.ofNat 8 f.val) clear) =
        (Reply.ok (s.countRecord f), u)) :=
    exec_answered_freely (o := o) (tag := tag) released rfl rfl rfl rfl ran
      (by simp [s.countRecord_length])
  have bearerAnswered (b : Bearer) {clear : Byte} {u : State}
      (ran : s.run (.readBearer (bearerNumber b) clear) =
        (Reply.ok ((s.rx b).resultBytes b), u)) :=
    exec_answered_freely (o := o) (tag := tag) released rfl rfl rfl rfl ran
      (by simp [Receiver.resultBytes_length])
  refine ⟨fun f => ⟨s.countRecord_length f, flowAnswered f ?_, flowAnswered f ?_⟩,
    fun b => ⟨(s.rx b).resultBytes_length b, bearerAnswered b ?_, bearerAnswered b ?_⟩,
    fun flow clear above _ => ?_, fun flow clear inside undefined => ?_,
    fun bearer clear undefined _ => ?_, fun b clear undefined => ?_⟩
  · rw [State.run, State.runReadFlowCounts, flowOperand_ofNat]; rfl
  · rw [State.run, State.runReadFlowCounts, flowOperand_ofNat]; rfl
  · rw [State.run, State.runReadBearer, bearerOperand_number]; rfl
  · rw [State.run, State.runReadBearer, bearerOperand_number]; rfl
  · exact exec_answered_refusal (c := .readFlowCounts flow clear) (status := .range) released rfl
      (by rw [State.run, State.runReadFlowCounts, flowOperand_eq_none above])
  · exact exec_answered_refusal (c := .readFlowCounts flow clear) (status := .field) released rfl
      (by rw [State.run, State.runReadFlowCounts, flowOperand_eq_some inside,
        yesNoOperand_eq_none undefined])
  · exact exec_answered_refusal (c := .readBearer bearer clear) (status := .field) released rfl
      (by rw [State.run, State.runReadBearer, bearerOperand_eq_none undefined])
  · exact exec_answered_refusal (c := .readBearer (bearerNumber b) clear) (status := .field) released
      rfl (by rw [State.run, State.runReadBearer, bearerOperand_number,
        yesNoOperand_eq_none undefined])

end Sys2Proof.Machine
end

section
/-! SUPPORT. A share of a superframe start that waits, taken as a step of its own (log entry 2), the
Strike Monitor's among them (R108, R138), the hold time of a flow case by case (R106, R107), and the
proofs about the two. -/

namespace Sys2Proof.Machine

/-! ### A share that waits -/

theorem State.takeOwedOf_some {s : State} {p : OwedStart → Bool} {o : OwedStart}
    {rest : List OwedStart} (waits : splitOwed p s.owed = some (o, rest)) :
    s.takeOwedOf p = (s.withOwed rest).takeShare o := by
  rw [State.takeOwedOf, waits]

theorem State.takeOwedOf_nil {s : State} (p : OwedStart → Bool) (noneWaits : s.owed = []) :
    s.takeOwedOf p = s := by
  rw [State.takeOwedOf, noneWaits]
  rfl

/-! ### The end of a storm (R108, R138, R139) -/

/-- The last superframe of the storm timer ends the storm, which is told and has the holds judged
(R108, R123, R138, R139). -/
theorem State.stormStart_last {s : State} (last : s.strike.timer = .running 1) :
    s.stormStart = ((s.withStrike { s.strike with timer := .stopped }).raise .stormEnd
      (.strikes s.strike.stormStrikes)).judgeHolds := by
  simp only [State.stormStart, last]
  exact if_pos le_rfl

/-- An earlier superframe of the storm timer only counts it down (R138). -/
theorem State.stormStart_earlier {s : State} {n : Nat} (earlier : 2 ≤ n)
    (timer : s.strike.timer = .running n) :
    s.stormStart = s.withStrike { s.strike with timer := .running (n - 1) } := by
  have goesOn : s.strike.ending = false := by
    rw [StrikeMonitor.ending, timer]
    exact decide_eq_false (by omega)
  rw [s.stormStart_timer goesOn, timer]

theorem exec_stormEnd {s : State} (released : s.inReset = false) :
    exec .stormEnd s = .next (s.takeOwedOf fun o => o == .storm) :=
  whenReleased_next released _

/-- Settles O14: the waiting share is the Strike Monitor's count of the start, which ends the storm
at the timer's last superframe and counts it down before. -/
theorem stormEndStopsTheTimer : Obligations.StormEndStopsTheTimer := by
  intro rest s released
  refine ⟨fun waits => ?_, fun noneWaits => ?_⟩
  · have taken : exec .stormEnd s = .next (s.withOwed rest).stormStart := by
      rw [exec_stormEnd released, State.takeOwedOf_some waits, State.takeShare]
    refine ⟨fun last => ?_, fun n earlier timer => ?_⟩
    · rw [taken, State.stormStart_last (by exact last)]
      rfl
    · rw [taken, State.stormStart_earlier earlier (by exact timer)]
      rfl
  · rw [exec_stormEnd released, State.takeOwedOf_nil _ noneWaits]

/-! ### The hold time of a flow (R106, R107) -/

/-- No other copy is coming to a flow on one bearer, so it waits for no skew (R107). -/
theorem State.holdTimeOf_unskewed (s : State) {x : EntryFields}
    (protection : x.protection = .fibre ∨ x.protection = .radio) :
    s.holdTimeOf x = max 4 (min 12288 (x.margin + s.guard)) := by
  rw [State.holdTimeOf, if_pos protection]

/-- A flow that the sender puts on both bearers may wait for the later one's copy, so the skew term
and J belong in its wait (R107). -/
theorem State.holdTimeOf_skewed (s : State) {x : EntryFields}
    (protection : ¬ (x.protection = .fibre ∨ x.protection = .radio)) :
    s.holdTimeOf x = max 4 (min 12288 (s.skew.skewTerm + s.skew.j + x.margin + s.guard)) := by
  rw [State.holdTimeOf, if_neg protection]

/-- Whatever a hold time is formed from, it is clamped (R107). -/
theorem State.holdTimeOf_bounds (s : State) (x : EntryFields) :
    4 ≤ s.holdTimeOf x ∧ s.holdTimeOf x ≤ 12288 := by
  unfold State.holdTimeOf
  exact ⟨le_max_left _ _, max_le (by decide) (min_le_left _ _)⟩

/-- Settles O33: the protection chooses between the two sums, and the clamp bounds both. -/
theorem holdTimeByProtection : Obligations.HoldTimeByProtection := by
  intro s x
  refine ⟨s.holdTimeOf_unskewed, fun protection => s.holdTimeOf_skewed ?_,
    s.holdTimeOf_bounds x⟩
  rcases protection with h | h | h <;> simp [h]

end Sys2Proof.Machine
end

section
/-! SUPPORT. Where the 16384 buffers stand (R128): what one event of a Merge Window and each operation
of the part do to the free stack and the held cells' buffers; and the proof that every step keeps each
buffer once. -/

namespace Sys2Proof.Machine

/-! ### The buffers of one window's event -/

/-- The buffers that an event of one window can move: those on the free stack and those under the
window's own held cells (R128). -/
def MergeTurn.buffers (m : MergeTurn) : List BufferNo :=
  m.free ++ m.window.held.map HeldRecord.buffer

/-- What a drain takes from under held cells it puts on the free stack. -/
theorem MergeTurn.drain_buffers (fills : Bool) (givenUp : HeldRecord → Bool) (m : MergeTurn)
    (held : List HeldRecord) :
    (m.drain fills givenUp held).buffers.Perm (m.free ++ held.map HeldRecord.buffer) := by
  obtain ⟨-, -, -, gone, split, free⟩ := m.drain_kept fills givenUp held
  rw [MergeTurn.buffers, free]
  conv => rhs; rw [split, List.map_append]
  rw [← List.append_assoc]
  exact ((List.reverse_perm _).append_right _).trans List.perm_append_comm |>.append_right _

theorem MergeTurn.releaseRun_buffers (m : MergeTurn) (fills : Bool) :
    (m.releaseRun fills).buffers.Perm m.buffers :=
  m.drain_buffers fills _ _

/-- A cell held moves the buffer on top of the stack under it (R117). -/
theorem MergeTurn.hold_buffers {m : MergeTurn} {b : BufferNo} {rest : List BufferNo}
    (top : m.free = b :: rest) (a : Arrival) : (m.hold a b rest).buffers.Perm m.buffers := by
  have inserted := (insertHeld_perm m.window.next ⟨a.sequence, b, a.stamp, a.bearer⟩
    m.window.held).map HeldRecord.buffer
  rw [MergeTurn.buffers.eq_def m, top]
  exact (inserted.append_left rest).trans List.perm_middle

theorem MergeTurn.ahead_buffers (m : MergeTurn) (rule : FlowRule) (a : Arrival) :
    (m.ahead rule a).1.buffers.Perm m.buffers := by
  unfold MergeTurn.ahead
  split
  · exact .refl _
  · split
    · exact .refl _
    · next b rest top =>
      have held := MergeTurn.hold_buffers top a
      dsimp only
      split
      · exact (MergeTurn.releaseRun_buffers _ rule.fills).trans held
      · exact held

theorem MergeTurn.flush_buffers (m : MergeTurn) : m.flush.buffers.Perm m.buffers := by
  rw [MergeTurn.buffers, MergeTurn.flush_free, MergeTurn.flush_window, List.map_nil, List.append_nil]
  exact ((List.reverse_perm _).append_right _).trans List.perm_append_comm

theorem MergeTurn.stale_buffers (m : MergeTurn) : m.stale.1.buffers.Perm m.buffers := by
  unfold MergeTurn.stale
  dsimp only
  split
  · exact MergeTurn.flush_buffers _
  · exact .refl _

/-- An arrival of any band only moves buffers (R114 to R121). -/
theorem MergeTurn.arrive_buffers (m : MergeTurn) (f : Flow) (rule : FlowRule) (a : Arrival) :
    (m.arrive f rule a).1.buffers.Perm m.buffers := by
  unfold MergeTurn.arrive
  split
  · exact .refl _
  · split
    · exact MergeTurn.releaseRun_buffers _ rule.fills
    · exact m.ahead_buffers rule a
    · exact m.drain_buffers rule.fills _ _
    · exact m.stale_buffers
    · exact .refl _

/-- An expiry only moves buffers (R123). -/
theorem MergeTurn.expire_buffers (m : MergeTurn) (fills : Bool) (holdOver : HeldRecord → Bool) :
    (m.expire fills holdOver).buffers.Perm m.buffers := by
  unfold MergeTurn.expire
  split
  · exact .refl _
  · next r rs held =>
    rw [MergeTurn.buffers.eq_def m, held]
    exact (MergeTurn.drain_buffers fills holdOver _ rs).trans List.perm_middle.symm

/-! ### The buffers of the whole Merge Unit -/

/-- The buffers of the cells that flows other than `f` hold. -/
def MergeUnit.otherBuffers (u : MergeUnit) (f : Flow) : List BufferNo :=
  (allFlows.erase f).flatMap fun g => (u.window.read g).held.map HeldRecord.buffer

theorem MergeUnit.heldBuffers_perm (u : MergeUnit) (f : Flow) :
    u.heldBuffers.Perm ((u.window.read f).held.map HeldRecord.buffer ++ u.otherBuffers f) :=
  (List.perm_cons_erase (mem_allFlows f)).flatMap_right _

/-- An event of flow `f`'s window leaves the other flows' buffers where they are. -/
theorem MergeUnit.done_otherBuffers (u : MergeUnit) (f : Flow) (m : MergeTurn) :
    (u.done f m).otherBuffers f = u.otherBuffers f := by
  refine List.flatMap_congr fun g others => ?_
  have other : g ≠ f := ((List.nodup_finRange 64).mem_erase_iff.mp others).1
  simp [other]

/-- An event that only moves buffers between the free stack and its own window keeps every buffer. -/
theorem MergeUnit.buffersKept.done {u : MergeUnit} (kept : u.buffersKept) {f : Flow} {m : MergeTurn}
    (moved : m.buffers.Perm (u.turn f).buffers) : (u.done f m).buffersKept := by
  have whole (v : MergeUnit) : (v.free ++ v.heldBuffers).Perm
      ((v.turn f).buffers ++ v.otherBuffers f) := by
    rw [MergeTurn.buffers, List.append_assoc]
    exact (v.heldBuffers_perm f).append_left v.free
  have after : ((u.done f m).turn f).buffers = m.buffers := by
    simp [MergeTurn.buffers, MergeUnit.turn, MergeUnit.done]
  have split := whole (u.done f m)
  rw [after, u.done_otherBuffers f m] at split
  exact (split.trans (moved.append_right _)).trans ((whole u).symm.trans kept)

theorem MergeUnit.buffersKept.flushFlows {u : MergeUnit} (kept : u.buffersKept)
    (flows : List Flow) : (u.flushFlows flows).buffersKept := by
  unfold MergeUnit.flushFlows
  induction flows generalizing u with
  | nil => exact kept
  | cons f flows ih => exact ih (kept.done (MergeTurn.flush_buffers _))

/-- With nothing held and the free stack in its power-on order every buffer is on the stack (R128,
R131). -/
theorem MergeUnit.buffersKept_of_empty {u : MergeUnit} (free : u.free = powerOnFree)
    (window : u.window = Tab.fill 64 MergeWindow.powerOn) : u.buffersKept := by
  have held : u.heldBuffers = [] := by
    simp [MergeUnit.heldBuffers, window, MergeWindow.powerOn]
  rw [MergeUnit.buffersKept, held, free, List.append_nil]

/-! ### Operations that keep every buffer (R128) -/

/-- From `s` to `t` each buffer stays once on the free stack or once under a held cell. -/
def State.KeepsBuffers (s t : State) : Prop := s.merge.buffersKept → t.merge.buffersKept

theorem State.KeepsBuffers.of_merge {s t : State} (merge : t.merge = s.merge) :
    s.KeepsBuffers t := by
  rw [State.KeepsBuffers, merge]
  exact id

theorem State.mergeArrival_keepsBuffers (s : State) (f : Flow) (a : Arrival) :
    s.KeepsBuffers (s.mergeArrival f a).1 := by
  intro kept
  unfold State.mergeArrival
  split
  · exact kept
  · rw [State.followHold_merge, State.raiseSome_merge]
    exact kept.done (MergeTurn.arrive_buffers _ f _ a)

theorem State.mergeExpiry_keepsBuffers (s : State) (f : Flow) :
    s.KeepsBuffers (s.mergeExpiry f).1 := by
  intro kept
  unfold State.mergeExpiry
  split
  · exact kept
  · exact kept.done (MergeTurn.expire_buffers _ _ _)

theorem State.executeSwap_keepsBuffers (s : State) (x : Superframe) :
    s.KeepsBuffers (s.executeSwap x) := by
  intro kept
  rw [State.executeSwap_merge]
  exact kept.flushFlows _

theorem State.swapAtStep_keepsBuffers (s : State) (old new : Superframe) :
    s.KeepsBuffers (s.swapAtStep old new) := by
  unfold State.swapAtStep
  split
  · split
    · intro kept
      rw [State.recomputePlan_merge]
      exact s.executeSwap_keepsBuffers _ kept
    · exact id
  · exact id

theorem State.superframeStart_keepsBuffers (s : State) (n : Superframe) (counted : Bool) :
    s.KeepsBuffers (s.superframeStart n counted) := by
  intro kept
  have begun : (s.collectingStart n).merge = s.merge := by simp [State.collectingStart]
  obtain ⟨-, -, -, -, -, -, -, merge, -⟩ := s.superframeStart_shares n counted
  rw [merge]
  simp only [State.sharesAtStart, State.formBatches_merge, State.openTransmitters_merge,
    State.sampleGrade_merge, State.timersAtStart_merge, State.planAtStart_merge, begun]
  split
  · exact kept.flushFlows _
  · exact kept

theorem State.run_keepsBuffers (s : State) (c : Command) : s.KeepsBuffers (s.run c).2 := by
  cases c with
  | readFlowCounts flow clear =>
    rw [State.run, State.runReadFlowCounts]
    split <;> exact id
  | readBearer bearer clear =>
    rw [State.run, State.runReadBearer]
    split <;> exact .of_merge (by simp)
  | setSetting name index value =>
    exact .of_merge (by simp [State.run, State.runSetSetting, State.rejudgeHolds])
  | setTally object mask lamps =>
    rw [State.run, State.runSetTally]
    split
    · exact id
    · rw [State.runSetTallyOverride]; split <;> exact id
    · exact id
  | ackEvents events =>
    rw [State.run, State.runAckEvents]
    split <;> exact id
  | flushTributary trib =>
    rw [State.run, State.runFlushTributary]
    split <;> exact id
  | resetDatapath =>
    intro _
    rw [State.run, State.runResetDatapath, State.datapathReset, State.recomputePlan_merge]
    exact MergeUnit.buffersKept_of_empty rfl rfl
  | identify | readEntry | writeEntry | clearEntry | copyEntries | checkShadow | swapAt | cancelSwap
  | readLink | readSettings | setWindow | freezeWindow | setBar | clearBar | clearTallyOverride
  | readEvents => exact id

theorem stepLaw_keepsBuffers : StepLaw State.KeepsBuffers where
  refl _ := id
  trans h h' := h' ∘ h
  pending _ _ := id
  pins _ _ := id
  occasion _ := id
  owed _ _ := id
  powerOn _ _ _ _ _ _ _ := MergeUnit.buffersKept_of_empty rfl rfl
  clock _ _ _ _ := id
  followMove _ _ _ := id
  timeStep _ _ _ := id
  ingressArrival _ _ _ := .of_merge (by simp)
  egressTake _ _ := id
  egressReady _ _ _ := id
  portTake _ := id
  run := State.run_keepsBuffers
  answer _ _ _ _ _ := .of_merge (by simp)
  malformedCell _ := id
  placePort _ _ _ := .of_merge (by simp)
  sendOn _ _ _ _ := id
  mergeArrival := State.mergeArrival_keepsBuffers
  mergeExpiry := State.mergeExpiry_keepsBuffers
  handOver _ _ _ _ := .of_merge (by simp)
  tallyDelivery _ d := by cases d <;> exact id
  takeShare _ _ := .of_merge (by simp)
  superframeStart := State.superframeStart_keepsBuffers
  swapAtStep := State.swapAtStep_keepsBuffers
  sampleStrikes _ := .of_merge (by simp)
  judgeHolds _ := id
  sendSlot _ := .of_merge (by simp)
  examine _ _ _ _ := .of_merge (by simp)
  confirmCell _ _ _ := .of_merge (by simp)
  endBadRun _ _ := .of_merge (by simp)
  badHeader _ _ := by
    unfold State.badHeader
    dsimp only
    split <;> exact .of_merge (by simp)
  receiverMarker _ _ _ := .of_merge (by simp)
  skewMarker _ _ _ _ := .of_merge (by simp)
  farReport _ _ := .of_merge (by simp)

/-- Settles O54: every operation of a step that touches the Merge Unit only moves buffers between the
free stack and held cells, or puts all of them back on the stack. -/
theorem stepKeepsEveryBuffer : Obligations.StepKeepsEveryBuffer :=
  fun _ _ h => stepLaw_keepsBuffers.step h

end Sys2Proof.Machine
end

section
/-! SUPPORT. The order of the held cells of a Merge Window (R112): how distances from N change as N goes
on, what a release of a consecutive run and a drain that gives up every gap do, and how a drain keeps
the order. -/

namespace Sys2Proof.Machine

/-! ### Distances (R112) -/

/-- The distance of a held cell from `n` (R112). -/
def HeldRecord.ahead (r : HeldRecord) (n : Seq) : Nat := (r.sequence - n).toNat

theorem MergeWindow.distance_held (w : MergeWindow) (r : HeldRecord) :
    w.distance r.sequence = r.ahead w.next := rfl

/-- A sequence beyond `p` is nearer by what N goes on when it comes to stand after `p`. -/
theorem distance_after {n p q : Seq} (beyond : (p - n).toNat < (q - n).toNat) :
    (q - (p + 1)).toNat + ((p - n).toNat + 1) = (q - n).toNat := by
  bv_omega

theorem HeldRecord.ahead_pos {r : HeldRecord} {n : Seq} (h : r.sequence ≠ n) : 1 ≤ r.ahead n := by
  unfold HeldRecord.ahead
  bv_omega

theorem HeldRecord.ahead_zero_iff {r : HeldRecord} {n : Seq} : r.ahead n = 0 ↔ r.sequence = n := by
  unfold HeldRecord.ahead
  constructor <;> intro h <;> bv_omega

/-- Two cells at one distance carry one sequence. -/
theorem HeldRecord.ahead_inj {r x : HeldRecord} {n : Seq} (same : r.ahead n = x.ahead n) :
    r.sequence = x.sequence := by
  unfold HeldRecord.ahead at same
  bv_omega

/-! ### Held lists in order (R112) -/

/-- Held cells in rising distance from `n`, none further ahead than `limit` (R112). -/
def HeldInOrder (n : Seq) (limit : Nat) (held : List HeldRecord) : Prop :=
  held.Pairwise (fun a b => a.ahead n < b.ahead n) ∧ ∀ r ∈ held, r.ahead n ≤ limit

/-- The laws of the window of a flow that is received (R111, R112). -/
theorem MergeWindow.lawful_some_iff (w : MergeWindow) (x : EntryFields) :
    w.lawful (some x) ↔ (w.running = false → w.held = []) ∧
      HeldInOrder w.next (x.depth - 1) w.held ∧ ∀ r ∈ w.held, 1 ≤ r.ahead w.next := by
  simp only [MergeWindow.lawful, MergeWindow.distance_held, List.pairwise_map, HeldInOrder]
  constructor
  · rintro ⟨unset, rising, range⟩
    exact ⟨unset, ⟨rising, fun r hr => (range r hr).2⟩, fun r hr => (range r hr).1⟩
  · rintro ⟨unset, ⟨rising, near⟩, beyond⟩
    exact ⟨unset, rising, fun r hr => ⟨beyond r hr, near r hr⟩⟩

/-- What the release of the lowest held cell brings the others nearer by. -/
theorem HeldInOrder.nearer {n : Seq} {limit : Nat} {r : HeldRecord} {rs : List HeldRecord}
    (order : HeldInOrder n limit (r :: rs)) (x : HeldRecord) (hx : x ∈ rs) :
    x.ahead (r.sequence + 1) + (r.ahead n + 1) = x.ahead n :=
  distance_after ((List.pairwise_cons.mp order.1).1 x hx)

/-- Once the lowest held cell is released the others stand in order from the sequence after it. -/
theorem HeldInOrder.tail {n : Seq} {limit : Nat} {r : HeldRecord} {rs : List HeldRecord}
    (order : HeldInOrder n limit (r :: rs)) : HeldInOrder (r.sequence + 1) limit rs := by
  obtain ⟨-, rising⟩ := List.pairwise_cons.mp order.1
  refine ⟨rising.imp_of_mem fun {a b} ha hb closer => ?_, fun x hx => ?_⟩
  · have := order.nearer a ha
    have := order.nearer b hb
    omega
  · have := order.nearer x hx
    have := order.2 x (List.mem_cons_of_mem _ hx)
    omega

/-- Where the lowest held cell does not carry N none does. -/
theorem HeldInOrder.beyond {n : Seq} {limit : Nat} {r : HeldRecord} {rs : List HeldRecord}
    (order : HeldInOrder n limit (r :: rs)) (gap : r.sequence ≠ n) :
    ∀ x ∈ r :: rs, 1 ≤ x.ahead n := by
  obtain ⟨lowest, -⟩ := List.pairwise_cons.mp order.1
  have first := HeldRecord.ahead_pos gap
  intro x hx
  rcases List.mem_cons.mp hx with rfl | later
  · exact first
  · exact first.trans (lowest x later).le

/-- N goes on by one where no held cell carries it: all stand in order from the sequence after it. -/
theorem HeldInOrder.step {n : Seq} {limit : Nat} {held : List HeldRecord}
    (order : HeldInOrder n limit held) (beyond : ∀ r ∈ held, 1 ≤ r.ahead n) :
    HeldInOrder (n + 1) limit held := by
  have nearer (x : HeldRecord) (hx : x ∈ held) : x.ahead (n + 1) + 1 = x.ahead n := by
    have own : (n - n).toNat = 0 := by simp
    have moved := distance_after (n := n) (p := n) (q := x.sequence) (own ▸ beyond x hx)
    rwa [own] at moved
  refine ⟨order.1.imp_of_mem fun {a b} ha hb closer => ?_, fun x hx => ?_⟩
  · have := nearer a ha
    have := nearer b hb
    omega
  · have := nearer x hx
    have := order.2 x hx
    omega

/-- A cell whose sequence is not held joins the others in its place (R117). -/
theorem HeldInOrder.insert {n : Seq} {limit : Nat} {r : HeldRecord} {held : List HeldRecord}
    (order : HeldInOrder n limit held) (fresh : ∀ x ∈ held, x.sequence ≠ r.sequence)
    (near : r.ahead n ≤ limit) : HeldInOrder n limit (insertHeld n r held) := by
  have bound : ∀ x ∈ insertHeld n r held, x.ahead n ≤ limit := by
    intro x hx
    rcases List.mem_cons.mp ((insertHeld_perm n r held).mem_iff.mp hx) with rfl | old
    · exact near
    · exact order.2 x old
  refine ⟨?_, bound⟩
  obtain ⟨rising, -⟩ := order
  clear bound near
  induction held with
  | nil => exact List.pairwise_singleton _ _
  | cons x xs ih =>
    obtain ⟨lowest, rising'⟩ := List.pairwise_cons.mp rising
    unfold insertHeld
    split
    · next closer =>
      refine List.pairwise_cons.mpr ⟨fun y hy => ?_, rising⟩
      rcases List.mem_cons.mp hy with rfl | later
      · exact closer
      · exact closer.trans (lowest y later)
    · next further =>
      have apart : x.ahead n ≠ r.ahead n := fun same =>
        fresh x List.mem_cons_self (HeldRecord.ahead_inj same)
      refine List.pairwise_cons.mpr ⟨fun y hy => ?_,
        ih (fun y hy => fresh y (List.mem_cons_of_mem _ hy)) rising'⟩
      rcases List.mem_cons.mp ((insertHeld_perm n r xs).mem_iff.mp hy) with rfl | later
      · exact lt_of_le_of_ne (Nat.le_of_not_lt further) apart
      · exact lowest y later

/-- Rising numbers from `a` on that leave no room between them are consecutive. -/
theorem eq_range'_of_rising {l : List Nat} {a : Nat} (rising : l.Pairwise (· < ·))
    (low : ∀ x ∈ l, a ≤ x) (high : ∀ x ∈ l, x < a + l.length) : l = List.range' a l.length := by
  induction l generalizing a with
  | nil => rfl
  | cons x xs ih =>
    obtain ⟨least, rising⟩ := List.pairwise_cons.mp rising
    have from_a := low x List.mem_cons_self
    have rest : xs = List.range' (x + 1) xs.length := by
      refine ih rising least fun y hy => ?_
      have := high y (List.mem_cons_of_mem _ hy)
      rw [List.length_cons] at this
      omega
    have first : x = a := by
      rcases Nat.eq_zero_or_pos xs.length with none | some
      · have := high x List.mem_cons_self
        rw [List.length_cons, none] at this
        omega
      · have last : x + xs.length ∈ xs := by
          rw [rest, List.mem_range'_1, List.length_range']
          omega
        have := high _ (List.mem_cons_of_mem _ last)
        rw [List.length_cons] at this
        omega
    rw [List.length_cons, List.range'_succ, ← first, ← rest]

/-- In a full window every sequence from the one after N is held, in order (R118). -/
theorem HeldInOrder.full {n : Seq} {held : List HeldRecord}
    (order : HeldInOrder n held.length held) (beyond : ∀ r ∈ held, 1 ≤ r.ahead n) {i : Nat}
    {r : HeldRecord} (hi : held[i]? = some r) : r.sequence = n + 1 + BitVec.ofNat 16 i := by
  have consecutive : held.map (HeldRecord.ahead · n) = List.range' 1 held.length := by
    have := eq_range'_of_rising (l := held.map (HeldRecord.ahead · n)) (a := 1)
      (List.pairwise_map.mpr order.1) (by simpa using beyond)
      (by
        intro d hd
        obtain ⟨x, hx, rfl⟩ := List.mem_map.mp hd
        have := order.2 x hx
        rw [List.length_map]
        omega)
    rwa [List.length_map] at this
  have place : r.ahead n = 1 + i := by
    have read := congrArg (·[i]?) consecutive
    obtain ⟨inside, -⟩ := List.getElem?_eq_some_iff.mp hi
    simp only [List.getElem?_map, hi, List.getElem?_range' inside] at read
    simpa using read
  unfold HeldRecord.ahead at place
  bv_omega

/-! ### A drain keeps the order (R116, R119, R123) -/

/-- What a drain leaves held stands in order from the N it leaves, and beyond it. -/
theorem MergeTurn.drain_inOrder (fills : Bool) (givenUp : HeldRecord → Bool) {limit : Nat}
    (m : MergeTurn) (held : List HeldRecord) (order : HeldInOrder m.window.next limit held) :
    let t := m.drain fills givenUp held
    HeldInOrder t.window.next limit t.window.held ∧
      ∀ r ∈ t.window.held, 1 ≤ r.ahead t.window.next := by
  induction held generalizing m with
  | nil => exact ⟨⟨List.Pairwise.nil, fun r hr => by cases hr⟩, fun r hr => by cases hr⟩
  | cons r rs ih =>
    by_cases next : r.sequence = m.window.next
    · rw [m.drain_next fills givenUp r rs next]
      exact ih (m.releaseHeld r) order.tail
    · by_cases gap : givenUp r = true
      · rw [m.drain_gap fills givenUp r rs next gap]
        exact ih ((m.loseTo fills r.sequence).releaseHeld r) order.tail
      · rw [m.drain_stays fills givenUp r rs next (Bool.not_eq_true _ ▸ gap)]
        exact ⟨order, order.beyond next⟩

/-! ### The release of a consecutive run (R116) -/

/-- Some held cells released one after the other, whatever their sequences: counted by bearer, their
buffers returned, N after the last. -/
def MergeTurn.releaseAll (m : MergeTurn) (run : List HeldRecord) : MergeTurn :=
  run.foldl MergeTurn.releaseHeld m

/-- A drain releases the consecutive run that begins at N and goes on behind it. -/
theorem MergeTurn.drain_run (fills : Bool) (givenUp : HeldRecord → Bool) (m : MergeTurn)
    (run rest : List HeldRecord) (consecutive : ∀ (i : Nat) (r : HeldRecord), run[i]? = some r →
      r.sequence = m.window.next + BitVec.ofNat 16 i) :
    m.drain fills givenUp (run ++ rest) = (m.releaseAll run).drain fills givenUp rest := by
  induction run generalizing m with
  | nil => rfl
  | cons r run ih =>
    have next : r.sequence = m.window.next := by simpa using consecutive 0 r rfl
    rw [List.cons_append, m.drain_next fills givenUp r _ next]
    refine ih (m.releaseHeld r) fun i x hx => ?_
    have later := consecutive (i + 1) x hx
    rw [MergeTurn.releaseHeld_window, later, next]
    bv_omega

/-- A consecutive run released: N stands after it, and everything else as each release leaves it. -/
theorem MergeTurn.releaseAll_eq (m : MergeTurn) (run : List HeldRecord)
    (consecutive : ∀ (i : Nat) (r : HeldRecord), run[i]? = some r →
      r.sequence = m.window.next + BitVec.ofNat 16 i) :
    m.releaseAll run = { m with
      window := { m.window with next := m.window.next + BitVec.ofNat 16 run.length }
      counts := run.foldl (fun c r => c.released r.bearer) m.counts
      free := (run.map HeldRecord.buffer).reverse ++ m.free
      out := m.out ++ run.map fun r => .cell (poolRead m.pool r.buffer.val) } := by
  induction run generalizing m with
  | nil => simp [MergeTurn.releaseAll]
  | cons r run ih =>
    have next : r.sequence = m.window.next := by simpa using consecutive 0 r rfl
    have rest := ih (m.releaseHeld r) fun i x hx => by
      have later := consecutive (i + 1) x hx
      rw [MergeTurn.releaseHeld_window, later, next]
      bv_omega
    have after : m.window.next + 1 + BitVec.ofNat 16 run.length =
        m.window.next + BitVec.ofNat 16 (run.length + 1) := by bv_omega
    rw [MergeTurn.releaseAll, List.foldl_cons]
    rw [MergeTurn.releaseAll] at rest
    rw [rest]
    rw [List.length_cons, ← after]
    simp [MergeTurn.releaseHeld, next]

/-- A drain that gives up no gap stops at the first cell that does not carry N. -/
theorem MergeTurn.drain_stops (fills : Bool) (m : MergeTurn) (rest : List HeldRecord)
    (gap : ∀ r : HeldRecord, rest.head? = some r → r.sequence ≠ m.window.next) :
    m.drain fills (fun _ => false) rest = { m with window := { m.window with held := rest } } := by
  cases rest with
  | nil => exact m.drain_nil fills _
  | cons r rs => exact m.drain_stays fills _ r rs (gap r rfl) rfl

/-- The consecutive run at the head of the held list released: N stands after it, and the held cells
behind the gap stay (R116). -/
theorem MergeTurn.releaseRun_eq (m : MergeTurn) {run rest : List HeldRecord} (fills : Bool)
    (held : m.window.held = run ++ rest)
    (consecutive : ∀ (i : Nat) (r : HeldRecord), run[i]? = some r →
      r.sequence = m.window.next + BitVec.ofNat 16 i)
    (gap : ∀ r : HeldRecord, rest.head? = some r →
      r.sequence ≠ m.window.next + BitVec.ofNat 16 run.length) :
    m.releaseRun fills = { m with
      window := { m.window with
        next := m.window.next + BitVec.ofNat 16 run.length, held := rest }
      counts := run.foldl (fun c r => c.released r.bearer) m.counts
      free := (run.map HeldRecord.buffer).reverse ++ m.free
      out := m.out ++ run.map fun r => .cell (poolRead m.pool r.buffer.val) } := by
  rw [MergeTurn.releaseRun, held, m.drain_run fills _ run rest consecutive,
    m.releaseAll_eq run consecutive, MergeTurn.drain_stops _ _ rest gap]

/-- The releases of some held cells change the first counts alone. -/
theorem MergeCounts.releasedAll_kept (c : MergeCounts) (run : List HeldRecord) :
    (run.foldl (fun c r => c.released r.bearer) c).lost = c.lost ∧
    (run.foldl (fun c r => c.released r.bearer) c).forced = c.forced := by
  induction run generalizing c with
  | nil => exact ⟨rfl, rfl⟩
  | cons r run ih =>
    obtain ⟨lost, -, -, -, forced, -⟩ := c.released_kept r.bearer
    obtain ⟨lost', forced'⟩ := ih (c.released r.bearer)
    exact ⟨lost'.trans lost, forced'.trans forced⟩

/-! ### A drain that gives up every gap (R119) -/

/-- From `m` to `t` some more sequences are declared lost, with a loss fill each where the class has
them, and some cells are released (R125, R126). -/
structure MergeTurn.Passed (m t : MergeTurn) (fills : Bool) (gone released : Nat) : Prop where
  lost : t.counts.lost = satAdd m.counts.lost gone
  fill : t.counts.fill = if fills = true then satAdd m.counts.fill gone else m.counts.fill
  jump : t.counts.jump = m.counts.jump
  out : t.out.length = m.out.length + released + if fills = true then gone else 0

theorem MergeTurn.Passed.trans {m t u : MergeTurn} {fills : Bool} {j k j' k' : Nat}
    (h : m.Passed t fills j k) (h' : t.Passed u fills j' k') :
    m.Passed u fills (j + j') (k + k') where
  lost := by rw [h'.lost, h.lost, satAdd_satAdd]
  fill := by
    rw [h'.fill, h.fill]
    cases fills <;> simp [satAdd_satAdd]
  jump := h'.jump.trans h.jump
  out := by
    rw [h'.out, h.out]
    cases fills <;> simp <;> omega

theorem MergeTurn.passed_loseTo (m : MergeTurn) (fills : Bool) (q : Seq) :
    m.Passed (m.loseTo fills q) fills (m.window.distance q) 0 where
  lost := rfl
  fill := rfl
  jump := rfl
  out := by cases fills <;> simp [MergeTurn.loseTo, MergeWindow.distance]

/-- A cell of bearer `b` released loses nothing. -/
theorem MergeTurn.passed_release {m t : MergeTurn} (fills : Bool) {b : Bearer}
    (counts : t.counts = m.counts.released b) (out : t.out.length = m.out.length + 1) :
    m.Passed t fills 0 1 := by
  obtain ⟨lost, fill, -, -, -, jump, -⟩ := m.counts.released_kept b
  constructor
  · rw [counts, lost, satAdd_zero]
  · rw [counts, fill, satAdd_zero, ite_self]
  · rw [counts, jump]
  · rw [out, ite_self, Nat.add_zero]

theorem MergeTurn.passed_releaseHeld (m : MergeTurn) (fills : Bool) (r : HeldRecord) :
    m.Passed (m.releaseHeld r) fills 0 1 :=
  MergeTurn.passed_release fills rfl (by simp)

/-- A drain that gives up every gap takes the lowest held cell with what is missing before it. -/
theorem MergeTurn.drain_all_cons (fills : Bool) (m : MergeTurn) (r : HeldRecord)
    (rs : List HeldRecord) : ∃ t : MergeTurn,
      m.drain fills (fun _ => true) (r :: rs) = t.drain fills (fun _ => true) rs ∧
      t.window.next = r.sequence + 1 ∧ m.Passed t fills (r.ahead m.window.next) 1 := by
  by_cases next : r.sequence = m.window.next
  · refine ⟨m.releaseHeld r, m.drain_next fills _ r rs next, rfl, ?_⟩
    rw [HeldRecord.ahead_zero_iff.mpr next]
    exact m.passed_releaseHeld fills r
  · refine ⟨_, m.drain_gap fills _ r rs next rfl, rfl, ?_⟩
    have both := (m.passed_loseTo fills r.sequence).trans (MergeTurn.passed_releaseHeld _ fills r)
    rwa [Nat.add_zero, Nat.zero_add] at both

/-- A drain that gives up every gap of cells short of `q` releases them all and loses the sequences
between them, so that N comes nearer to `q` by both (R119). -/
theorem MergeTurn.drain_all_passed (fills : Bool) {limit : Nat} (q : Seq) (m : MergeTurn)
    (held : List HeldRecord) (order : HeldInOrder m.window.next limit held)
    (short : ∀ r ∈ held, r.ahead m.window.next < m.window.distance q) :
    let t := m.drain fills (fun _ => true) held
    ∃ gone : Nat, m.Passed t fills gone held.length ∧
      t.window.distance q + held.length + gone = m.window.distance q := by
  induction held generalizing m with
  | nil =>
    refine ⟨0, ⟨?_, ?_, rfl, ?_⟩, rfl⟩ <;> simp [m.drain_nil]
  | cons r rs ih =>
    obtain ⟨t, onward, next, passed⟩ := m.drain_all_cons fills r rs
    have nearer : t.window.distance q + (r.ahead m.window.next + 1) = m.window.distance q := by
      rw [MergeWindow.distance, next]
      exact distance_after (short r List.mem_cons_self)
    obtain ⟨gone, rest, distance⟩ := ih t (next ▸ order.tail) fun x hx => by
      have := order.nearer x hx
      have := short x (List.mem_cons_of_mem _ hx)
      rw [next]
      omega
    refine ⟨r.ahead m.window.next + gone, ?_, ?_⟩
    · rw [onward, List.length_cons, Nat.add_comm rs.length]
      exact passed.trans rest
    · rw [onward, List.length_cons]
      omega

end Sys2Proof.Machine
end

section
/-! SUPPORT. What an arrival does by the band of its distance (R114 to R121, R129, R130), and the proofs
about arrivals, jumps and forced releases. -/

namespace Sys2Proof.Machine

/-! ### The bands (R115) -/

/-- The distances that R115 gives each band in a window of the given depth. -/
def Band.Covers (depth d : Nat) : Band → Prop
  | .expected => d = 0
  | .ahead => 1 ≤ d ∧ d ≤ depth - 1
  | .jump => depth ≤ d ∧ d ≤ 32767
  | .stale => 32768 ≤ d ∧ d ≤ 57343
  | .behind => 57344 ≤ d ∧ d ≤ 65535

theorem bandOf_covers {depth d : Nat} (whole : d ≤ 65535) :
    (bandOf depth d).Covers depth d := by
  unfold bandOf
  split
  · next zero => exact zero
  · split
    · next near => exact ⟨by omega, by omega⟩
    · split
      · next far => exact ⟨by omega, far⟩
      · split
        · next stale => exact ⟨by omega, stale⟩
        · exact ⟨by omega, whole⟩

theorem bandOf_of_covers {depth d : Nat} (deep : 1 ≤ depth) (shallow : depth ≤ 32768) {b : Band}
    (covers : b.Covers depth d) : bandOf depth d = b := by
  cases b with
  | expected => exact if_pos covers
  | ahead =>
    obtain ⟨low, high⟩ := covers
    rw [bandOf, if_neg (by omega), if_pos (by omega)]
  | jump =>
    obtain ⟨low, high⟩ := covers
    rw [bandOf, if_neg (by omega), if_neg (by omega), if_pos high]
  | stale =>
    obtain ⟨low, high⟩ := covers
    rw [bandOf, if_neg (by omega), if_neg (by omega), if_neg (by omega), if_pos high]
  | behind =>
    obtain ⟨low, high⟩ := covers
    rw [bandOf, if_neg (by omega), if_neg (by omega), if_neg (by omega), if_neg (by omega)]

/-- Each distance lies in exactly the one band that covers it (R115). -/
theorem bandOf_eq_iff {depth d : Nat} (deep : 1 ≤ depth) (shallow : depth ≤ 32768)
    (whole : d ≤ 65535) (b : Band) : bandOf depth d = b ↔ b.Covers depth d :=
  ⟨fun h => h ▸ bandOf_covers whole, bandOf_of_covers deep shallow⟩

/-! ### Arrivals by band -/

theorem MergeTurn.arrive_unset {m : MergeTurn} (unset : m.window.running = false) (f : Flow)
    (rule : FlowRule) (a : Arrival) : m.arrive f rule a = (m.start a, none) :=
  if_pos unset

section
variable {m : MergeTurn} {rule : FlowRule} {a : Arrival} (running : m.window.running = true)
include running

theorem MergeTurn.arrive_expected
    (band : bandOf rule.depth (m.window.distance a.sequence) = .expected) (f : Flow) :
    m.arrive f rule a = (m.expected rule a, none) := by
  simp [MergeTurn.arrive, running, band]

theorem MergeTurn.arrive_ahead
    (band : bandOf rule.depth (m.window.distance a.sequence) = .ahead) (f : Flow) :
    m.arrive f rule a =
      ((m.ahead rule a).1, if (m.ahead rule a).2 then some (.poolEmpty, .flow f) else none) := by
  simp [MergeTurn.arrive, running, band]

theorem MergeTurn.arrive_jump
    (band : bandOf rule.depth (m.window.distance a.sequence) = .jump) (f : Flow) :
    m.arrive f rule a = (m.jump rule a, some (.windowJump, .jump f .jump)) := by
  simp [MergeTurn.arrive, running, band]

theorem MergeTurn.arrive_stale
    (band : bandOf rule.depth (m.window.distance a.sequence) = .stale) (f : Flow) :
    m.arrive f rule a =
      (m.stale.1, if m.stale.2 then some (.windowJump, .jump f .stale) else none) := by
  simp [MergeTurn.arrive, running, band]

theorem MergeTurn.arrive_behind
    (band : bandOf rule.depth (m.window.distance a.sequence) = .behind) (f : Flow) :
    m.arrive f rule a = (m.redundant, none) := by
  simp [MergeTurn.arrive, running, band]

end

/-- An expected arrival is released with the run of held cells consecutive to it, and the run ends
where a held cell does not carry the next sequence (R116). -/
theorem MergeTurn.expected_eq {m : MergeTurn} {run rest : List HeldRecord} (a : Arrival)
    (held : m.window.held = run ++ rest)
    (consecutive : ∀ (i : Nat) (r : HeldRecord), run[i]? = some r →
      r.sequence = a.sequence + 1 + BitVec.ofNat 16 i)
    (gap : ∀ r : HeldRecord, rest.head? = some r →
      r.sequence ≠ a.sequence + 1 + BitVec.ofNat 16 run.length) (rule : FlowRule) :
    m.expected rule a = { m with
      window := { m.window with
        next := a.sequence + 1 + BitVec.ofNat 16 run.length, held := rest, staleRun := 0 }
      counts := run.foldl (fun c r => c.released r.bearer) (m.counts.released a.bearer)
      free := (run.map HeldRecord.buffer).reverse ++ m.free
      out := m.out ++ [.cell a.data] ++
        run.map fun r => .cell (poolRead m.pool r.buffer.val) } := by
  rw [MergeTurn.expected, MergeTurn.releaseRun_eq (m.releaseArrival a.bearer a.sequence a.data)
    rule.fills held consecutive gap]
  rfl

/-! ### Ahead (R117, R118, R129) -/

theorem MergeWindow.holds_iff (w : MergeWindow) (q : Seq) :
    w.holds q = true ↔ ∃ r ∈ w.held, r.sequence = q := by
  simp [MergeWindow.holds]

theorem MergeTurn.ahead_held {m : MergeTurn} {a : Arrival}
    (held : ∃ r ∈ m.window.held, r.sequence = a.sequence) (rule : FlowRule) :
    m.ahead rule a = (m.redundant, false) :=
  if_pos ((m.window.holds_iff _).mpr held)

section
variable {m : MergeTurn} {a : Arrival} (fresh : ∀ r ∈ m.window.held, r.sequence ≠ a.sequence)
include fresh

theorem MergeTurn.not_holds : m.window.holds a.sequence = false := by
  rw [Bool.eq_false_iff, Ne, MergeWindow.holds_iff]
  rintro ⟨r, hr, same⟩
  exact fresh r hr same

theorem MergeTurn.ahead_starved (empty : m.free = []) (rule : FlowRule) :
    m.ahead rule a =
      ({ m.endStaleRun with counts := { m.counts with starved := satInc m.counts.starved } },
        true) := by
  simp [MergeTurn.ahead, MergeTurn.not_holds fresh, empty]

/-- A cell held that fills the window has it released by force (R117, R118). -/
theorem MergeTurn.ahead_hold {b : BufferNo} {rest : List BufferNo} (top : m.free = b :: rest)
    (rule : FlowRule) :
    m.ahead rule a = (if rule.depth ≤ m.window.held.length + 2
      then (m.hold a b rest).forcedRelease rule else m.hold a b rest, false) := by
  have length : (m.hold a b rest).window.held.length = m.window.held.length + 1 :=
    (insertHeld_perm _ _ _).length_eq
  simp [MergeTurn.ahead, MergeTurn.not_holds fresh, top, MergeWindow.full, length]

end

/-! ### Stale (R120, R130) -/

theorem MergeTurn.stale_earlier {m : MergeTurn} (earlier : m.window.staleRun + 1 < 16) :
    m.stale = ({ m with
      window := { m.window with staleRun := m.window.staleRun + 1 }
      counts := { m.counts with stale := satInc m.counts.stale } }, false) :=
  if_neg (Nat.not_le.mpr earlier)

theorem MergeTurn.stale_sixteenth {m : MergeTurn} (sixteenth : 16 ≤ m.window.staleRun + 1) :
    m.stale = ({ m with
      window := { m.window with running := false, held := [], staleRun := 0 }
      counts := { m.counts with
        stale := satInc m.counts.stale
        flushed := satAdd m.counts.flushed m.window.held.length
        staleFlush := satInc m.counts.staleFlush }
      free := (m.window.held.map HeldRecord.buffer).reverse ++ m.free }, true) := by
  rw [← MergeTurn.flush_free]
  exact if_pos sixteenth

/-- Settles O34: each band by its own lemma; the bands of R115 cover the distances once each. -/
theorem bandsOfAnArrival : Obligations.BandsOfAnArrival := by
  refine ⟨fun depth d deep shallow whole => ?_, fun m f rule a deep shallow => ?_⟩
  · have band := bandOf_eq_iff (depth := depth) (d := d) (by omega) (by omega) whole
    exact ⟨band .expected, band .ahead, band .jump, band .stale, band .behind⟩
  · intro d
    have whole : d ≤ 65535 := Nat.le_of_lt_succ (a.sequence - m.window.next).isLt
    have band {b : Band} (covers : b.Covers rule.depth d) : bandOf rule.depth d = b :=
      bandOf_of_covers (by omega) (by omega) covers
    refine ⟨fun unset => m.arrive_unset unset f rule a, ?expected, ?ahead, ?jump, ?stale, ?behind⟩
    case expected =>
      intro running zero run rest held consecutive gap
      rw [MergeTurn.arrive_expected running (band (b := .expected) zero),
        MergeTurn.expected_eq a held consecutive gap rule]
    case ahead =>
      intro running low high
      rw [MergeTurn.arrive_ahead running (band (b := .ahead) ⟨low, high⟩)]
      refine ⟨fun held => ?_, fun fresh => ⟨fun empty => ?_, fun b rest top => ?_⟩⟩
      · rw [MergeTurn.ahead_held held]; rfl
      · rw [MergeTurn.ahead_starved fresh empty]; rfl
      · refine ⟨_, insertHeld_perm m.window.next _ _, fun rising => ?_, ?_⟩
        · rw [List.pairwise_map] at rising ⊢
          exact (HeldInOrder.insert (r := ⟨a.sequence, b, a.stamp, a.bearer⟩) (limit := 65535)
            ⟨rising, fun r _ => Nat.le_of_lt_succ (r.sequence - m.window.next).isLt⟩ fresh whole).1
        · rw [MergeTurn.ahead_hold fresh top]; rfl
    case jump =>
      intro running low high
      rw [MergeTurn.arrive_jump running (band (b := .jump) ⟨low, high⟩)]
      rfl
    case stale =>
      intro running low high
      rw [MergeTurn.arrive_stale running (band (b := .stale) ⟨low, high⟩)]
      refine ⟨fun earlier => ?_, fun sixteenth => ?_⟩
      · rw [MergeTurn.stale_earlier earlier]; rfl
      · rw [MergeTurn.stale_sixteenth sixteenth]; rfl
    case behind =>
      intro running low
      rw [MergeTurn.arrive_behind running (band (b := .behind) ⟨low, whole⟩)]
      rfl

/-! ### Jumps and forced releases (R118, R119) -/

/-- A jump arrival's sequence lies beyond every held cell of a lawful window. -/
theorem MergeWindow.lawful.short {w : MergeWindow} {x : EntryFields} {q : Seq}
    (lawful : w.lawful (some x)) (deep : 1 ≤ x.depth) (far : x.depth ≤ w.distance q) :
    ∀ r ∈ w.held, r.ahead w.next < w.distance q := by
  obtain ⟨-, ⟨-, near⟩, -⟩ := (w.lawful_some_iff x).mp lawful
  intro r hr
  have := near r hr
  omega

/-- Settles O35: the drain loses what is missing between the held cells, and the arrival what is
missing after them. -/
theorem jumpLosesWhatWasNotHeld : Obligations.JumpLosesWhatWasNotHeld := by
  intro m f x a running lawful deep far low k
  obtain ⟨-, order, -⟩ := (m.window.lawful_some_iff x).mp lawful
  obtain ⟨gone, drained, distance⟩ := m.drain_all_passed x.rule.fills a.sequence m.window.held order
    (lawful.short deep far)
  obtain ⟨stillRunning, -, pool, released, split, free⟩ :=
    m.drain_kept x.rule.fills (fun _ => true) m.window.held
  rw [m.drain_all, List.append_nil] at split
  have passed := (drained.trans (MergeTurn.passed_loseTo _ _ a.sequence)).trans
    (MergeTurn.passed_release x.rule.fills (t := MergeTurn.releaseArrival _ a.bearer a.sequence
      a.data) rfl (List.length_append ..))
  have missing : gone + (m.drain x.rule.fills (fun _ => true) m.window.held).window.distance
      a.sequence + 0 = k := by omega
  rw [missing] at passed
  refine ⟨m.jump x.rule a, MergeTurn.arrive_jump running
    (bandOf_of_covers (b := .jump) deep (by omega) ⟨far, low⟩) f, ?_, passed.lost, passed.fill,
    congrArg satInc passed.jump, split ▸ free, passed.out, pool⟩
  simp [MergeTurn.jump, MergeTurn.endStaleRun, MergeTurn.releaseArrival, stillRunning, running,
    m.drain_all]

/-- Settles O36: the cells of a full window are consecutive from the sequence after N, so the loss of
one sequence lets all of them go. -/
theorem forcedReleaseEmptiesAFullWindow : Obligations.ForcedReleaseEmptiesAFullWindow := by
  intro m x lawful deep _ full t
  obtain ⟨-, order, beyond⟩ := (m.window.lawful_some_iff x).mp lawful
  rw [← full] at order
  have released := MergeTurn.releaseRun_eq (m.loseTo x.rule.fills (m.window.next + 1))
    (run := m.window.held) (rest := []) x.rule.fills (List.append_nil _).symm
    (fun i r hi => order.full beyond hi) (fun r none => by cases none)
  obtain ⟨lost, forced⟩ := MergeCounts.releasedAll_kept
    (m.loseTo x.rule.fills (m.window.next + 1)).counts m.window.held
  have one : m.window.distance (m.window.next + 1) = 1 := by
    unfold MergeWindow.distance
    bv_omega
  have told := m.passed_loseTo x.rule.fills (m.window.next + 1)
  rw [one] at told
  have depth : m.window.next + 1 + BitVec.ofNat 16 m.window.held.length =
      m.window.next + BitVec.ofNat 16 x.depth := by
    rw [full]
    bv_omega
  simp only [t, MergeTurn.forcedRelease, released]
  rw [satInc_eq m.counts.lost]
  refine ⟨depth, trivial, rfl, lost.trans told.lost, congrArg satInc forced, rfl, ?_⟩
  rw [List.length_append, List.length_map, told.out, Nat.add_zero, Nat.add_right_comm]
  rfl

end Sys2Proof.Machine
end

section
/-! SUPPORT. HOLD_EXPIRY (R123, R124, R126, R127), the heads that leave the egress FIFOs and the
management port (R126, R143, R146, R157), and the proofs about them. -/

namespace Sys2Proof.Machine

/-! ### A hold's expiry at a tributary (R123, R126, R127) -/

/-- A run for which an egress FIFO has room joins its tail whole (R144). -/
theorem State.handOver_room (s : State) (n : Trib) (f : Flow) (run : List EgressEntry)
    (room : (s.egress.fifo.read n).length + run.length ≤ 64) :
    s.handOver n f run = s.withEgress { s.egress with
      fifo := s.egress.fifo.write n (s.egress.fifo.read n ++ run) } := by
  induction run generalizing s with
  | nil =>
    rw [State.handOver_nil, List.append_nil, Tab.write_read]
    rfl
  | cons e run ih =>
    rw [List.length_cons] at room
    rw [State.handOver_cons, State.handEntry_room s n f e (by omega),
      ih _ (by rw [State.withEgress_egress, Tab.read_write_same, List.length_append,
        List.length_singleton]; omega)]
    simp
    rfl

/-- What a flow passes to a tributary whose egress FIFO has room joins its tail (R127, R144). -/
theorem State.deliver_trib_room {s : State} {f : Flow} {x : EntryFields} {n : Trib}
    (received : s.receiving f = some x) (destination : x.endpoint = .trib n) (run : List Delivery)
    (room : (s.egress.fifo.read n).length + run.length ≤ 64) :
    s.deliver f run = s.withEgress { s.egress with
      fifo := s.egress.fifo.write n (s.egress.fifo.read n ++ run.map Delivery.entry) } := by
  rw [State.deliver, received]
  simp only [destination]
  exact s.handOver_room n f _ (by rwa [List.length_map])

/-- The expiry of the hold of the one held cell: the gap before it is lost, and it is released
(R123, R126). -/
theorem MergeTurn.expire_single {m : MergeTurn} {r : HeldRecord} (held : m.window.held = [r])
    (fills : Bool) (holdOver : HeldRecord → Bool) :
    m.expire fills holdOver =
      let gap := m.window.distance r.sequence
      { m with
        window := { m.window with next := r.sequence + 1, held := [] }
        counts := MergeCounts.released
          { m.counts with
            lost := satAdd m.counts.lost gap
            fill := if fills = true then satAdd m.counts.fill gap else m.counts.fill } r.bearer
        free := r.buffer :: m.free
        out := m.out ++ List.replicate (if fills = true then gap else 0) .fill ++
          [.cell (poolRead m.pool r.buffer.val)] } := by
  rw [MergeTurn.expire, held]
  cases fills <;>
    simp [MergeTurn.drain_nil, MergeTurn.releaseHeld, MergeTurn.loseTo, MergeWindow.distance]

theorem exec_holdExpiry {s : State} (released : s.inReset = false) (f : Flow) :
    exec (.holdExpiry f) s = .next (s.takeExpiry f) :=
  whenReleased_next released _

/-- A hold that has not expired is left (R123). -/
theorem exec_holdExpiry_idle {s : State} {f : Flow} (idle : s.holdExpired f = false) :
    exec (.holdExpiry f) s = .next s := by
  show whenReleased s (s.takeExpiry f) = _
  rw [s.takeExpiry_idle f idle, whenReleased, ite_self]

/-- The hold of a RUNNING window's lowest held cell has expired once it has waited its hold time, and
stays so whatever the hold time becomes (R123, R124). -/
theorem State.holdExpired_of_lowest {s : State} {f : Flow} {x : EntryFields} {r : HeldRecord}
    {rest : List HeldRecord} (received : s.receiving f = some x)
    (running : (s.merge.window.read f).running = true)
    (held : (s.merge.window.read f).held = r :: rest)
    (ripe : s.holdTimeOf x ≤ age s.clock.time r.stamp ∨ s.expired.read f = true) :
    s.holdExpired f = true := by
  rw [State.holdExpired, Bool.or_eq_true]
  rcases ripe with waited | found
  · exact .inr ((s.expiryDue_iff f).mpr ⟨x, r, rest, received, held, running, waited⟩)
  · exact .inl found

/-- Settles O37: the expiry loses the gap and releases the one held cell, and the tributary's egress
FIFO has room for all of it. -/
theorem holdExpiryEndsTheGap : Obligations.HoldExpiryEndsTheGap := by
  refine ⟨?expires, ?waits⟩
  case expires =>
    intro f x n r s released user entry destination running held _ ripe w c gap fills room
    have received : s.receiving f = some x := by
      rw [State.receiving_user user, entry]
      rfl
    have expired : s.holdExpired f = true := State.holdExpired_of_lowest received running held ripe
    have turn := MergeTurn.expire_single (m := s.merge.turn f) held x.rule.fills (s.holdOver x)
    have passed : s.mergeExpiry f = ((s.withMerge (s.merge.done f
        ((s.merge.turn f).expire x.rule.fills (s.holdOver x)))).withExpired
          (s.expired.write f false), List.replicate fills .fill ++
            [.cell (poolRead s.merge.pool r.buffer.val)]) := by
      rw [State.mergeExpiry, received]
      simp only [turn]
      rfl
    have delivered {u : State} (same : u.receiving f = some x) (egress : u.egress = s.egress) :
        u.deliver f (List.replicate fills .fill ++ [.cell (poolRead s.merge.pool r.buffer.val)]) =
          u.withEgress { s.egress with
            fifo := s.egress.fifo.write n (s.egress.fifo.read n ++ List.replicate fills .fill ++
              [.cell (poolRead s.merge.pool r.buffer.val)]) } := by
      rw [State.deliver_trib_room same destination _ (by simp [egress]; omega), egress,
        List.map_append, List.map_replicate, List.append_assoc]
      rfl
    rw [exec_holdExpiry released, State.takeExpiry, if_pos expired, passed]
    dsimp only
    rw [delivered, turn]
    · rfl
    · exact received
    · rfl
  case waits =>
    intro f s notFound short
    refine exec_holdExpiry_idle ?_
    rw [State.holdExpired, notFound, Bool.false_or, Bool.eq_false_iff, Ne, State.expiryDue_iff]
    rintro ⟨x, r, rest, received, held, running, waited⟩
    exact absurd waited (Nat.not_le.mpr (short x r received running (by rw [held]; rfl)))

/-! ### The heads that leave (R126, R143, R146, R157) -/

/-- Settles O18: what is presented is the head, and a take leaves the rest. -/
theorem takesRemoveTheHead : Obligations.TakesRemoveTheHead := by
  refine ⟨fun n e rest s released head ready => ⟨?_, ?_⟩, fun n s absent => ?_, fun n s still => ?_,
    fun n ready s => rfl, fun c rest s released head => ⟨?_, ?_⟩⟩
  · rw [State.presented, released, head]
    cases e <;> rfl
  · show whenReleased s (s.withEgress (s.egress.take n)) = _
    rw [whenReleased_next released, EgressPorts.take, if_pos ready, head]
    rfl
  · rw [State.presented]
    rcases absent with reset | empty
    · exact if_pos reset
    · rw [empty]
      exact ite_self none
  · show whenReleased s (s.withEgress (s.egress.take n)) = _
    rw [EgressPorts.take, still, whenReleased]
    exact ite_self _
  · rw [State.portPresented, released, head]
    rfl
  · show whenReleased s (s.withMgmt s.mgmt.take) = _
    rw [whenReleased_next released, ManagementUnit.take, head]
    rfl

end Sys2Proof.Machine
end

section
/-! SUPPORT. The laws of one Merge Window under every event of it (R111, R112): arrivals, expiries and
flushes; and what stays lowest after an expiry (R123). -/

namespace Sys2Proof.Machine

/-! ### Windows within the law (R111, R112) -/

/-- A RUNNING window is lawful where its held cells stand in order beyond N. -/
theorem MergeWindow.lawful_of_order {w : MergeWindow} {x : EntryFields}
    (running : w.running = true) (order : HeldInOrder w.next (x.depth - 1) w.held)
    (beyond : ∀ r ∈ w.held, 1 ≤ r.ahead w.next) : w.lawful (some x) :=
  (w.lawful_some_iff x).mpr ⟨fun unset => by simp [running] at unset, order, beyond⟩

/-- A window with nothing held is lawful for a flow that is received, and UNSET for any. -/
theorem MergeWindow.lawful_of_empty {w : MergeWindow} {fields : Option EntryFields}
    (empty : w.held = []) (unset : fields = none → w.running = false) : w.lawful fields := by
  cases fields with
  | none => exact ⟨unset rfl, empty⟩
  | some x =>
    refine (w.lawful_some_iff x).mpr ⟨fun _ => empty, ⟨?_, ?_⟩, ?_⟩ <;> rw [empty]
    · exact List.Pairwise.nil
    all_goals exact fun r none => absurd none List.not_mem_nil

/-- Only a RUNNING window holds cells (R111). -/
theorem MergeWindow.lawful.running {w : MergeWindow} {fields : Option EntryFields}
    (lawful : w.lawful fields) (some : w.held ≠ []) : w.running = true := by
  cases fields with
  | none => exact absurd lawful.2 some
  | some x => exact Bool.not_eq_false _ ▸ fun unset => some (lawful.1 unset)

/-! ### Drains and releases of a lawful window -/

theorem MergeTurn.drain_lawful {m : MergeTurn} {x : EntryFields} {held : List HeldRecord}
    (running : m.window.running = true) (order : HeldInOrder m.window.next (x.depth - 1) held)
    (fills : Bool) (givenUp : HeldRecord → Bool) :
    (m.drain fills givenUp held).window.lawful (some x) := by
  obtain ⟨stillRunning, -⟩ := m.drain_kept fills givenUp held
  obtain ⟨inOrder, beyond⟩ := m.drain_inOrder fills givenUp held order
  exact MergeWindow.lawful_of_order (stillRunning.trans running) inOrder beyond

/-- N goes on by one, and the run behind it is released (R116, R118). -/
theorem MergeTurn.releaseRun_lawful {m t : MergeTurn} {x : EntryFields}
    (lawful : m.window.lawful (some x)) (running : m.window.running = true)
    (window : t.window = { m.window with next := m.window.next + 1 }) (fills : Bool) :
    (t.releaseRun fills).window.lawful (some x) := by
  obtain ⟨-, order, beyond⟩ := (m.window.lawful_some_iff x).mp lawful
  refine MergeTurn.drain_lawful (by rw [window, running]) ?_ fills _
  rw [window]
  exact order.step beyond

theorem MergeTurn.forcedRelease_lawful {m : MergeTurn} {x : EntryFields}
    (lawful : m.window.lawful (some x)) (running : m.window.running = true) :
    (m.forcedRelease x.rule).window.lawful (some x) :=
  MergeTurn.releaseRun_lawful lawful running (t := m.loseTo x.rule.fills (m.window.next + 1)) rfl _

theorem MergeTurn.expected_lawful {m : MergeTurn} {x : EntryFields} {a : Arrival}
    (lawful : m.window.lawful (some x)) (running : m.window.running = true)
    (next : m.window.distance a.sequence = 0) :
    (m.expected x.rule a).window.lawful (some x) := by
  have carried : a.sequence = m.window.next := by
    unfold MergeWindow.distance at next
    bv_omega
  exact MergeTurn.releaseRun_lawful lawful running
    (t := m.releaseArrival a.bearer a.sequence a.data)
    (by rw [MergeTurn.releaseArrival, carried]) x.rule.fills

theorem MergeTurn.hold_lawful {m : MergeTurn} {x : EntryFields} {a : Arrival}
    (lawful : m.window.lawful (some x)) (running : m.window.running = true)
    (near : 1 ≤ m.window.distance a.sequence ∧ m.window.distance a.sequence ≤ x.depth - 1)
    (fresh : ∀ r ∈ m.window.held, r.sequence ≠ a.sequence) (b : BufferNo) (rest : List BufferNo) :
    (m.hold a b rest).window.lawful (some x) := by
  obtain ⟨-, order, beyond⟩ := (m.window.lawful_some_iff x).mp lawful
  refine MergeWindow.lawful_of_order running
    (order.insert (r := ⟨a.sequence, b, a.stamp, a.bearer⟩) fresh near.2) fun r hr => ?_
  rcases List.mem_cons.mp ((insertHeld_perm _ _ _).mem_iff.mp hr) with rfl | old
  · exact near.1
  · exact beyond r old

theorem MergeTurn.ahead_lawful {m : MergeTurn} {x : EntryFields} {a : Arrival}
    (lawful : m.window.lawful (some x)) (running : m.window.running = true)
    (near : 1 ≤ m.window.distance a.sequence ∧ m.window.distance a.sequence ≤ x.depth - 1) :
    (m.ahead x.rule a).1.window.lawful (some x) := by
  by_cases held : ∃ r ∈ m.window.held, r.sequence = a.sequence
  · rw [MergeTurn.ahead_held held]
    exact lawful
  · have fresh : ∀ r ∈ m.window.held, r.sequence ≠ a.sequence :=
      fun r hr same => held ⟨r, hr, same⟩
    cases top : m.free with
    | nil =>
      rw [MergeTurn.ahead_starved fresh top]
      exact lawful
    | cons b rest =>
      have holding := MergeTurn.hold_lawful lawful running near fresh b rest
      rw [MergeTurn.ahead_hold fresh top]
      split
      · exact MergeTurn.forcedRelease_lawful holding running
      · exact holding

/-- A jump leaves nothing held (R119). -/
theorem MergeTurn.jump_lawful (m : MergeTurn) (rule : FlowRule) (a : Arrival) (x : EntryFields) :
    (m.jump rule a).window.lawful (some x) :=
  MergeWindow.lawful_of_empty (m.drain_all rule.fills m.window.held) (fun none => by cases none)

theorem MergeTurn.stale_lawful {m : MergeTurn} {x : EntryFields}
    (lawful : m.window.lawful (some x)) : m.stale.1.window.lawful (some x) := by
  rcases Nat.lt_or_ge (m.window.staleRun + 1) 16 with earlier | sixteenth
  · rw [MergeTurn.stale_earlier earlier]
    exact lawful
  · rw [MergeTurn.stale_sixteenth sixteenth]
    exact MergeWindow.lawful_of_empty rfl fun _ => rfl

/-- An arrival of any band leaves its window lawful (R114 to R121). -/
theorem MergeTurn.arrive_lawful {m : MergeTurn} {x : EntryFields}
    (lawful : m.window.lawful (some x)) (f : Flow) (a : Arrival) :
    (m.arrive f x.rule a).1.window.lawful (some x) := by
  cases running : m.window.running with
  | false =>
    rw [m.arrive_unset running]
    exact MergeWindow.lawful_of_empty (lawful.1 running) fun none => by cases none
  | true =>
    have covers := bandOf_covers (depth := x.depth)
      (Nat.le_of_lt_succ (a.sequence - m.window.next).isLt)
    cases band : bandOf x.depth (a.sequence - m.window.next).toNat <;> rw [band] at covers
    case expected =>
      rw [MergeTurn.arrive_expected running band]
      exact MergeTurn.expected_lawful lawful running covers
    case ahead =>
      rw [MergeTurn.arrive_ahead running band]
      exact MergeTurn.ahead_lawful lawful running covers
    case jump =>
      rw [MergeTurn.arrive_jump running band]
      exact m.jump_lawful x.rule a x
    case stale =>
      rw [MergeTurn.arrive_stale running band]
      exact MergeTurn.stale_lawful lawful
    case behind =>
      rw [MergeTurn.arrive_behind running band]
      exact lawful

/-! ### Expiries (R123) -/

theorem MergeTurn.expire_lawful {m : MergeTurn} {x : EntryFields}
    (lawful : m.window.lawful (some x)) (fills : Bool) (holdOver : HeldRecord → Bool) :
    (m.expire fills holdOver).window.lawful (some x) := by
  unfold MergeTurn.expire
  split
  · exact lawful
  · next r rs held =>
    obtain ⟨-, order, -⟩ := (m.window.lawful_some_iff x).mp lawful
    rw [held] at order
    exact MergeTurn.drain_lawful (m := (m.loseTo fills r.sequence).releaseHeld r)
      (lawful.running (by simp [held])) order.tail fills holdOver

/-- A drain stops at no cell before which the gap is given up. -/
theorem MergeTurn.drain_lowest (fills : Bool) (givenUp : HeldRecord → Bool) (m : MergeTurn)
    (held : List HeldRecord) {r : HeldRecord} {rest : List HeldRecord}
    (stays : (m.drain fills givenUp held).window.held = r :: rest) : givenUp r = false := by
  induction held generalizing m with
  | nil => cases stays
  | cons x xs ih =>
    by_cases next : x.sequence = m.window.next
    · rw [m.drain_next fills givenUp x xs next] at stays
      exact ih _ stays
    · by_cases gap : givenUp x = true
      · rw [m.drain_gap fills givenUp x xs next gap] at stays
        exact ih _ stays
      · rw [m.drain_stays fills givenUp x xs next (Bool.not_eq_true _ ▸ gap)] at stays
        cases stays
        exact Bool.not_eq_true _ ▸ gap

/-- The cell that is lowest after an expiry has not waited its hold time (R123). -/
theorem MergeTurn.expire_lowest {m : MergeTurn} {fills : Bool} {holdOver : HeldRecord → Bool}
    {r : HeldRecord} {rest : List HeldRecord}
    (stays : (m.expire fills holdOver).window.held = r :: rest) : holdOver r = false := by
  unfold MergeTurn.expire at stays
  split at stays
  · next empty => rw [empty] at stays; cases stays
  · exact MergeTurn.drain_lowest _ _ _ _ stays

end Sys2Proof.Machine
end

section
/-! SUPPORT. What each operation of the part does to the laws of the Merge Windows and to what is known
of their holds (R108, R111, R112, R123, R124); and the proof that every step keeps them. -/

namespace Sys2Proof.Machine

/-! ### What is known of the holds (R123, R124) -/

/-- What is known to have expired is the hold of a lowest held cell of a RUNNING window. -/
def State.expiriesHeld (s : State) : Prop :=
  ∀ f : Flow, s.expired.read f = true →
    (s.merge.window.read f).running = true ∧ (s.merge.window.read f).held ≠ []

/-- Every hold that has expired is known to have. -/
def State.expiriesKnown (s : State) : Prop :=
  ∀ f : Flow, s.expiryDue f = true → s.expired.read f = true

theorem State.holdsJudged_iff (s : State) : s.holdsJudged ↔ s.expiriesKnown ∧ s.expiriesHeld :=
  forall_and

/-- From `s` to `t` the Merge Windows stay lawful, and what is known to have expired stays the hold of
a held cell. -/
structure State.KeepsWindows (s t : State) : Prop where
  lawful : s.windowsLawful → t.windowsLawful
  held : s.windowsLawful → s.expiriesHeld → t.expiriesHeld

/-- From `s` to `t` besides no expired hold becomes unknown. -/
structure State.KeepsHolds (s t : State) : Prop extends s.KeepsWindows t where
  known : s.windowsLawful → s.expiriesHeld → s.expiriesKnown → t.expiriesKnown

theorem State.KeepsWindows.refl (s : State) : s.KeepsWindows s := ⟨id, fun _ => id⟩

theorem State.KeepsWindows.trans {s t u : State} (h : s.KeepsWindows t) (h' : t.KeepsWindows u) :
    s.KeepsWindows u where
  lawful := h'.lawful ∘ h.lawful
  held lawful := h'.held (h.lawful lawful) ∘ h.held lawful

theorem State.KeepsHolds.refl (s : State) : s.KeepsHolds s := ⟨.refl s, fun _ _ => id⟩

theorem State.KeepsHolds.trans {s t u : State} (h : s.KeepsHolds t) (h' : t.KeepsHolds u) :
    s.KeepsHolds u where
  toKeepsWindows := h.toKeepsWindows.trans h'.toKeepsWindows
  known lawful held := h'.known (h.lawful lawful) (h.held lawful held) ∘ h.known lawful held

/-- A fold of operations that keep the holds keeps them. -/
theorem State.KeepsHolds.foldl {α : Type} {f : State → α → State}
    (keeps : ∀ (s : State) (a : α), s.KeepsHolds (f s a)) (l : List α) (s : State) :
    s.KeepsHolds (l.foldl f s) := by
  induction l generalizing s with
  | nil => exact .refl s
  | cons a l ih => exact (keeps s a).trans (ih (f s a))

/-! ### Operations that the holds do not depend on -/

theorem State.receiving_congr {s t : State} (bank : t.table.activeBank = s.table.activeBank)
    (f : Flow) : t.receiving f = s.receiving f := by
  unfold State.receiving State.activeEntry
  rw [bank]

/-- An operation that leaves the windows, the active bank and the known expiries alone. -/
theorem State.KeepsWindows.of_frame {s t : State} (window : t.merge.window = s.merge.window)
    (bank : t.table.activeBank = s.table.activeBank) (expired : t.expired = s.expired) :
    s.KeepsWindows t where
  lawful lawful f := by
    rw [window, State.receiving_congr bank]
    exact lawful f
  held _ held f := by
    rw [window, expired]
    exact held f

/-- The inputs of H and the link time stand from `s` to `t` (R106, R107, R123). -/
structure State.SameAges (s t : State) : Prop where
  skewTerm : t.skew.skewTerm = s.skew.skewTerm
  j : t.skew.j = s.skew.j
  guard : t.guard = s.guard
  time : t.clock.time = s.clock.time

/-- An operation that leaves besides alone what the age and the hold time of a held cell come of. -/
theorem State.KeepsHolds.of_same {s t : State} (window : t.merge.window = s.merge.window)
    (bank : t.table.activeBank = s.table.activeBank) (expired : t.expired = s.expired)
    (ages : s.SameAges t) : s.KeepsHolds t where
  toKeepsWindows := .of_frame window bank expired
  known _ _ known f := by
    rw [expired, State.expiryDue_congr f (by rw [window]) (State.receiving_congr bank f)
      ages.skewTerm ages.j ages.guard ages.time]
    exact known f

/-- An operation that leaves alone the blocks that the holds depend on. -/
theorem State.KeepsHolds.of_frame {s t : State} (frame : t.merge = s.merge ∧ t.table = s.table ∧
    t.expired = s.expired ∧ t.skew = s.skew ∧ t.strike = s.strike ∧
    t.mgmt.settings = s.mgmt.settings ∧ t.clock.time = s.clock.time) : s.KeepsHolds t := by
  obtain ⟨merge, table, expired, skew, strike, settings, time⟩ := frame
  exact .of_same (by rw [merge]) (by rw [table]) expired
    ⟨by rw [skew], by rw [skew], State.guard_congr (by rw [strike]) settings, time⟩

/-- A state whose windows are all UNSET and empty has no hold. -/
theorem State.KeepsHolds.of_unset {s t : State}
    (window : t.merge.window = Tab.fill 64 MergeWindow.powerOn)
    (expired : t.expired = Tab.fill 64 false) : s.KeepsHolds t where
  lawful _ f := by
    rw [window, Tab.read_fill]
    exact MergeWindow.lawful_of_empty rfl fun _ => rfl
  held _ _ f found := by
    rw [expired, Tab.read_fill] at found
    cases found
  known _ _ _ f due := by
    obtain ⟨_, _, _, _, held, -⟩ := (t.expiryDue_iff f).mp due
    rw [window, Tab.read_fill] at held
    cases held

/-! ### Judging (R123) -/

/-- A hold that falls due is that of a held cell of a RUNNING window. -/
theorem State.expiryDue_held {s : State} {f : Flow} (due : s.expiryDue f = true) :
    (s.merge.window.read f).running = true ∧ (s.merge.window.read f).held ≠ [] := by
  obtain ⟨_, r, rest, _, held, running, -⟩ := (s.expiryDue_iff f).mp due
  exact ⟨running, by simp [held]⟩

theorem State.judgeHolds_keepsWindows (s : State) : s.KeepsWindows s.judgeHolds where
  lawful := id
  held _ held f found := by
    rw [State.judgeHolds_read, State.holdExpired, Bool.or_eq_true] at found
    rcases found with before | due
    · exact held f before
    · exact State.expiryDue_held due

theorem State.judgeHolds_known (s : State) : s.judgeHolds.expiriesKnown := by
  intro f due
  rw [State.judgeHolds_read, State.holdExpired, Bool.or_eq_true]
  exact .inr due

/-- Whatever an operation does to the ages, no expired hold is unknown once the holds are judged. -/
theorem State.KeepsWindows.judged {s u : State} (keeps : s.KeepsWindows u) :
    s.KeepsHolds u.judgeHolds where
  toKeepsWindows := keeps.trans u.judgeHolds_keepsWindows
  known _ _ _ := u.judgeHolds_known

/-- What stands of a hold after its window has changed is the hold of a held cell. -/
theorem State.holdFollowed_held {s t : State} (lawful : t.windowsLawful)
    (held : s.expiriesHeld) (expired : t.expired = s.expired) {f : Flow}
    (stands : t.holdFollowed s.merge f = true) :
    (t.merge.window.read f).running = true ∧ (t.merge.window.read f).held ≠ [] := by
  rw [State.holdFollowed, Bool.or_eq_true, Bool.and_eq_true, beq_iff_eq, expired] at stands
  rcases stands with ⟨same, found⟩ | due
  · obtain ⟨-, some⟩ := held f found
    have still : (t.merge.window.read f).held ≠ [] := by
      intro empty
      rw [MergeUnit.lowest, MergeUnit.lowest, empty, List.head?_nil, eq_comm,
        List.head?_eq_none_iff] at same
      exact some same
    exact ⟨(lawful f).running still, still⟩
  · exact State.expiryDue_held due

theorem State.expiryDue_followed {s : State} {before : MergeUnit} {f : Flow}
    (due : s.expiryDue f = true) : s.holdFollowed before f = true := by
  rw [State.holdFollowed, due, Bool.or_true]

/-- Every hold is judged once windows and entries have changed together (R39, R123). -/
theorem State.followHolds_keepsHolds {s u : State} (expired : u.expired = s.expired)
    (lawful : s.windowsLawful → u.windowsLawful) : s.KeepsHolds (u.followHolds s.merge) where
  lawful := lawful
  held was held f found :=
    State.holdFollowed_held (lawful was) held expired (u.followHolds_read s.merge f ▸ found)
  known _ _ _ f due := (u.followHolds_read s.merge f).trans (State.expiryDue_followed due)

/-! ### Events of one window (R114 to R123) -/

/-- An event that leaves its own window lawful leaves every window so. -/
theorem State.windowsLawful.done {s : State} (lawful : s.windowsLawful) {f : Flow} {x : EntryFields}
    (received : s.receiving f = some x) {m : MergeTurn} (turn : m.window.lawful (some x)) :
    (s.withMerge (s.merge.done f m)).windowsLawful := by
  intro g
  rw [State.withMerge_merge, MergeUnit.done_window, Tab.read_write]
  split
  · next own =>
    rw [own]
    exact received ▸ turn
  · exact lawful g

/-- An event of one window leaves the others' holds as they are. -/
theorem State.expiryDue_done_other (s : State) {f g : Flow} (other : g ≠ f) (m : MergeTurn) :
    (s.withMerge (s.merge.done f m)).expiryDue g = s.expiryDue g :=
  State.expiryDue_congr g (by simp [other]) rfl rfl rfl rfl rfl

section
variable {s : State} {f : Flow} {x : EntryFields} (received : s.receiving f = some x) {m : MergeTurn}
  (turn : (s.merge.window.read f).lawful (some x) → m.window.lawful (some x))
include received turn

theorem State.windowsLawful.turned (lawful : s.windowsLawful) :
    (s.withMerge (s.merge.done f m)).windowsLawful :=
  lawful.done received (turn (received ▸ lawful f))

/-- An event of a window keeps the holds where its own hold is judged after it. -/
theorem State.followHold_keepsHolds :
    s.KeepsHolds ((s.withMerge (s.merge.done f m)).followHold s.merge f) where
  lawful lawful := lawful.turned received turn
  held lawful held g found := by
    rw [State.followHold_read] at found
    split at found
    · next own =>
      rw [own]
      exact State.holdFollowed_held (lawful.turned received turn) held rfl found
    · next other => simpa [other] using held g found
  known _ _ known g due := by
    rw [State.followHold_read]
    split
    · next own => exact State.expiryDue_followed (own ▸ due)
    · next other => exact known g ((s.expiryDue_done_other other m).symm.trans due)

/-- An expiry taken keeps the holds where the cell that is lowest after it has not expired (R123). -/
theorem State.takenExpiry_keepsHolds
    (lowest : ∀ r rest, m.window.held = r :: rest → s.holdOver x r = false) :
    s.KeepsHolds ((s.withMerge (s.merge.done f m)).withExpired (s.expired.write f false)) where
  lawful lawful := lawful.turned received turn
  held _ held g found := by
    rw [State.withExpired_expired, Tab.read_write] at found
    split at found
    · cases found
    · next other => simpa [other] using held g found
  known _ _ known g due := by
    rw [State.withExpired_expired, Tab.read_write]
    split
    · next own =>
      obtain ⟨y, r, rest, receives, held, -, waited⟩ := (State.expiryDue_iff _ g).mp due
      have same : s.receiving g = some y := receives
      rw [own, received] at same
      cases same
      have stays : m.window.held = r :: rest := by simpa [own] using held
      have ripe : s.holdOver x r = true := decide_eq_true waited
      rw [lowest r rest stays] at ripe
      cases ripe
    · next other => exact known g ((s.expiryDue_done_other other m).symm.trans due)

end

theorem State.raiseSome_keepsHolds (s : State) (e : Option (EventId × EventDetail)) :
    s.KeepsHolds (s.raiseSome e) :=
  .of_frame (by simp)

theorem State.mergeArrival_keepsHolds (s : State) (f : Flow) (a : Arrival) :
    s.KeepsHolds (s.mergeArrival f a).1 := by
  unfold State.mergeArrival
  split
  · exact .of_same rfl rfl rfl ⟨rfl, rfl, rfl, rfl⟩
  · next x received =>
    have followed := State.followHold_keepsHolds received
      fun lawful => MergeTurn.arrive_lawful (m := s.merge.turn f) lawful f a
    have raised (u : State) (e : Option (EventId × EventDetail)) :
        (u.raiseSome e).followHold s.merge f = (u.followHold s.merge f).raiseSome e := by
      cases e <;> rfl
    dsimp only
    rw [raised]
    exact followed.trans (State.raiseSome_keepsHolds _ _)

theorem State.mergeExpiry_keepsHolds (s : State) (f : Flow) :
    s.KeepsHolds (s.mergeExpiry f).1 := by
  unfold State.mergeExpiry
  split
  · exact .refl s
  · next x received =>
    exact State.takenExpiry_keepsHolds received
      (fun lawful => MergeTurn.expire_lawful (m := s.merge.turn f) lawful _ _)
      fun r rest stays => MergeTurn.expire_lowest stays

/-! ### Swaps (R37, R39, R108) -/

/-- An inbound flow that a swap does not end stays inbound with its depth (R37). -/
theorem classify_keeps_inbound {a b : Entry} {x : EntryFields} (inbound : a.inbound = some x)
    (stays : (classify a b).endsInbound ≠ true) :
    ∃ y : EntryFields, b.inbound = some y ∧ y.depth = x.depth := by
  have old : a = .used .inbound x := by
    unfold Entry.inbound at inbound
    split at inbound
    · cases inbound; rfl
    · cases inbound
  have continues : a.Continues b .inbound := by
    by_contra stops
    exact stays ((Classification.endsInbound_iff _).mpr
      ((classify_ends_iff a b .inbound).mp ⟨⟨x, old⟩, stops⟩))
  obtain ⟨x', y, same, new, -, depth⟩ := continues
  rw [old] at same
  cases same
  exact ⟨y, by rw [new]; rfl, depth.symm⟩

/-- The laws of a window depend on the depth of its flow alone. -/
theorem MergeWindow.lawful.of_depth {w : MergeWindow} {x y : EntryFields}
    (lawful : w.lawful (some x)) (depth : y.depth = x.depth) : w.lawful (some y) := by
  rw [MergeWindow.lawful_some_iff] at lawful ⊢
  rwa [depth]

/-- A window that is not flushed at a swap is lawful for what its flow then is (R37, R39). -/
theorem MergeWindow.lawful.continued {w : MergeWindow} {a b : Entry} (lawful : w.lawful a.inbound)
    (stays : (classify a b).endsInbound ≠ true) : w.lawful b.inbound := by
  cases inbound : a.inbound with
  | none =>
    rw [inbound] at lawful
    exact MergeWindow.lawful_of_empty lawful.2 fun _ => lawful.1
  | some x =>
    obtain ⟨y, new, depth⟩ := classify_keeps_inbound inbound stays
    rw [inbound] at lawful
    rw [new]
    exact lawful.of_depth depth

theorem State.executeSwap_lawful (s : State) (x : Superframe) (lawful : s.windowsLawful) :
    (s.executeSwap x).windowsLawful := by
  intro f
  have bank : (s.executeSwap x).table.activeBank = s.table.shadowBank := by
    rw [State.executeSwap_table, TableControl.swapped_activeBank]
  rw [State.executeSwap_merge]
  by_cases ended : f ∈ endedInbound (classifyFlow s.table.activeBank s.table.shadowBank)
  · obtain ⟨flushed, -⟩ := s.merge.flushFlows_same (endedInbound_nodup _) ended
    rw [flushed]
    exact MergeWindow.lawful_of_empty rfl fun _ => rfl
  · obtain ⟨kept, -⟩ := s.merge.flushFlows_other _ f ended
    rw [kept]
    have was := lawful f
    by_cases user : f = 0
    · rw [user] at was ⊢
      exact was
    · rw [State.receiving_user user] at was ⊢
      rw [State.activeEntry, bank]
      exact was.continued fun ends => ended ((mem_endedInbound _ f).mpr ⟨user, ends⟩)

theorem State.executeSwap_keepsHolds (s : State) (x : Superframe) :
    s.KeepsHolds (s.executeSwap x) := by
  have raised (u : State) : u.KeepsHolds (u.raise .swapDone (.superframe x)) := .of_frame (by simp)
  refine State.KeepsHolds.trans ?_ (raised _)
  exact State.followHolds_keepsHolds rfl (s.executeSwap_lawful x)

theorem State.swapAtStart_keepsHolds (s : State) (n : Superframe) :
    s.KeepsHolds (s.swapAtStart n).1 := by
  unfold State.swapAtStart
  split
  · split
    · exact s.executeSwap_keepsHolds _
    · exact .refl s
  · exact .refl s

theorem State.swapAtStep_keepsHolds (s : State) (old new : Superframe) :
    s.KeepsHolds (s.swapAtStep old new) := by
  unfold State.swapAtStep
  split
  · next x _ =>
    split
    · exact (s.executeSwap_keepsHolds x).trans (.of_frame (by simp))
    · exact .refl s
  · exact .refl s

/-! ### The Strike Monitor, the receivers and the Skew Unit (R101, R105, R108, R138) -/

theorem State.stormStart_keepsHolds (s : State) : s.KeepsHolds s.stormStart := by
  have counted {n : Nat} (timer : s.strike.timer = .running n) : s.KeepsHolds
      (s.withStrike { s.strike with timer := .running (n - 1) }) := by
    refine .of_same rfl rfl rfl ⟨rfl, rfl, State.guard_congr ?_ rfl, rfl⟩
    simp [StrikeMonitor.storm, timer]
  unfold State.stormStart
  split
  · exact .refl s
  · next n timer =>
    split
    · exact State.KeepsWindows.judged (.of_frame (by simp) (by simp) (by simp))
    · exact counted timer

/-- A receiver that has left TIMED has the holds judged without E (R105, R108). -/
theorem State.leftTimed_keepsHolds (s : State) (b : Bearer) (way : WayOut) :
    s.KeepsHolds (s.leftTimed b way) := by
  have chosen (u : State) : u.KeepsHolds u.chooseSource := .of_frame (by simp)
  have emptied : s.KeepsWindows ((s.raise (downEvent b) (.wayOut way)).withSkew
      ((s.raise (downEvent b) (.wayOut way)).skew.leftTimed b)) :=
    .of_frame (by simp) (by simp) (by simp)
  exact emptied.judged.trans (chosen _)

theorem State.withRx_keepsHolds (s : State) (b : Bearer) (r : Receiver) :
    s.KeepsHolds (s.withRx b r) :=
  .of_frame (by simp)

theorem State.enterHunt_keepsHolds (s : State) (b : Bearer) (k : Nat) (way : WayOut) :
    s.KeepsHolds (s.enterHunt b k way) := by
  unfold State.enterHunt
  dsimp only
  split
  · exact (s.withRx_keepsHolds b _).trans (State.leftTimed_keepsHolds ..)
  · exact s.withRx_keepsHolds b _

theorem State.badHeader_keepsHolds (s : State) (b : Bearer) : s.KeepsHolds (s.badHeader b) := by
  unfold State.badHeader
  dsimp only
  split
  · exact (s.withRx_keepsHolds b _).trans (State.enterHunt_keepsHolds ..)
  · exact s.withRx_keepsHolds b _

theorem State.receiverStart_keepsHolds (s : State) (b : Bearer) :
    s.KeepsHolds (s.receiverStart b) := by
  unfold State.receiverStart
  dsimp only
  split
  · split
    · exact (s.withRx_keepsHolds b _).trans (State.leftTimed_keepsHolds ..)
    · exact s.withRx_keepsHolds b _
  · exact .refl s

theorem State.receiverMarker_keepsHolds (s : State) (b : Bearer) (m : MarkerRecord) :
    s.KeepsHolds (s.receiverMarker b m) := by
  have chosen (u : State) (d : EventDetail) : u.KeepsHolds (u.raise (upEvent b) d).chooseSource :=
    .of_frame (by simp)
  unfold State.receiverMarker
  dsimp only
  split
  · exact s.withRx_keepsHolds b _
  · exact (s.withRx_keepsHolds b _).trans (chosen _ _)

/-- The Marker Lists and the pending adjustment have no part in a hold time (R106). -/
theorem State.withSkew_keepsHolds (s : State) {u : SkewUnit} (valid : u.valid = s.skew.valid)
    (e : u.e = s.skew.e) (j : u.j = s.skew.j) : s.KeepsHolds (s.withSkew u) := by
  refine .of_same rfl rfl rfl ⟨?_, j, rfl, rfl⟩
  rw [State.withSkew_skew, SkewUnit.skewTerm, SkewUnit.skewTerm, valid, e]

theorem State.skewSample_keepsHolds (s : State) (sample : Int) :
    s.KeepsHolds (s.skewSample sample) := by
  unfold State.skewSample
  split
  · exact .of_frame (by simp)
  · exact State.KeepsWindows.judged (.of_frame rfl rfl rfl)

theorem SkewUnit.adjusted_kept (u : SkewUnit) (b : Bearer) (stamp : LinkTime) :
    (u.adjusted b stamp).2.valid = u.valid ∧ (u.adjusted b stamp).2.e = u.e ∧
    (u.adjusted b stamp).2.j = u.j := by
  unfold SkewUnit.adjusted
  split
  · split <;> exact ⟨rfl, rfl, rfl⟩
  · exact ⟨rfl, rfl, rfl⟩

theorem SkewUnit.withList_kept (u : SkewUnit) (b : Bearer) (list : List MarkerEntry) :
    (u.withList b list).valid = u.valid ∧ (u.withList b list).e = u.e ∧
    (u.withList b list).j = u.j := by
  cases b <;> exact ⟨rfl, rfl, rfl⟩

theorem State.skewMarker_keepsHolds (s : State) (b : Bearer) (t : Superframe) (stamp : LinkTime) :
    s.KeepsHolds (s.skewMarker b t stamp) := by
  have listed (c : Bearer) (list : List MarkerEntry) :
      s.KeepsHolds (s.withSkew ((s.skew.adjusted b stamp).2.withList c list)) := by
    apply State.withSkew_keepsHolds <;>
      simp [SkewUnit.withList_kept, SkewUnit.adjusted_kept]
  have paired (c d : Bearer) (list list' : List MarkerEntry) : s.KeepsHolds
      (s.withSkew (((s.skew.adjusted b stamp).2.withList c list).withList d list')) := by
    apply State.withSkew_keepsHolds <;>
      simp [SkewUnit.withList_kept, SkewUnit.adjusted_kept]
  unfold State.skewMarker
  dsimp only
  split
  · split
    · exact listed _ _
    · exact (paired _ _ _ _).trans (State.skewSample_keepsHolds _ _)
  · exact listed _ _

/-! ### Shares and starts of a superframe (R2, R90, R138, R150) -/

theorem State.takeShare_keepsHolds (s : State) (o : OwedStart) : s.KeepsHolds (s.takeShare o) := by
  cases o with
  | storm => exact s.stormStart_keepsHolds
  | tally sf => exact .of_frame (by simp [State.takeShare])
  | receiver b => exact s.receiverStart_keepsHolds b

theorem State.shareOrOwe_keepsHolds (s : State) (ending now : Bool) (o : OwedStart) :
    s.KeepsHolds (s.shareOrOwe ending now o) := by
  unfold State.shareOrOwe
  split
  · exact .of_frame (by simp)
  · exact s.takeShare_keepsHolds o

theorem State.takeOwedOf_keepsHolds (s : State) (p : OwedStart → Bool) :
    s.KeepsHolds (s.takeOwedOf p) := by
  unfold State.takeOwedOf
  split
  · exact .refl s
  · next o rest _ =>
    exact State.KeepsHolds.trans (t := s.withOwed rest) (.of_frame (by simp))
      (State.takeShare_keepsHolds _ o)

theorem State.collectingStart_keepsHolds (s : State) (n : Superframe) :
    s.KeepsHolds (s.collectingStart n) := by
  have shares : s.KeepsHolds s.takeOwed :=
    State.KeepsHolds.trans (t := s.withOwed []) (.of_frame (by simp))
      (.foldl State.takeShare_keepsHolds s.owed _)
  unfold State.collectingStart
  exact shares.trans (.of_frame (by simp))

theorem State.timersAtStart_keepsHolds (s : State) (n : Superframe) :
    s.KeepsHolds (s.timersAtStart n) :=
  (((s.shareOrOwe_keepsHolds ..).trans (State.shareOrOwe_keepsHolds ..)).trans
    (State.shareOrOwe_keepsHolds ..)).trans (State.shareOrOwe_keepsHolds ..)

theorem State.sharesAtStart_keepsHolds (s : State) (n : Superframe) :
    s.KeepsHolds (s.sharesAtStart n) := by
  have absent : s.KeepsHolds s.absenceAtStart.1 := .of_frame (by simp)
  have planned (u : State) (due : Bool) : u.KeepsHolds (u.gradeTakesEffect.1.recomputeIf due) :=
    .of_frame (by simp)
  have opened (u : State) : u.KeepsHolds (u.sampleGrade.openTransmitters n).formBatches :=
    .of_frame (by simp)
  exact (((absent.trans (State.swapAtStart_keepsHolds _ n)).trans (planned _ _)).trans
    (State.timersAtStart_keepsHolds _ n)).trans (opened _)

theorem State.superframeStart_keepsHolds (s : State) (n : Superframe) (counted : Bool) :
    s.KeepsHolds (s.superframeStart n counted) := by
  have shares := (s.collectingStart_keepsHolds n).trans (State.sharesAtStart_keepsHolds _ n)
  have expired : (s.superframeStart n counted).expired =
      ((s.collectingStart n).sharesAtStart n).expired := by
    cases counted <;> simp [State.superframeStart, State.collectingStart]
  obtain ⟨clock, table, -, -, -, -, skew, merge, strike, -, -, settings, -⟩ :=
    s.superframeStart_shares n counted
  exact shares.trans (.of_frame ⟨merge, table, expired, skew, strike, settings, by rw [clock]⟩)

/-! ### Management commands (R108, R131, R161) -/

/-- A table command that edits the shadow bank changes no hold. -/
theorem State.KeepsHolds.of_bank {s : State} {u : TableControl}
    (bank : u.activeBank = s.table.activeBank) : s.KeepsHolds (s.withTable u) :=
  .of_same rfl bank rfl ⟨rfl, rfl, rfl, rfl⟩

theorem State.runSetSetting_keepsHolds (s : State) (name index : Byte) (value : BitVec 16) :
    s.KeepsHolds (s.runSetSetting name index value).2 := by
  unfold State.runSetSetting State.judgeGuard
  dsimp only
  split
  · next guard =>
    refine .of_same rfl rfl rfl ⟨rfl, rfl, ?_, rfl⟩
    unfold State.guard
    rw [guard]
    rfl
  · exact State.KeepsWindows.judged (.of_frame rfl rfl rfl)

theorem State.run_keepsHolds (s : State) (c : Command) : s.KeepsHolds (s.run c).2 := by
  cases c with
  | writeEntry bank flow fields =>
    exact .of_bank (s.table.writeEntry_edits bank flow fields).activeBank
  | clearEntry bank flow => exact .of_bank (s.table.clearEntry_edits bank flow).activeBank
  | copyEntries source destination first count =>
    exact .of_bank (s.table.copyEntries_edits source destination first count).activeBank
  | swapAt target => exact .of_bank (TableControl.swapAt_activeBank ..)
  | cancelSwap =>
    exact .of_bank (u := s.table.cancelSwap.2) (by rw [TableControl.cancelSwap_eq]; rfl)
  | readFlowCounts flow clear =>
    rw [State.run, State.runReadFlowCounts]
    split <;> exact .of_same rfl rfl rfl ⟨rfl, rfl, rfl, rfl⟩
  | readBearer bearer clear =>
    rw [State.run, State.runReadBearer]
    split <;> exact .of_frame (by simp)
  | setSetting name index value => exact s.runSetSetting_keepsHolds name index value
  | setWindow low high =>
    rw [State.run, State.runSetWindow, ManagementUnit.setWindow]
    dsimp only
    (repeat' split) <;> exact .of_frame ⟨rfl, rfl, rfl, rfl, rfl, rfl, rfl⟩
  | setTally object mask lamps =>
    rw [State.run, State.runSetTally]
    split
    · exact .of_frame ⟨rfl, rfl, rfl, rfl, rfl, rfl, rfl⟩
    · rw [State.runSetTallyOverride]
      split <;> exact .of_frame ⟨rfl, rfl, rfl, rfl, rfl, rfl, rfl⟩
    · exact .refl s
  | ackEvents events =>
    rw [State.run, State.runAckEvents]
    split <;> exact .of_frame ⟨rfl, rfl, rfl, rfl, rfl, rfl, rfl⟩
  | flushTributary trib =>
    rw [State.run, State.runFlushTributary]
    split <;> exact .of_frame ⟨rfl, rfl, rfl, rfl, rfl, rfl, rfl⟩
  | resetDatapath =>
    refine .of_unset ?_ ?_ <;>
      rw [State.run, State.runResetDatapath, State.datapathReset]
    · rw [State.recomputePlan_merge]
      rfl
    · rw [State.recomputePlan_expired]
      rfl
  | identify | readEntry | checkShadow | readLink | readSettings | freezeWindow | setBar | clearBar
  | clearTallyOverride | readEvents => exact .of_frame ⟨rfl, rfl, rfl, rfl, rfl, rfl, rfl⟩

@[simp] theorem State.placePort_settings (s : State) (kind : RecordKind) (cell : CellData) :
    (s.placePort kind cell).mgmt.settings = s.mgmt.settings := by
  unfold State.placePort
  split <;> simp

@[simp] theorem State.placeFlow0_settings (s : State) (kind : RecordKind) (cell : CellData) :
    (s.placeFlow0 kind cell).mgmt.settings = s.mgmt.settings := by
  unfold State.placeFlow0
  split <;> simp

@[simp] theorem State.answer_settings (s : State) (o : Origin) (tag number : Byte) (r : Reply) :
    (s.answer o tag number r).mgmt.settings = s.mgmt.settings := by
  cases o <;> simp [State.answer, State.placeResponse]

theorem State.answer_keepsHolds (s : State) (o : Origin) (tag number : Byte) (r : Reply) :
    s.KeepsHolds (s.answer o tag number r) :=
  .of_frame (by simp)

theorem State.placePort_keepsHolds (s : State) (kind : RecordKind) (cell : CellData) :
    s.KeepsHolds (s.placePort kind cell) :=
  .of_frame (by simp)

theorem State.malformedCell_keepsHolds (s : State) : s.KeepsHolds s.malformedCell :=
  .of_frame ⟨rfl, rfl, rfl, rfl, rfl, rfl, rfl⟩

/-! ### Every operation keeps the windows -/

/-- Every operation keeps the windows lawful and what is known to have expired a held cell's. -/
theorem stepLaw_keepsWindows : StepLaw State.KeepsWindows where
  refl := .refl
  trans := .trans
  pending _ _ := .of_frame rfl rfl rfl
  pins _ _ := .of_frame rfl rfl rfl
  occasion _ := .of_frame rfl rfl rfl
  owed _ _ := .of_frame rfl rfl rfl
  powerOn _ _ _ _ _ _ := (State.KeepsHolds.of_unset rfl rfl).toKeepsWindows
  clock _ _ _ _ := .of_frame rfl rfl rfl
  followMove _ _ _ := .of_frame rfl rfl rfl
  timeStep _ _ _ := .of_frame rfl rfl rfl
  ingressArrival _ _ _ := .of_frame (by simp) (by simp) (by simp)
  egressTake _ _ := .of_frame rfl rfl rfl
  egressReady _ _ _ := .of_frame rfl rfl rfl
  portTake _ := .of_frame rfl rfl rfl
  run s c := (s.run_keepsHolds c).toKeepsWindows
  answer s o tag number reply := (s.answer_keepsHolds o tag number reply).toKeepsWindows
  malformedCell s := s.malformedCell_keepsHolds.toKeepsWindows
  placePort s kind cell := (s.placePort_keepsHolds kind cell).toKeepsWindows
  sendOn _ _ _ _ := .of_frame rfl rfl rfl
  mergeArrival s f a := (s.mergeArrival_keepsHolds f a).toKeepsWindows
  mergeExpiry s f := (s.mergeExpiry_keepsHolds f).toKeepsWindows
  handOver _ _ _ _ := .of_frame (by simp) (by simp) (by simp)
  tallyDelivery _ d := by cases d <;> exact .of_frame rfl rfl rfl
  takeShare s o := (s.takeShare_keepsHolds o).toKeepsWindows
  superframeStart s n counted := (s.superframeStart_keepsHolds n counted).toKeepsWindows
  swapAtStep s old new := (s.swapAtStep_keepsHolds old new).toKeepsWindows
  sampleStrikes _ := .of_frame (by simp) (by simp) (by simp)
  judgeHolds s := s.judgeHolds_keepsWindows
  sendSlot _ := .of_frame (by simp) (by simp) (by simp)
  examine s b _ _ := (s.withRx_keepsHolds b _).toKeepsWindows
  confirmCell s b _ := (s.withRx_keepsHolds b _).toKeepsWindows
  endBadRun s b := (s.withRx_keepsHolds b _).toKeepsWindows
  badHeader s b := (s.badHeader_keepsHolds b).toKeepsWindows
  receiverMarker s b m := (s.receiverMarker_keepsHolds b m).toKeepsWindows
  skewMarker s b t stamp := (s.skewMarker_keepsHolds b t stamp).toKeepsWindows
  farReport _ _ := .of_frame (by simp) (by simp) (by simp)

/-! ### Commands and deliveries keep the holds (R127, R156, R160, R161) -/

theorem State.carryOut_keepsHolds (s : State) (o : Origin) (tag : Byte) (c : Command) :
    s.KeepsHolds (s.carryOut o tag c) := by
  unfold State.carryOut
  split
  · exact s.answer_keepsHolds ..
  · exact (s.run_keepsHolds c).trans (State.answer_keepsHolds ..)

theorem State.carryOutRecord_keepsHolds (s : State) (o : Origin) (record : List Byte) :
    s.KeepsHolds (s.carryOutRecord o record) := by
  unfold State.carryOutRecord
  split
  · exact s.answer_keepsHolds ..
  · exact s.answer_keepsHolds ..
  · exact s.carryOut_keepsHolds ..

theorem State.forwardCommand_keepsHolds (s : State) (cell : CellData) :
    s.KeepsHolds (s.forwardCommand cell) := by
  unfold State.forwardCommand
  dsimp only
  split
  · exact s.answer_keepsHolds ..
  · split
    · exact s.answer_keepsHolds ..
    · exact .of_frame ⟨rfl, rfl, rfl, rfl, rfl, rfl, rfl⟩

theorem State.portCell_keepsHolds (s : State) (cell : CellData) :
    s.KeepsHolds (s.portCell cell) := by
  unfold State.portCell
  split
  · exact s.malformedCell_keepsHolds
  · split
    · split
      · exact s.malformedCell_keepsHolds
      · split
        · exact s.carryOutRecord_keepsHolds ..
        · exact s.forwardCommand_keepsHolds cell
        · exact s.answer_keepsHolds ..
    all_goals exact s.malformedCell_keepsHolds

theorem State.flow0Delivery_keepsHolds (s : State) (d : Delivery) :
    s.KeepsHolds (s.flow0Delivery d) := by
  cases d with
  | fill => exact .refl s
  | cell data =>
    rw [State.flow0Delivery, State.flow0Cell]
    split
    · split
      · exact s.malformedCell_keepsHolds
      · exact s.carryOutRecord_keepsHolds ..
    · exact s.placePort_keepsHolds ..
    · exact s.placePort_keepsHolds ..
    · exact s.malformedCell_keepsHolds

theorem State.tallyDelivery_keepsHolds (s : State) (d : Delivery) :
    s.KeepsHolds (s.tallyDelivery d) := by
  cases d <;> exact .of_frame ⟨rfl, rfl, rfl, rfl, rfl, rfl, rfl⟩

theorem State.deliver_keepsHolds (s : State) (f : Flow) (run : List Delivery) :
    s.KeepsHolds (s.deliver f run) := by
  unfold State.deliver
  split
  · exact .refl s
  · split
    · exact .of_frame (by simp)
    · exact .foldl State.tallyDelivery_keepsHolds run s
    · exact .foldl State.flow0Delivery_keepsHolds run s

theorem State.takeArrival_keepsHolds (s : State) (f : Flow) (a : Arrival) :
    s.KeepsHolds (s.takeArrival f a) :=
  (s.mergeArrival_keepsHolds f a).trans (State.deliver_keepsHolds ..)

theorem State.takeExpiry_keepsHolds (s : State) (f : Flow) : s.KeepsHolds (s.takeExpiry f) := by
  unfold State.takeExpiry
  split
  · exact (s.mergeExpiry_keepsHolds f).trans (State.deliver_keepsHolds ..)
  · exact .refl s

/-! ### Link time moves, and the slot it comes to has the holds judged (R123) -/

theorem State.enterSlot_known (s : State) (start : Option Superframe) :
    (s.enterSlot start).expiriesKnown := by
  have sent (u : State) : u.judgeHolds.sendSlot.expiriesKnown := by
    intro f due
    rw [State.sendSlot_expired]
    refine u.judgeHolds_known f ?_
    rw [← due]
    exact (State.expiryDue_congr f (by simp) (State.receiving_congr (by simp) f) (by simp) (by simp)
      (State.guard_congr (by simp) (by simp)) (by simp)).symm
  unfold State.enterSlot
  split
  · exact sent _
  · split
    · exact sent _
    · exact sent _

/-- What ends with the entry of a slot keeps the holds if it keeps the windows. -/
theorem State.KeepsWindows.entered {s u : State} {start : Option Superframe}
    (keeps : s.KeepsWindows (u.enterSlot start)) : s.KeepsHolds (u.enterSlot start) where
  toKeepsWindows := keeps
  known _ _ _ := u.enterSlot_known start

theorem State.advanceSlot_keepsHolds (s : State) (pins : Pins) :
    s.KeepsHolds (s.advanceSlot pins) :=
  State.KeepsWindows.entered (stepLaw_keepsWindows.advanceSlot s pins)

theorem State.takeFarAbsence_keepsHolds (s : State) : s.KeepsHolds s.takeFarAbsence := by
  unfold State.takeFarAbsence
  split
  · exact s.advanceSlot_keepsHolds _
  · exact .refl s

theorem State.takeRefEdge_keepsHolds (s : State) (pins : Pins) :
    s.KeepsHolds (s.takeRefEdge pins) := by
  have keeps := stepLaw_keepsWindows.takeRefEdge s pins
  unfold State.takeRefEdge at keeps ⊢
  split
  · exact .refl s
  · split
    · exact .refl s
    · next truck off =>
      simp only [truck, if_neg off] at keeps
      exact keeps.entered

theorem State.moveTime_keepsHolds (s : State) (n : Int) (pins : Pins)
    (held : Option (Bearer × LinkTime)) : s.KeepsHolds (s.moveTime n pins held) := by
  have keeps := stepLaw_keepsWindows.moveTime s n pins held
  unfold State.moveTime at keeps ⊢
  split
  · exact .refl s
  · next moves =>
    rw [if_neg moves] at keeps
    exact keeps.entered

theorem State.stepTime_keepsHolds (s : State) (a p : LinkTime) (pins : Pins)
    (held : Option (Bearer × LinkTime)) : s.KeepsHolds (s.stepTime a p pins held) := by
  have keeps := stepLaw_keepsWindows.stepTime s a p pins held
  unfold State.stepTime at keeps ⊢
  exact keeps.entered

/-! ### Markers and received cells (R79, R83, R89) -/

theorem State.judgeMarker_keepsHolds (s : State) (b : Bearer) (t : Superframe) (a : LinkTime)
    (pins : Pins) (held : Option (Bearer × LinkTime)) :
    s.KeepsHolds (s.judgeMarker b t a pins held) := by
  have counted (count n : _) : s.KeepsHolds
      ((s.withClock { s.clock with disagreements := count }).moveTime n pins held) :=
    State.KeepsHolds.trans (.of_frame (by simp)) (State.moveTime_keepsHolds ..)
  unfold State.judgeMarker
  dsimp only
  split
  · exact counted 0 _
  · split
    · exact s.stepTime_keepsHolds ..
    · exact counted _ _

theorem State.skewIf_keepsHolds (s : State) (now : Bool) (b : Bearer) (t : Superframe)
    (a : LinkTime) : s.KeepsHolds (s.skewIf now b t a) := by
  cases now with
  | false => exact .refl s
  | true => exact s.skewMarker_keepsHolds b t a

theorem State.handOnMarker_keepsHolds (s : State) (b : Bearer) (m : MarkerRecord) (pins : Pins) :
    s.KeepsHolds (s.handOnMarker b m pins) := by
  have told (u : State) (skew report : Bool) : u.KeepsHolds
      ((u.skewIf skew b m.sf m.stamp).reportIf report m.farFibreTimed) :=
    (u.skewIf_keepsHolds skew b m.sf m.stamp).trans (.of_frame (by simp))
  unfold State.handOnMarker
  dsimp only
  split
  · exact ((told s _ _).trans (State.judgeMarker_keepsHolds ..)).trans (told _ _ _)
  · exact told s true true

theorem State.acceptedCell_keepsHolds (s : State) (b : Bearer) (content : HeaderContent)
    (cell : List Byte) (pins : Pins) : s.KeepsHolds (s.acceptedCell b content cell pins) := by
  cases content with
  | idle => exact .refl s
  | data flow sequence len => exact s.takeArrival_keepsHolds ..
  | marker sf fibreTimed radioTimed grade =>
    exact (s.receiverMarker_keepsHolds ..).trans (State.handOnMarker_keepsHolds ..)

theorem State.alignedCell_keepsHolds (s : State) (b : Bearer) (cell : List Byte) (pins : Pins) :
    s.KeepsHolds (s.alignedCell b cell pins) := by
  unfold State.alignedCell
  split
  · exact s.badHeader_keepsHolds b
  · exact (s.withRx_keepsHolds b _).trans (State.acceptedCell_keepsHolds ..)

theorem State.takeCell_keepsHolds (s : State) (b : Bearer) (cell : List Byte) (pins : Pins) :
    s.KeepsHolds (s.takeCell b cell pins) := by
  have aligned : s.KeepsHolds (s.nextOccasion.alignedCell b cell pins) :=
    State.KeepsHolds.trans (.of_frame (by simp)) (State.alignedCell_keepsHolds ..)
  unfold State.takeCell
  split
  · exact .refl s
  · exact s.withRx_keepsHolds b _
  · exact aligned
  · exact aligned

/-! ### Every command and every step -/

/-- The release of RESET starts superframe 0 with every window UNSET (R3). -/
theorem State.released_keepsHolds (s : State) (role : Role) (pins : Pins) :
    s.KeepsHolds (s.released role pins) := by
  have sent (u : State) : u.KeepsHolds u.sendSlot := .of_frame (by simp)
  have unset : s.KeepsHolds (State.powerOn false role pins s.egress.ready (s.occasion + 1)
      s.pending) := .of_unset rfl rfl
  exact unset.trans ((State.superframeStart_keepsHolds _ 0 false).trans (sent _))

theorem exec_keepsHolds {i : Instr} {s t : State} (h : exec i s = .next t) : s.KeepsHolds t := by
  have taken {u : State} (keeps : s.KeepsHolds u) (h : whenReleased s u = .next t) :
      s.KeepsHolds t := by
    unfold whenReleased at h
    split at h
    · cases h; exact .refl s
    · cases h; exact keeps
  cases i with
  | resetAssert => cases h; exact .of_unset rfl rfl
  | resetRelease role pins =>
    simp only [exec, execResetRelease] at h
    split at h
    · rw [← Host.Outcome.next.inj h]; exact s.released_keepsHolds role pins
    · cases h; exact .refl s
  | egressReadyChange trib ready =>
    cases h; exact .of_frame ⟨rfl, rfl, rfl, rfl, rfl, rfl, rfl⟩
  | slotEntry pins => exact taken (s.advanceSlot_keepsHolds pins) h
  | refEdge pins => exact taken (s.takeRefEdge_keepsHolds pins) h
  | farMarkerAbsence => exact taken s.takeFarAbsence_keepsHolds h
  | markerAbsenceExpiry | stormEnd | tallyLoss => exact taken (s.takeOwedOf_keepsHolds _) h
  | tributaryCellArrival trib payload len =>
    exact taken (u := s.ingressArrival trib ⟨payload, len⟩) (.of_frame (by simp)) h
  | egressTake trib =>
    exact taken (u := s.withEgress (s.egress.take trib)) (.of_frame (by simp)) h
  | mgmtPortTake =>
    exact taken (u := s.withMgmt s.mgmt.take) (.of_frame ⟨rfl, rfl, rfl, rfl, rfl, rfl, rfl⟩) h
  | mgmtPortCell payload len => exact taken (s.portCell_keepsHolds _) h
  | huntCandidateFound bearer position header => exact taken (s.withRx_keepsHolds bearer _) h
  | receivedCell bearer cell pins => exact taken (s.takeCell_keepsHolds bearer cell pins) h
  | holdExpiry flow => exact taken (s.takeExpiry_keepsHolds flow) h
  | identify | readEntry | writeEntry | clearEntry | copyEntries | checkShadow | swapAt | cancelSwap
  | readFlowCounts | readBearer | readLink | setSetting | readSettings | setWindow | freezeWindow
  | setBar | clearBar | setTallySource | setTallyOverride | clearTallyOverride | readEvents
  | ackEvents | flushTributary | resetDatapath => exact taken (s.carryOut_keepsHolds ..) h

theorem step_keepsHolds {s t : State} (h : step s = .next t) : s.KeepsHolds t := by
  unfold step at h
  split at h
  · cases h; exact .refl s
  · next c rest _ =>
    exact State.KeepsHolds.trans (t := s.withPending rest) (.of_frame (by simp)) (exec_keepsHolds h)

/-- Settles O55: every operation keeps the windows; and each judges the holds whose inputs it changes,
or is followed by the judging at the slot that link time comes to. -/
theorem stepKeepsMergeWindows : Obligations.StepKeepsMergeWindows := by
  refine ⟨fun s t h => (stepLaw_keepsWindows.step h).lawful, fun s t h lawful judged => ?_⟩
  obtain ⟨known, held⟩ := s.holdsJudged_iff.mp judged
  have keeps := step_keepsHolds h
  exact t.holdsJudged_iff.mpr ⟨keeps.known lawful held known, keeps.held lawful held⟩

end Sys2Proof.Machine
end

section
/-! SUPPORT. The strikes of a slot entry (R135 to R139): what the samples of the two lines do when
they complete strikes, what a superframe start leaves of the Strike Monitor and of its events, and
the proof about the two at one slot entry. -/

namespace Sys2Proof.Machine

/-! ### The filter of a line (R136) -/

/-- The first sample in a row that differs from the accepted level sets the pending change. -/
theorem LineFilter.take_first {l : LineFilter} {sample : Bool} (differs : sample ≠ l.level)
    (clear : l.changePending = false) :
    l.take sample = ({ l with changePending := true }, false) := by
  simp [LineFilter.take, differs, clear]

/-- The second sample in a row that differs from the accepted level is accepted, HIGH as a
strike. -/
theorem LineFilter.take_second {l : LineFilter} {sample : Bool} (differs : sample ≠ l.level)
    (pending : l.changePending = true) :
    l.take sample = (⟨sample, false, l.strikes⟩, sample) := by
  simp [LineFilter.take, differs, pending]

/-! ### Strikes on the lines (R137) -/

/-- The level on a line's pin. -/
def pinLevel (pins : Pins) : StrikeLine → Bool
  | .a => pins.strikeA
  | .b => pins.strikeB

/-- A line's filter after a sample of the pins, and whether the sample is a strike on it. -/
def StrikeMonitor.sampled (m : StrikeMonitor) (pins : Pins) (l : StrikeLine) : LineFilter × Bool :=
  (m.line l).take (pinLevel pins l)

/-- How many strikes a sample of the pins completes. -/
def StrikeMonitor.strikeNumber (m : StrikeMonitor) (pins : Pins) : Nat :=
  (if (m.sampled pins .a).2 = true then 1 else 0) + if (m.sampled pins .b).2 = true then 1 else 0

/-- A line after a sample of the pins, its strike counted. -/
def StrikeMonitor.lineAfter (m : StrikeMonitor) (pins : Pins) (l : StrikeLine) : LineFilter :=
  ⟨(m.sampled pins l).1.level, (m.sampled pins l).1.changePending,
    if (m.sampled pins l).2 = true then satInc (m.line l).strikes else (m.line l).strikes⟩

/-- The Strike Monitor with a sample of the pins taken by both filters and no strike taken yet. -/
def StrikeMonitor.filtered (m : StrikeMonitor) (pins : Pins) : StrikeMonitor :=
  { m with lineA := (m.sampled pins .a).1, lineB := (m.sampled pins .b).1 }

/-- `t` is the Strike Monitor `m` after a sample of the pins that completes strikes, all of them
taken. -/
structure StrikeMonitor.Struck (m t : StrikeMonitor) (pins : Pins) (stormHold : Nat) : Prop where
  line : ∀ l : StrikeLine, t.line l = m.lineAfter pins l
  timer : t.timer = .running (1024 * stormHold)
  stormStrikes : t.stormStrikes =
    if m.storm = true then satAdd m.stormStrikes (m.strikeNumber pins)
    else BitVec.ofNat 16 (m.strikeNumber pins)

@[simp] theorem StrikeMonitor.filtered_line (m : StrikeMonitor) (pins : Pins) (l : StrikeLine) :
    (m.filtered pins).line l = (m.sampled pins l).1 := by
  cases l <;> rfl

@[simp] theorem StrikeMonitor.filtered_storm (m : StrikeMonitor) (pins : Pins) :
    (m.filtered pins).storm = m.storm := rfl

@[simp] theorem StrikeMonitor.filtered_stormStrikes (m : StrikeMonitor) (pins : Pins) :
    (m.filtered pins).stormStrikes = m.stormStrikes := rfl

@[simp] theorem StrikeMonitor.struck_storm (m : StrikeMonitor) (l : StrikeLine) (hold : Nat) :
    (m.struck l hold).storm = true := rfl

@[simp] theorem StrikeMonitor.struck_stormStrikes (m : StrikeMonitor) (l : StrikeLine)
    (hold : Nat) :
    (m.struck l hold).stormStrikes = if m.storm = true then satInc m.stormStrikes else 1 := rfl

theorem StrikeMonitor.struck_line (m : StrikeMonitor) (l k : StrikeLine) (hold : Nat) :
    (m.struck l hold).line k =
      if k = l then { m.line k with strikes := satInc (m.line k).strikes } else m.line k := by
  cases l <;> cases k <;> rfl

/-- A line on which the sample is no strike is only filtered. -/
theorem StrikeMonitor.lineAfter_of_quiet {m : StrikeMonitor} {pins : Pins} {l : StrikeLine}
    (quiet : (m.sampled pins l).2 = false) : m.lineAfter pins l = (m.sampled pins l).1 := by
  have count : (m.sampled pins l).1.strikes = (m.line l).strikes := LineFilter.take_strikeCount ..
  rw [StrikeMonitor.lineAfter, quiet, ← count]
  rfl

/-- A line on which the sample is a strike counts it. -/
theorem StrikeMonitor.lineAfter_of_struck {m : StrikeMonitor} {pins : Pins} {l : StrikeLine}
    (struck : (m.sampled pins l).2 = true) : m.lineAfter pins l =
      { (m.sampled pins l).1 with strikes := satInc (m.sampled pins l).1.strikes } := by
  have count : (m.sampled pins l).1.strikes = (m.line l).strikes := LineFilter.take_strikeCount ..
  rw [StrikeMonitor.lineAfter, struck, count]
  rfl

section
variable {m : StrikeMonitor} {pins : Pins} {l k : StrikeLine}

/-- A strike on one line alone. -/
theorem StrikeMonitor.struck_alone (struck : (m.sampled pins l).2 = true)
    (alone : ∀ j, j ≠ l → (m.sampled pins j).2 = false) (hold : Nat) :
    m.Struck ((m.filtered pins).struck l hold) pins hold where
  line j := by
    rw [StrikeMonitor.struck_line, StrikeMonitor.filtered_line]
    split
    · next same => rw [same, StrikeMonitor.lineAfter_of_struck struck]
    · next other => rw [StrikeMonitor.lineAfter_of_quiet (alone j other)]
  timer := rfl
  stormStrikes := by
    have one : m.strikeNumber pins = 1 := by
      unfold StrikeMonitor.strikeNumber
      cases l with
      | a => rw [struck, alone .b (by decide)]; rfl
      | b => rw [struck, alone .a (by decide)]; rfl
    rw [one, ← satInc_eq]
    rfl

/-- Strikes on both lines, taken one after the other (R139). -/
theorem StrikeMonitor.struck_both (both : ∀ j, (m.sampled pins j).2 = true) (other : l ≠ k)
    (hold : Nat) :
    m.Struck (((m.filtered pins).struck k hold).struck l hold) pins hold where
  line j := by
    have once : j = l ∧ j ≠ k ∨ j ≠ l ∧ j = k := by
      revert other
      cases l <;> cases k <;> cases j <;> decide
    rw [StrikeMonitor.struck_line, StrikeMonitor.struck_line, StrikeMonitor.filtered_line,
      StrikeMonitor.lineAfter_of_struck (both j)]
    rcases once with ⟨first, second⟩ | ⟨first, second⟩
    · rw [if_pos first, if_neg second]
    · rw [if_neg first, if_pos second]
  timer := rfl
  stormStrikes := by
    have two : m.strikeNumber pins = 2 := by
      rw [StrikeMonitor.strikeNumber, both, both]
      rfl
    rw [two, StrikeMonitor.struck_stormStrikes, StrikeMonitor.struck_storm, if_pos rfl,
      StrikeMonitor.struck_stormStrikes, StrikeMonitor.filtered_storm,
      StrikeMonitor.filtered_stormStrikes]
    split
    · rw [satInc_eq, satInc_eq, satAdd_satAdd]
    · rfl

end

/-- The lines on which the samples complete strikes: one alone, or both in either order (R139). -/
theorem State.sampleStrikes_cases {s : State} (comes : s.strikeComes = true) :
    let u := s.withStrike (s.strike.filtered s.pins)
    (∃ l, (s.strike.sampled s.pins l).2 = true ∧
      (∀ k, k ≠ l → (s.strike.sampled s.pins k).2 = false) ∧ s.sampleStrikes = u.strikeOn l) ∨
    (∀ j, (s.strike.sampled s.pins j).2 = true) ∧
      ∃ l k, l ≠ k ∧ s.sampleStrikes = (u.strikeOn k).strikeOn l := by
  intro u
  have strikes : s.strike.strikesOf s.pins =
      ((s.strike.sampled s.pins .a).2, (s.strike.sampled s.pins .b).2) := rfl
  rw [State.strikeComes, strikes] at comes
  have eachLine {p : StrikeLine → Prop} (pa : p .a) (pb : p .b) : ∀ l, p l :=
    fun l => by cases l; exacts [pa, pb]
  unfold State.sampleStrikes
  rw [strikes]
  cases a : (s.strike.sampled s.pins .a).2 <;> cases b : (s.strike.sampled s.pins .b).2
  · rw [a, b] at comes
    cases comes
  · exact .inl ⟨.b, b, eachLine (fun _ => a) (absurd rfl), rfl⟩
  · exact .inl ⟨.a, a, eachLine (absurd rfl) (fun _ => b), rfl⟩
  · refine .inr ⟨eachLine a b, ?_⟩
    cases s.race .lineBFirst with
    | true => exact ⟨.a, .b, by decide, rfl⟩
    | false => exact ⟨.b, .a, by decide, rfl⟩

/-- Samples that complete strikes have them taken, and STRIKE tells one of the lines (R137,
R139). -/
theorem State.sampleStrikes_struck {s : State} (comes : s.strikeComes = true) :
    s.strike.Struck s.sampleStrikes.strike s.pins s.mgmt.settings.stormHold ∧
    ∃ l, (s.strike.sampled s.pins l).2 = true ∧
      s.sampleStrikes.events = s.events.raise .strike (.line l) := by
  rcases State.sampleStrikes_cases comes with ⟨l, struck, alone, taken⟩ | ⟨both, l, k, other, taken⟩
  · rw [taken]
    exact ⟨StrikeMonitor.struck_alone struck alone _, l, struck, rfl⟩
  · rw [taken]
    exact ⟨StrikeMonitor.struck_both both other _, l, both l, EventUnit.raise_raise ..⟩

/-! ### What a superframe start tells (R177, R182) -/

/-- The flag and the detail of an event stand in `v` as in `u`. -/
def EventUnit.ToldAlike (u v : EventUnit) (e : EventId) : Prop :=
  (v.event.read e.num).flag = (u.event.read e.num).flag ∧
  (v.event.read e.num).detail = (u.event.read e.num).detail

/-- An event is told with a detail. -/
def EventUnit.Tells (u : EventUnit) (e : EventId) (d : EventDetail) : Prop :=
  (u.event.read e.num).flag = true ∧ (u.event.read e.num).detail = some d

theorem EventUnit.ToldAlike.tells {u v : EventUnit} {e : EventId} {d : EventDetail}
    (alike : u.ToldAlike v e) (tells : u.Tells e d) : v.Tells e d :=
  ⟨alike.1.trans tells.1, alike.2.trans tells.2⟩

theorem EventUnit.raise_tells (u : EventUnit) (e : EventId) (d : EventDetail) :
    (u.raise e d).Tells e d := by
  rw [EventUnit.Tells, EventUnit.raise_read, if_pos rfl]
  exact ⟨rfl, rfl⟩

theorem EventUnit.raise_toldAlike (u : EventUnit) {e o : EventId} (other : e.num ≠ o.num)
    (d : EventDetail) : u.ToldAlike (u.raise o d) e := by
  rw [EventUnit.ToldAlike, EventUnit.raise_read, if_neg other]
  exact ⟨rfl, rfl⟩

theorem EventUnit.ToldAlike.trans {u v w : EventUnit} {e : EventId} (h : u.ToldAlike v e)
    (h' : v.ToldAlike w e) : u.ToldAlike w e :=
  ⟨h'.1.trans h.1, h'.2.trans h.2⟩

/-- A raising that is taken is told with its detail. -/
theorem EventUnit.takeRaisings_tells (u : EventUnit) {raisings : EventUnit} {taken : Fin 20 → Bool}
    {e : EventId} {d : EventDetail} (raised : raisings.Tells e d) (isTaken : taken e.num = true) :
    (u.takeRaisings raisings taken).Tells e d := by
  rw [EventUnit.Tells, EventUnit.takeRaisings_read, raised.1, isTaken]
  exact raised

/-- The report leaves the flag and the detail of an event that is not raised late (R180, R182). -/
theorem State.reportOf_toldAlike (w : State) (n : Superframe) (first : Bool) {raisings : EventUnit}
    {late : Fin 20 → Bool} {e : EventId} (drop : e.num ≠ EventId.mgmtDrop.num)
    (notLate : ((raisings.event.read e.num).flag && late e.num) = false) :
    w.events.ToldAlike (w.reportOf n first raisings late).events e := by
  obtain ⟨-, -, marks⟩ := w.judge_kept n
  obtain ⟨flow0, drained⟩ := (w.judge n).1.drainAndPlace_drained (w.judge n).2 first
  have read : (w.reportOf n first raisings late).events.event.read e.num =
      (w.judge n).1.events.event.read e.num :=
    ((EventUnit.takeRaisings_read ..).trans (by rw [notLate]; rfl)).trans
      (drained.events e.num drop)
  rw [EventUnit.ToldAlike, read]
  exact marks e.num drop

section
variable {s : State} {n : Superframe} {e : EventId}

/-- An event that the blocks' shares of a start do not raise keeps its flag and its detail. -/
theorem State.superframeStart_toldAlike (drop : e.num ≠ EventId.mgmtDrop.num)
    (noneOwed : s.owed = [])
    (unraised : (((s.collectingStart n).sharesAtStart n).events.event.read e.num).flag = false) :
    s.events.ToldAlike (s.superframeStart n true).events e := by
  obtain ⟨first, late, started⟩ := s.superframeStart_eq_reportOf n
  rw [State.takeOwed_nil _ noneOwed] at started
  rw [started]
  refine EventUnit.ToldAlike.trans ?_
    (State.reportOf_toldAlike _ n first drop (by rw [unraised]; rfl))
  have read (taken : Fin 20 → Bool) : (s.events.takeRaisings _ taken).event.read e.num =
      s.events.event.read e.num := (EventUnit.takeRaisings_read ..).trans (by rw [unraised]; rfl)
  exact ⟨congrArg _ (read _), congrArg _ (read _)⟩

/-- An event that the blocks' shares of a start raise is told with the detail of the raising. -/
theorem State.superframeStart_tells {d : EventDetail} (drop : e.num ≠ EventId.mgmtDrop.num)
    (noneOwed : s.owed = [])
    (raised : ((s.collectingStart n).sharesAtStart n).events.Tells e d) :
    (s.superframeStart n true).events.Tells e d := by
  obtain ⟨first, late, started⟩ := s.superframeStart_eq_reportOf n
  rw [State.takeOwed_nil _ noneOwed] at started
  rw [started]
  cases isLate : late e.num with
  | true => exact EventUnit.takeRaisings_tells _ raised isLate
  | false =>
    exact (State.reportOf_toldAlike _ n first drop (by rw [isLate, Bool.and_false])).tells
      (EventUnit.takeRaisings_tells _ raised (by rw [isLate]; rfl))

end

/-! ### What the other blocks' shares of a start leave of the storm (R2, R138) -/

/-- From `s` to `t` the Strike Monitor, its events, the numbers of the link time and the shares that
wait stand as they did, shares of other blocks apart. -/
structure State.LeavesStorm (s t : State) : Prop where
  strike : t.strike = s.strike
  owed : s.owed ⊆ t.owed
  clock : t.clock.time = s.clock.time ∧ t.clock.lastStarted = s.clock.lastStarted
  events : ∀ e : EventId, e = .strike ∨ e = .stormEnd →
    t.events.event.read e.num = s.events.event.read e.num

theorem State.LeavesStorm.trans {s t u : State} (h : s.LeavesStorm t) (h' : t.LeavesStorm u) :
    s.LeavesStorm u where
  strike := h'.strike.trans h.strike
  owed := List.Subset.trans h.owed h'.owed
  clock := ⟨h'.clock.1.trans h.clock.1, h'.clock.2.trans h.clock.2⟩
  events e own := (h'.events e own).trans (h.events e own)

/-- The events of the Strike Monitor have numbers of their own. -/
theorem EventId.num_ne_of_storm {e o : EventId} (own : e = .strike ∨ e = .stormEnd)
    (notStrike : o ≠ .strike) (notEnd : o ≠ .stormEnd) : e.num ≠ o.num := by
  rcases own with rfl | rfl <;> revert notStrike notEnd <;> cases o <;> decide

/-- An operation that leaves the Strike Monitor, the Link Clock and what waits, and raises no event
but one of another block. -/
theorem State.LeavesStorm.of_raise {s t : State} (strike : t.strike = s.strike)
    (owed : t.owed = s.owed)
    (clock : t.clock.time = s.clock.time ∧ t.clock.lastStarted = s.clock.lastStarted)
    (events : t.events = s.events ∨ ∃ o d, o ≠ EventId.strike ∧ o ≠ EventId.stormEnd ∧
      t.events = s.events.raise o d) : s.LeavesStorm t where
  strike := strike
  owed := owed ▸ fun _ => id
  clock := clock
  events e own := by
    rcases events with same | ⟨o, d, notStrike, notEnd, raised⟩
    · rw [same]
    · rw [raised, EventUnit.raise_read, if_neg (EventId.num_ne_of_storm own notStrike notEnd)]

/-- The choice of source is no start of a superframe. -/
theorem State.chooseSource_lastStarted (s : State) :
    s.chooseSource.clock.lastStarted = s.clock.lastStarted := by
  unfold State.chooseSource LinkClock.choose
  (repeat' split) <;> rfl

theorem State.leftTimed_leavesStorm (s : State) (b : Bearer) (way : WayOut) :
    s.LeavesStorm (s.leftTimed b way) := by
  refine .of_raise (by simp) (by simp) ⟨State.chooseSource_time _, State.chooseSource_lastStarted _⟩
    (.inr ⟨downEvent b, _, ?_, ?_, s.leftTimed_events b way⟩) <;> cases b <;> decide

theorem State.withRx_leavesStorm (s : State) (b : Bearer) (r : Receiver) :
    s.LeavesStorm (s.withRx b r) := by
  cases b <;> exact .of_raise rfl rfl ⟨rfl, rfl⟩ (.inl rfl)

theorem State.receiverStart_leavesStorm (s : State) (b : Bearer) :
    s.LeavesStorm (s.receiverStart b) := by
  unfold State.receiverStart
  dsimp only
  split
  · split
    · exact (s.withRx_leavesStorm b _).trans (State.leftTimed_leavesStorm _ b _)
    · exact s.withRx_leavesStorm b _
  · exact .of_raise rfl rfl ⟨rfl, rfl⟩ (.inl rfl)

theorem State.tallyStart_leavesStorm (s : State) (sf : Superframe) :
    s.LeavesStorm (s.tallyStart sf) := by
  refine .of_raise (by simp) (by simp) (by simp) ?_
  unfold State.tallyStart
  split
  · split
    · exact .inr ⟨.tallyLoss, _, by decide, by decide, rfl⟩
    · exact .inl rfl
  · exact .inl rfl
  · exact .inl rfl

/-- The share of another block, taken or left to wait, has no part in the storm. -/
theorem State.shareOrOwe_leavesStorm (s : State) (ending now : Bool) {o : OwedStart}
    (other : o ≠ .storm) : s.LeavesStorm (s.shareOrOwe ending now o) := by
  unfold State.shareOrOwe
  split
  · exact ⟨rfl, List.subset_append_left _ _, ⟨rfl, rfl⟩, fun _ _ => rfl⟩
  · cases o with
    | storm => exact absurd rfl other
    | tally sf => exact s.tallyStart_leavesStorm sf
    | receiver b => exact s.receiverStart_leavesStorm b

theorem State.planAtStart_leavesStorm (s : State) (n : Superframe) :
    s.LeavesStorm (s.planAtStart n) where
  strike := by simp
  owed := by simp
  clock := by simp
  events e own := by
    unfold State.planAtStart
    dsimp only
    rw [State.recomputeIf_read _ _ (EventId.num_ne_of_storm own (by decide) (by decide))
        (EventId.num_ne_of_storm own (by decide) (by decide)),
      State.gradeTakesEffect_read _ (EventId.num_ne_of_storm own (by decide) (by decide)),
      State.absenceAtStart_swapAtStart]
    split
    · rw [State.executeSwap_events, EventUnit.raise_read,
        if_neg (EventId.num_ne_of_storm own (by decide) (by decide))]
      rfl
    · rfl

/-- The batches and what precedes them at a start have no part in the storm. -/
theorem State.formBatches_leavesStorm (s : State) (n : Superframe) :
    s.LeavesStorm ((s.sampleGrade.openTransmitters n).formBatches) where
  strike := by simp
  owed := by simp
  clock := by simp
  events e own := by
    rw [(State.formBatches_frame _).events e.num
      (EventId.num_ne_of_storm own (by decide) (by decide))]
    simp

/-- Of all shares of a start the Strike Monitor's own, taken now or left to wait, alone has a part
in the storm. -/
theorem State.sharesAtStart_leavesStorm (s : State) (n : Superframe) :
    ∃ now : Bool, ((s.planAtStart n).shareOrOwe s.strike.ending now .storm).LeavesStorm
      (s.sharesAtStart n) := by
  refine ⟨(s.planAtStart n).race .stormEndFirst, ?_⟩
  rw [← State.planAtStart_strike s n]
  exact (((State.shareOrOwe_leavesStorm _ _ _ OwedStart.noConfusion).trans
    (State.shareOrOwe_leavesStorm _ _ _ OwedStart.noConfusion)).trans
    (State.shareOrOwe_leavesStorm _ _ _ OwedStart.noConfusion)).trans
    (State.formBatches_leavesStorm _ n)

/-! ### The storm at a superframe start (R138, R139) -/

/-- What a superframe start from `s` to `t` does to the storm: it counts the timer down, or ends the
storm, or leaves the end to wait for a step of its own (R138; log entry 2). -/
inductive State.StormCounted (s t : State) : Prop
  | counted (goesOn : s.strike.timer ≠ .running 1) (strike : t.strike = s.strike.counted)
      (told : s.events.ToldAlike t.events .stormEnd)
  | ended (last : s.strike.timer = .running 1)
      (strike : t.strike = { s.strike with timer := .stopped })
      (told : t.events.Tells .stormEnd (.strikes s.strike.stormStrikes))
  | waits (last : s.strike.timer = .running 1) (strike : t.strike = s.strike)
      (told : s.events.ToldAlike t.events .stormEnd) (owed : OwedStart.storm ∈ t.owed)

theorem StrikeMonitor.ending_eq_false {m : StrikeMonitor} (range : m.timer.inRange)
    (goesOn : m.timer ≠ .running 1) : m.ending = false := by
  unfold StrikeMonitor.ending
  split
  · rfl
  · next k timer =>
    rw [timer] at range goesOn
    obtain ⟨positive, -⟩ := range
    exact decide_eq_false fun last => goesOn (congrArg _ (by omega))

/-- The Strike Monitor's share of a start, taken now or left to wait. -/
theorem State.shareOrOwe_stormCounted {s : State} (range : s.strike.timer.inRange) (now : Bool) :
    s.StormCounted (s.shareOrOwe s.strike.ending now .storm) := by
  by_cases last : s.strike.timer = .running 1
  · have ending : s.strike.ending = true := by rw [StrikeMonitor.ending, last]; rfl
    rw [ending]
    cases now with
    | true =>
      have taken : s.shareOrOwe true true .storm = _ := State.stormStart_last last
      rw [taken]
      exact .ended last rfl (EventUnit.raise_tells ..)
    | false =>
      exact .waits last rfl ⟨rfl, rfl⟩ (List.mem_append_right _ (List.mem_singleton.mpr rfl))
  · have goesOn := StrikeMonitor.ending_eq_false range last
    rw [goesOn, State.shareOrOwe_quiet]
    have taken : s.takeShare .storm = s.withStrike s.strike.counted := s.stormStart_timer goesOn
    rw [taken]
    exact .counted last rfl ⟨rfl, rfl⟩

/-- The storm counted from `t` to `u` is counted from `s` to `v`, when the Strike Monitors stand
alike and STORM-END is told alike. -/
theorem State.StormCounted.congr {s t u v : State} (storm : t.StormCounted u)
    (before : t.strike = s.strike) (after : v.strike = u.strike) (waiting : u.owed ⊆ v.owed)
    (alike : t.events.ToldAlike u.events .stormEnd → s.events.ToldAlike v.events .stormEnd)
    (tells : ∀ d, u.events.Tells .stormEnd d → v.events.Tells .stormEnd d) : s.StormCounted v := by
  cases storm with
  | counted goesOn strike told =>
    exact .counted (by rwa [← before]) (by rw [after, strike, before]) (alike told)
  | ended last strike told =>
    exact .ended (by rwa [← before]) (by rw [after, strike, before]) (tells _ (by rwa [← before]))
  | waits last strike told owed =>
    exact .waits (by rwa [← before]) (by rw [after, strike, before]) (alike told) (waiting owed)

theorem State.LeavesStorm.toldAlike {s t : State} (leaves : s.LeavesStorm t) :
    s.events.ToldAlike t.events .stormEnd :=
  have same := leaves.events .stormEnd (.inr rfl)
  ⟨congrArg _ same, congrArg _ same⟩

/-- The blocks' shares of a start count the storm timer. -/
theorem State.sharesAtStart_stormCounted {s : State} (range : s.strike.timer.inRange)
    (n : Superframe) : s.StormCounted (s.sharesAtStart n) := by
  obtain ⟨now, leaves⟩ := s.sharesAtStart_leavesStorm n
  rw [← State.planAtStart_strike s n] at range leaves
  have plan := s.planAtStart_leavesStorm n
  exact (State.shareOrOwe_stormCounted range now).congr plan.strike leaves.strike leaves.owed
    (fun told => (plan.toldAlike.trans told).trans leaves.toldAlike)
    fun _ told => leaves.toldAlike.tells told

/-- The Strike Monitor's share of a start raises no STRIKE. -/
theorem State.stormStart_strike_read (s : State) :
    s.stormStart.events.event.read EventId.strike.num =
      s.events.event.read EventId.strike.num := by
  unfold State.stormStart
  split
  · rfl
  · split
    · exact (EventUnit.raise_read ..).trans (if_neg (by decide))
    · rfl

/-- The blocks' shares of a start leave the link time and raise no STRIKE. -/
theorem State.sharesAtStart_kept (s : State) (n : Superframe) :
    (s.sharesAtStart n).clock.time = s.clock.time ∧
    (s.sharesAtStart n).clock.lastStarted = s.clock.lastStarted ∧
    (s.sharesAtStart n).events.event.read EventId.strike.num =
      s.events.event.read EventId.strike.num := by
  obtain ⟨now, -, -, clock, events⟩ := s.sharesAtStart_leavesStorm n
  have plan := s.planAtStart_leavesStorm n
  have share (u : State) : (u.shareOrOwe s.strike.ending now .storm).clock = u.clock ∧
      (u.shareOrOwe s.strike.ending now .storm).events.event.read EventId.strike.num =
        u.events.event.read EventId.strike.num := by
    unfold State.shareOrOwe
    split
    · exact ⟨rfl, rfl⟩
    · exact ⟨u.stormStart_clock, u.stormStart_strike_read⟩
  rw [(share _).1] at clock
  exact ⟨clock.1.trans plan.clock.1, clock.2.trans plan.clock.2,
    ((events .strike (.inl rfl)).trans (share _).2).trans (plan.events .strike (.inl rfl))⟩

theorem State.collectingStart_eq {s : State} (noneOwed : s.owed = []) (n : Superframe) :
    s.collectingStart n =
      { s with clock := { s.clock with lastStarted := n }, events := s.events.collecting } := by
  unfold State.collectingStart
  rw [State.takeOwed_nil _ noneOwed]
  rfl

/-- No event is raised as the shares of a start begin. -/
theorem EventUnit.collecting_read (u : EventUnit) (e : Fin 20) :
    u.collecting.event.read e = EventState.powerOn := by
  simp [EventUnit.collecting]

section
variable {s : State} (noneOwed : s.owed = []) (n : Superframe)
include noneOwed

/-- A superframe start leaves the settings and the link time, and tells of no strike. -/
theorem State.superframeStart_kept :
    (s.superframeStart n true).mgmt.settings = s.mgmt.settings ∧
    (s.superframeStart n true).clock.time = s.clock.time ∧
    (s.superframeStart n true).clock.lastStarted = n ∧
    s.events.ToldAlike (s.superframeStart n true).events .strike := by
  obtain ⟨clock, -, -, -, -, -, -, -, -, -, -, settings, -⟩ := s.superframeStart_shares n true
  obtain ⟨time, lastStarted, strike⟩ := (s.collectingStart n).sharesAtStart_kept n
  have start := State.collectingStart_eq noneOwed n
  refine ⟨settings.trans ?_, ?_, ?_, State.superframeStart_toldAlike (by decide) noneOwed ?_⟩
  · rw [State.sharesAtStart_mgmt, start]
  · rw [clock, time, start]
  · rw [clock, lastStarted, start]
  · rw [strike, start, EventUnit.collecting_read]
    rfl

/-- A superframe start counts the storm timer, which ends a storm in its last superframe now or
later. -/
theorem State.superframeStart_stormCounted (range : s.strike.timer.inRange) :
    s.StormCounted (s.superframeStart n true) := by
  obtain ⟨-, -, -, -, -, -, -, -, strike, -, owed, -, -⟩ := s.superframeStart_shares n true
  have start := State.collectingStart_eq noneOwed n
  refine (State.sharesAtStart_stormCounted (by rwa [start]) n).congr (by rw [start]) strike
    (by rw [owed]; exact fun _ => id) (fun told => ?_)
    fun _ => State.superframeStart_tells (by decide) noneOwed
  refine State.superframeStart_toldAlike (by decide) noneOwed (told.1.trans ?_)
  rw [start, EventUnit.collecting_read]
  rfl

end

/-! ### Strikes before and after a superframe start (R137 to R139) -/

/-- From `s` to `t` the superframe `n` is started and the strikes of both lines are taken, before
the start or after it (R139). -/
structure State.StruckAtStart (s t : State) (n : Superframe) : Prop where
  line : ∀ l : StrikeLine, t.strike.line l = s.strike.lineAfter s.pins l
  told : ∃ l : StrikeLine, (s.strike.sampled s.pins l).2 = true ∧ t.events.Tells .strike (.line l)
  clock : t.clock.time = s.clock.time ∧ t.clock.lastStarted = n
  goesOn : s.strike.timer ≠ .running 1 →
    (t.strike.timer = .running (1024 * s.mgmt.settings.stormHold) ∨
      t.strike.timer = .running (1024 * s.mgmt.settings.stormHold - 1)) ∧
    t.strike.stormStrikes = (if s.strike.storm = true then
        satAdd s.strike.stormStrikes (s.strike.strikeNumber s.pins)
      else BitVec.ofNat 16 (s.strike.strikeNumber s.pins)) ∧
    s.events.ToldAlike t.events .stormEnd
  last : s.strike.timer = .running 1 →
    (t.strike.timer = .running (1024 * s.mgmt.settings.stormHold - 1) ∧
      t.strike.stormStrikes = satAdd s.strike.stormStrikes (s.strike.strikeNumber s.pins) ∧
      s.events.ToldAlike t.events .stormEnd) ∨
    (t.strike.timer = .running (1024 * s.mgmt.settings.stormHold) ∧
      t.strike.stormStrikes = BitVec.ofNat 16 (s.strike.strikeNumber s.pins) ∧
      t.events.Tells .stormEnd (.strikes s.strike.stormStrikes)) ∨
    (t.strike.timer = .running (1024 * s.mgmt.settings.stormHold) ∧
      t.strike.stormStrikes = satAdd s.strike.stormStrikes (s.strike.strikeNumber s.pins) ∧
      s.events.ToldAlike t.events .stormEnd ∧ OwedStart.storm ∈ t.owed)

/-- Strikes do not depend on the timer, and the number of the storm's strikes depends on whether it
runs. -/
theorem StrikeMonitor.Struck.of_timer {m t : StrikeMonitor} {pins : Pins} {hold : Nat}
    {timer : StormTimer} (struck : StrikeMonitor.Struck { m with timer := timer } t pins hold) :
    (∀ l, t.line l = m.lineAfter pins l) ∧ t.timer = .running (1024 * hold) ∧
    t.stormStrikes = if { m with timer := timer }.storm = true then
        satAdd m.stormStrikes (m.strikeNumber pins)
      else BitVec.ofNat 16 (m.strikeNumber pins) :=
  ⟨fun l => (struck.line l).trans (by cases l <;> rfl), struck.timer, struck.stormStrikes⟩

theorem StrikeMonitor.sampled_timer (m : StrikeMonitor) (timer : StormTimer) (pins : Pins)
    (l : StrikeLine) : { m with timer := timer }.sampled pins l = m.sampled pins l := by
  cases l <;> rfl

theorem StrikeMonitor.storm_of_running {m : StrikeMonitor} {k : Nat} (runs : m.timer = .running k) :
    m.storm = true := by
  rw [StrikeMonitor.storm, runs]

section
variable {s : State} (comes : s.strikeComes = true) (noneOwed : s.owed = [])
  (range : s.strike.timer.inRange) (n : Superframe)
include comes noneOwed

/-- Strikes taken before the start, which then finds the storm timer at its full length. -/
theorem State.struckAtStart_of_before (hold : 1 ≤ s.mgmt.settings.stormHold)
    (longest : s.mgmt.settings.stormHold ≤ 255) :
    s.StruckAtStart (s.sampleStrikes.superframeStart n true) n := by
  obtain ⟨struck, l, on, events⟩ := State.sampleStrikes_struck comes
  have owed : s.sampleStrikes.owed = [] := (State.sampleStrikes_owed s).trans noneOwed
  have full : s.sampleStrikes.strike.timer = .running (1024 * s.mgmt.settings.stormHold) :=
    struck.timer
  obtain ⟨-, time, lastStarted, told⟩ := State.superframeStart_kept owed n
  have range : s.sampleStrikes.strike.timer.inRange := by
    rw [full]
    exact ⟨by omega, by omega⟩
  have notLast : s.sampleStrikes.strike.timer ≠ .running 1 := by
    rw [full]
    intro last
    injection last
    omega
  cases State.superframeStart_stormCounted owed n range with
  | ended last _ _ => exact absurd last notLast
  | waits last _ _ _ => exact absurd last notLast
  | counted _ strike toldEnd =>
    have timer : (s.sampleStrikes.superframeStart n true).strike.timer =
        .running (1024 * s.mgmt.settings.stormHold - 1) := by
      rw [strike, StrikeMonitor.counted, full]
    have stormStrikes : (s.sampleStrikes.superframeStart n true).strike.stormStrikes =
        s.sampleStrikes.strike.stormStrikes := by
      rw [strike, StrikeMonitor.counted]
    have alike : s.events.ToldAlike (s.sampleStrikes.superframeStart n true).events .stormEnd := by
      rw [events] at toldEnd
      exact (s.events.raise_toldAlike (by decide) _).trans toldEnd
    refine ⟨fun k => ?_, ⟨l, on, told.tells (by rw [events]; exact EventUnit.raise_tells ..)⟩,
      ⟨time.trans (by simp), lastStarted⟩,
      fun _ => ⟨.inr timer, stormStrikes.trans struck.stormStrikes, alike⟩,
      fun last => .inl ⟨timer, ?_, alike⟩⟩
    · rw [strike, ← struck.line k]
      cases k <;> rfl
    · rw [stormStrikes, struck.stormStrikes, if_pos (StrikeMonitor.storm_of_running last)]

include range
/-- Strikes taken after the start, which may have ended the storm or left its end to wait. -/
theorem State.struckAtStart_of_after :
    s.StruckAtStart (s.superframeStart n true).sampleStrikes n := by
  obtain ⟨settings, time, lastStarted, told⟩ := State.superframeStart_kept noneOwed n
  have pins : (s.superframeStart n true).pins = s.pins := by simp
  have counted := State.superframeStart_stormCounted noneOwed n range
  obtain ⟨timer, started⟩ : ∃ timer,
      (s.superframeStart n true).strike = { s.strike with timer := timer } := by
    cases counted with
    | counted _ strike _ => exact ⟨_, strike⟩
    | ended _ strike _ => exact ⟨_, strike⟩
    | waits _ strike _ _ => exact ⟨_, strike⟩
  have comes' : (s.superframeStart n true).strikeComes = true := by
    unfold State.strikeComes
    rw [started, pins]
    exact comes
  obtain ⟨struck, l, on, events⟩ := State.sampleStrikes_struck comes'
  rw [started, pins, settings] at struck
  rw [started, pins, StrikeMonitor.sampled_timer] at on
  obtain ⟨line, full, stormStrikes⟩ := struck.of_timer
  rw [← started] at stormStrikes
  have toldEnd : (s.superframeStart n true).events.ToldAlike
      (s.superframeStart n true).sampleStrikes.events .stormEnd := by
    rw [events]
    exact EventUnit.raise_toldAlike _ (by decide) _
  refine ⟨line, ⟨l, on, by rw [events]; exact EventUnit.raise_tells ..⟩,
    ⟨by simpa using time, by simpa using lastStarted⟩, fun goesOn => ?_, fun last => .inr ?_⟩
  · cases counted with
    | ended last _ _ => exact absurd last goesOn
    | waits last _ _ _ => exact absurd last goesOn
    | counted _ strike alike =>
      rw [strike, StrikeMonitor.counted_storm] at stormStrikes
      exact ⟨.inl full, stormStrikes, alike.trans toldEnd⟩
  · have storm := StrikeMonitor.storm_of_running last
    cases counted with
    | counted goesOn _ _ => exact absurd last goesOn
    | ended _ strike tells =>
      rw [strike] at stormStrikes
      exact .inl ⟨full, stormStrikes, toldEnd.tells tells⟩
    | waits _ strike alike waiting =>
      rw [strike, storm] at stormStrikes
      exact .inr ⟨full, stormStrikes, alike.trans toldEnd, by simpa using waiting⟩

end

/-! ### A slot entry with strikes (R2, R135, R139) -/

/-- The next slot within a superframe, or slot 0 of one that has been started, starts none (R2). -/
theorem LinkClock.next_starts_none {c : LinkClock}
    (within : c.time.slot ≠ 1535 ∨ c.time.sf + 1 = c.lastStarted) :
    ¬((c.time.advance 1).slot = 0 ∧ (c.time.advance 1).sf ≠ c.lastStarted) := by
  rintro ⟨first, unstarted⟩
  by_cases last : c.time.slot = 1535
  · rw [LinkTime.advance_one_wrap _ last] at unstarted
    exact within.elim (absurd last) unstarted
  · rw [LinkTime.advance_one _ last] at first
    exact last ((eq_neg_of_add_eq_zero_left first).trans (by decide))

theorem exec_slotEntry {s : State} (released : s.inReset = false) (pins : Pins) :
    exec (.slotEntry pins) s = .next (s.advanceSlot pins) :=
  whenReleased_next released _

section
variable {s : State} {pins : Pins} (settled : s.settled)
include settled

/-- A slot entry that starts no superframe samples the lines, judges the holds and sends. -/
theorem State.advanceSlot_within
    (within : s.clock.time.slot ≠ 1535 ∨ s.clock.time.sf + 1 = s.clock.lastStarted) :
    s.advanceSlot pins =
      (s.standAt (s.clock.time.advance 1) pins).sampleStrikes.judgeHolds.sendSlot := by
  rw [State.advanceSlot_settled settled, if_neg (LinkClock.next_starts_none within)]
  rfl

/-- A slot entry with strikes that starts a superframe takes them before the start or after it. -/
theorem State.advanceSlot_struckAtStart (ranges : s.rangesKept)
    (comes : (s.strike.strikesOf pins).1 = true ∨ (s.strike.strikesOf pins).2 = true)
    (last : s.clock.time.slot = 1535) (unstarted : s.clock.time.sf + 1 ≠ s.clock.lastStarted) :
    ∃ u : State, s.advanceSlot pins = u.judgeHolds.sendSlot ∧
      (s.standAt ⟨s.clock.time.sf + 1, 0⟩ pins).StruckAtStart u (s.clock.time.sf + 1) := by
  obtain ⟨⟨-, -, -, -, ⟨shortest, longest⟩, -⟩, range, -⟩ := ranges
  obtain ⟨-, noneOwed, -⟩ := id settled
  have strikes : (s.standAt ⟨s.clock.time.sf + 1, 0⟩ pins).strikeComes = true :=
    (Bool.or_eq_true _ _).mpr comes
  rw [State.advanceSlot_settled settled, LinkTime.advance_one_wrap _ last, if_pos ⟨rfl, unstarted⟩]
  unfold State.enterSlot
  dsimp only
  rw [strikes, Bool.true_and]
  split
  · exact ⟨_, rfl, State.struckAtStart_of_before strikes noneOwed _ shortest longest⟩
  · exact ⟨_, rfl, State.struckAtStart_of_after strikes noneOwed range _⟩

end

/-- Settles O9: the filters case by case; at a slot entry the strikes of the samples are taken
alone, or before or after a superframe start, which counts the storm timer as it finds it. -/
theorem slotEntryTakesAStrike : Obligations.SlotEntryTakesAStrike := by
  refine ⟨fun l sample => ⟨fun same => same ▸ l.take_same, LineFilter.take_first,
    LineFilter.take_second⟩, ?_⟩
  intro pins s settled sampled strikes line full begun goneOn stormEndKept comes
  obtain ⟨released, -⟩ := id settled
  refine ⟨fun within => ?_, fun last unstarted ranges => ?_⟩
  · refine ⟨_, exec_slotEntry released pins, ?_⟩
    obtain ⟨struck, l, on, events⟩ := State.sampleStrikes_struck
      (s := s.standAt (s.clock.time.advance 1) pins) ((Bool.or_eq_true _ _).mpr comes)
    rw [State.advanceSlot_within settled within]
    simp only [State.sendSlot_strike, State.sendSlot_events, State.judgeHolds_strike,
      State.judgeHolds_events]
    refine ⟨fun k => ?_, struck.timer, StrikeMonitor.storm_of_running struck.timer,
      struck.stormStrikes, ⟨l, ?_, events⟩, by simp [State.standAt]⟩
    · cases k <;> exact struck.line _
    · cases l <;> exact on
  · obtain ⟨u, entered, started⟩ :=
      State.advanceSlot_struckAtStart settled ranges comes last unstarted
    refine ⟨_, exec_slotEntry released pins, ?_⟩
    rw [entered]
    simp only [State.sendSlot_strike, State.sendSlot_events, State.sendSlot_owed,
      State.sendSlot_clock, State.judgeHolds_strike, State.judgeHolds_events,
      State.judgeHolds_owed, State.judgeHolds_clock, stormEndKept]
    obtain ⟨lines, ⟨l, on, flag, detail⟩, ⟨time, lastStarted⟩, goesOn, ends⟩ := started
    refine ⟨fun k => ?_, flag, ⟨l, ?_, detail⟩, time, lastStarted, goesOn, ends⟩
    · cases k <;> exact lines _
    · cases l <;> exact on

end Sys2Proof.Machine
end

section
/-! SUPPORT. A hand-over whose run passes the end of an egress FIFO (R144, R145), the Tally Unit's
share of a superframe start taken as a step of its own (R150, R151; log entry 2), and the proofs
about them. -/

namespace Sys2Proof.Machine

/-! ### A hand-over that fills an egress FIFO (R144, R145) -/

theorem State.handOver_append (s : State) (n : Trib) (f : Flow) (first later : List EgressEntry) :
    s.handOver n f (first ++ later) = (s.handOver n f first).handOver n f later :=
  List.foldl_append

/-- The part after `k` entries of flow `f` met tributary `n`'s full egress FIFO. -/
def State.withDrops (s : State) (n : Trib) (f : Flow) (k : Nat) : State :=
  (s.withEgress { s.egress with
    dropCount := s.egress.dropCount.write f (satAdd (s.egress.dropCount.read f) k) }).raise
      .egressOverflow (.tributaryFlow n f)

/-- Dropped together or one part after the other, entries are counted alike, and told once. -/
theorem State.withDrops_withDrops (s : State) (n : Trib) (f : Flow) (j k : Nat) :
    (s.withDrops n f j).withDrops n f k = s.withDrops n f (j + k) := by
  simp [State.withDrops, State.raise, State.withEgress, State.withEvents, satAdd_satAdd]

/-- An entry that meets a full egress FIFO is one drop (R145). -/
theorem State.handEntry_drops {s : State} {n : Trib} (f : Flow) (e : EgressEntry)
    (full : ¬ (s.egress.fifo.read n).length < 64) :
    State.handEntry n f s e = s.withDrops n f 1 := by
  rw [s.handEntry_full n f e full, Tab.modify, satInc_eq]
  rfl

/-- A run that meets a full egress FIFO is dropped, entry by entry (R145). -/
theorem State.handOver_drops {s : State} {n : Trib} (f : Flow) (e : EgressEntry)
    (run : List EgressEntry) (full : ¬ (s.egress.fifo.read n).length < 64) :
    s.handOver n f (e :: run) = s.withDrops n f (run.length + 1) := by
  induction run generalizing s e with
  | nil => exact State.handEntry_drops f e full
  | cons second run ih =>
    rw [State.handOver_cons, State.handEntry_drops f e full, ih second (by exact full),
      State.withDrops_withDrops, List.length_cons, Nat.add_comm 1]

/-- A hand-over in full: the run's head fills the egress FIFO, and what passes its end is counted
and told (R144, R145). -/
theorem State.handOver_eq (s : State) (n : Trib) (f : Flow) (run : List EgressEntry) {room : Nat}
    (fits : (s.egress.fifo.read n).length + room = 64) :
    s.handOver n f run = { s with
      egress := { s.egress with
        fifo := s.egress.fifo.write n (s.egress.fifo.read n ++ run.take room)
        dropCount := s.egress.dropCount.write f
          (satAdd (s.egress.dropCount.read f) (run.length - room)) }
      events := if room < run.length then s.events.raise .egressOverflow (.tributaryFlow n f)
        else s.events } := by
  rcases Nat.lt_or_ge room run.length with passes | whole
  · have head : (run.take room).length = room := List.length_take_of_le passes.le
    obtain ⟨e, rest, tail⟩ : ∃ e rest, run.drop room = e :: rest :=
      ⟨_, _, List.drop_eq_getElem_cons passes⟩
    have dropped : rest.length + 1 = run.length - room := by
      rw [← List.length_drop, tail, List.length_cons]
    conv_lhs => rw [← List.take_append_drop room run, tail]
    rw [State.handOver_append, State.handOver_room s n f _ (by omega),
      State.handOver_drops f e rest (by simp [head, fits]), dropped, if_pos passes]
    rfl
  · rw [State.handOver_room s n f run (by omega), List.take_of_length_le whole,
      Nat.sub_eq_zero_of_le whole, satAdd_zero, Tab.write_read, if_neg (Nat.not_lt.mpr whole)]
    rfl

/-- Settles O19: the run is cut where the FIFO is full; its head is placed whole, its tail dropped
whole. -/
theorem handOverPlacesThenDrops : Obligations.HandOverPlacesThenDrops := by
  intro s n f run sized room t
  have handed : t = _ := s.handOver_eq n f run (Nat.add_sub_of_le sized)
  rw [handed]
  exact ⟨Tab.read_write_same .., fun m other => Tab.read_write_other _ _ other,
    Tab.read_write_same .., fun g other => Tab.read_write_other _ _ other, rfl, rfl, rfl⟩

/-! ### The loss of the tally (R150, R151) -/

/-- The last superframe of the tally-loss timer expires it, which is told (R150). -/
theorem State.tallyStart_last {s : State} (sf : Superframe) (last : s.tally.timer = .running 1) :
    s.tallyStart sf = (s.withTally (s.tally.expire s.mgmt.settings.tallyPolicy)).raise .tallyLoss
      (.tally s.mgmt.settings.tallyPolicy sf) := by
  simp only [State.tallyStart, last]
  exact if_pos le_rfl

/-- An earlier superframe of the tally-loss timer only counts it down (R150). -/
theorem State.tallyStart_earlier {s : State} {n : Nat} (sf : Superframe) (earlier : 2 ≤ n)
    (timer : s.tally.timer = .running n) :
    s.tallyStart sf = s.withTally { s.tally with timer := .running (n - 1) } := by
  have goesOn : s.tally.ending = false := by
    rw [TallyUnit.ending, timer]
    exact decide_eq_false (by omega)
  rw [s.tallyStart_timer sf goesOn, timer]

/-- At the expiry the policy DARK turns every received state OFF, and HOLD keeps them (R151). -/
theorem TallyUnit.expire_received_read (u : TallyUnit) (policy : TallyPolicy) (n : Lamp) :
    (u.expire policy).received.read n = if policy = .dark then .off else u.received.read n := by
  unfold TallyUnit.expire
  split
  · exact Tab.read_fill _ n
  · rfl

theorem exec_tallyLoss {s : State} (released : s.inReset = false) :
    exec .tallyLoss s = .next (s.takeOwedOf OwedStart.isTally) :=
  whenReleased_next released _

/-- Settles O15: the waiting share is the Tally Unit's count of the start, which expires the timer
at its last superframe and counts it down before. -/
theorem tallyLossExpiresTheTimer : Obligations.TallyLossExpiresTheTimer := by
  intro sf rest s released waits
  have taken : exec .tallyLoss s = .next ((s.withOwed rest).tallyStart sf) := by
    rw [exec_tallyLoss released, State.takeOwedOf_some waits, State.takeShare]
  refine ⟨fun last => ⟨_, taken, ?_⟩, fun n earlier timer => ?_⟩
  · rw [State.tallyStart_last sf (by exact last)]
    exact ⟨rfl, TallyUnit.expire_received_read s.tally _, rfl⟩
  · rw [taken, State.tallyStart_earlier sf earlier (by exact timer)]
    rfl

end Sys2Proof.Machine
end

section
/-! SUPPORT. The far write window and its freeze (R161, R170, R171): what each operation of the part
leaves of them, and the proof that a frozen window stands until RESET. -/

namespace Sys2Proof.Machine

/-! ### Operations that leave the window alone -/

/-- The freeze of the far write window and its two bounds. -/
def ManagementUnit.farWindow (m : ManagementUnit) : Bool × Nat × Nat :=
  (m.frozen, m.windowLow, m.windowHigh)

@[simp] theorem State.placePort_farWindow (s : State) (kind : RecordKind) (cell : CellData) :
    (s.placePort kind cell).mgmt.farWindow = s.mgmt.farWindow := by
  unfold State.placePort
  split <;> rfl

@[simp] theorem State.placeFlow0_farWindow (s : State) (kind : RecordKind) (cell : CellData) :
    (s.placeFlow0 kind cell).mgmt.farWindow = s.mgmt.farWindow := by
  unfold State.placeFlow0
  split <;> rfl

@[simp] theorem State.answer_farWindow (s : State) (o : Origin) (tag number : Byte) (r : Reply) :
    (s.answer o tag number r).mgmt.farWindow = s.mgmt.farWindow := by
  cases o <;> simp [State.answer, State.placeResponse]

@[simp] theorem State.judge_farWindow (s : State) (n : Superframe) :
    (s.judge n).1.mgmt.farWindow = s.mgmt.farWindow := by
  obtain ⟨-, mgmt, -⟩ := s.judge_kept n
  rw [mgmt]
  rfl

@[simp] theorem State.flow0Batch_farWindow (s : State) :
    s.flow0Batch.mgmt.farWindow = s.mgmt.farWindow := rfl

@[simp] theorem State.drainAndPlace_farWindow (s : State) (far : Option CellData) (first : Bool) :
    (s.drainAndPlace far first).mgmt.farWindow = s.mgmt.farWindow := by
  unfold State.drainAndPlace
  (repeat' split) <;> simp

@[simp] theorem State.superframeStart_farWindow (s : State) (n : Superframe) (counted : Bool) :
    (s.superframeStart n counted).mgmt.farWindow = s.mgmt.farWindow := by
  cases counted <;> simp [State.superframeStart]

@[simp] theorem State.enterSlot_farWindow (s : State) (start : Option Superframe) :
    (s.enterSlot start).mgmt.farWindow = s.mgmt.farWindow := by
  unfold State.enterSlot
  (repeat' split) <;> simp

/-! ### Operations that keep a frozen window -/

/-- From `s` to `t` a frozen window stays frozen, with its bounds (R171). -/
structure State.KeepsFrozen (s t : State) : Prop where
  stands : s.mgmt.frozen = true → t.mgmt.farWindow = s.mgmt.farWindow

theorem State.KeepsFrozen.of_same {s t : State} (same : t.mgmt.farWindow = s.mgmt.farWindow) :
    s.KeepsFrozen t := ⟨fun _ => same⟩

theorem State.KeepsFrozen.of_mgmt {s t : State} (mgmt : t.mgmt = s.mgmt) : s.KeepsFrozen t :=
  .of_same (by rw [mgmt])

theorem State.KeepsFrozen.refl (s : State) : s.KeepsFrozen s := ⟨fun _ => rfl⟩

theorem State.KeepsFrozen.trans {s t u : State} (first : s.KeepsFrozen t) (next : t.KeepsFrozen u) :
    s.KeepsFrozen u := by
  refine ⟨fun frozen => ?_⟩
  have same := first.stands frozen
  have still : t.mgmt.frozen = true := (congrArg Prod.fst same).trans frozen
  exact (next.stands still).trans same

/-- A fold of operations that keep a frozen window keeps it. -/
theorem State.KeepsFrozen.foldl {α : Type} {f : State → α → State}
    (each : ∀ (s : State) (a : α), s.KeepsFrozen (f s a)) (l : List α) (s : State) :
    s.KeepsFrozen (l.foldl f s) := by
  induction l generalizing s with
  | nil => exact .refl s
  | cons a l ih => exact (each s a).trans (ih (f s a))

/-! ### Management commands and deliveries (R127, R156, R160, R161) -/

/-- A datapath reset empties the two management queues (R173). -/
theorem State.datapathReset_mgmt (s : State) :
    s.datapathReset.mgmt = { s.mgmt with portQueue := [], flow0Queue := [] } := by
  simp [State.datapathReset, State.resetBlocks, ManagementUnit.datapathReset]

/-- A frozen window refuses SET-WINDOW, and FREEZE-WINDOW finds it frozen; no other command concerns
it (R170, R171). -/
theorem State.run_keepsFrozen (s : State) (c : Command) : s.KeepsFrozen (s.run c).2 := by
  cases c with
  | setWindow low high =>
    refine ⟨fun frozen => ?_⟩
    simp [State.run, State.runSetWindow, ManagementUnit.setWindow, frozen]
  | freezeWindow =>
    refine ⟨fun frozen => ?_⟩
    simp [State.run, State.runFreezeWindow, ManagementUnit.freeze, ManagementUnit.farWindow, frozen]
  | readFlowCounts flow clear =>
    rw [State.run, State.runReadFlowCounts]
    split <;> exact .of_mgmt rfl
  | readBearer bearer clear =>
    rw [State.run, State.runReadBearer]
    split <;> exact .of_mgmt (by simp)
  | setSetting name index value =>
    have mgmt : (s.runSetSetting name index value).2.mgmt =
        { s.mgmt with settings := (s.mgmt.settings.set name index value).2 } := by
      simp [State.runSetSetting, State.rejudgeHolds]
    exact .of_same (congrArg ManagementUnit.farWindow mgmt :)
  | setTally object mask lamps =>
    rw [State.run, State.runSetTally]
    split
    · exact .of_mgmt rfl
    · rw [State.runSetTallyOverride]
      split <;> exact .of_mgmt rfl
    · exact .refl s
  | ackEvents events =>
    rw [State.run, State.runAckEvents]
    split <;> exact .of_mgmt rfl
  | flushTributary trib =>
    rw [State.run, State.runFlushTributary]
    split <;> exact .of_mgmt rfl
  | resetDatapath => exact .of_same (congrArg ManagementUnit.farWindow s.datapathReset_mgmt :)
  | identify | readEntry | writeEntry | clearEntry | copyEntries | checkShadow | swapAt | cancelSwap
  | readLink | readSettings | setBar | clearBar | clearTallyOverride | readEvents =>
    exact .of_same rfl

theorem State.answer_keepsFrozen (s : State) (o : Origin) (tag number : Byte) (r : Reply) :
    s.KeepsFrozen (s.answer o tag number r) :=
  .of_same (by simp)

theorem State.carryOut_keepsFrozen (s : State) (o : Origin) (tag : Byte) (c : Command) :
    s.KeepsFrozen (s.carryOut o tag c) := by
  unfold State.carryOut
  split
  · exact s.answer_keepsFrozen ..
  · exact (s.run_keepsFrozen c).trans (State.answer_keepsFrozen ..)

theorem State.carryOutRecord_keepsFrozen (s : State) (o : Origin) (record : List Byte) :
    s.KeepsFrozen (s.carryOutRecord o record) := by
  unfold State.carryOutRecord
  split
  · exact s.answer_keepsFrozen ..
  · exact s.answer_keepsFrozen ..
  · exact s.carryOut_keepsFrozen ..

theorem State.forwardCommand_keepsFrozen (s : State) (cell : CellData) :
    s.KeepsFrozen (s.forwardCommand cell) := by
  unfold State.forwardCommand
  dsimp only
  split
  · exact s.answer_keepsFrozen ..
  · split
    · exact s.answer_keepsFrozen ..
    · exact .of_same rfl

theorem State.portCell_keepsFrozen (s : State) (cell : CellData) :
    s.KeepsFrozen (s.portCell cell) := by
  have malformed : s.KeepsFrozen s.malformedCell := .of_same rfl
  unfold State.portCell
  split
  · exact malformed
  · split
    · split
      · exact malformed
      · split
        · exact s.carryOutRecord_keepsFrozen ..
        · exact s.forwardCommand_keepsFrozen cell
        · exact s.answer_keepsFrozen ..
    all_goals exact malformed

theorem State.flow0Delivery_keepsFrozen (s : State) (d : Delivery) :
    s.KeepsFrozen (s.flow0Delivery d) := by
  cases d with
  | fill => exact .refl s
  | cell data =>
    unfold State.flow0Delivery State.flow0Cell
    dsimp only
    split
    · split
      · exact .of_same rfl
      · exact s.carryOutRecord_keepsFrozen ..
    · exact .of_same (by simp)
    · exact .of_same (by simp)
    · exact .of_same rfl

theorem State.deliver_keepsFrozen (s : State) (f : Flow) (run : List Delivery) :
    s.KeepsFrozen (s.deliver f run) := by
  have toTally (s : State) (d : Delivery) : s.KeepsFrozen (s.tallyDelivery d) := by
    cases d <;> exact .of_mgmt rfl
  unfold State.deliver
  split
  · exact .refl s
  · split
    · exact .of_mgmt (by simp)
    · exact .foldl toTally run s
    · exact .foldl State.flow0Delivery_keepsFrozen run s

theorem State.takeArrival_keepsFrozen (s : State) (f : Flow) (a : Arrival) :
    s.KeepsFrozen (s.takeArrival f a) :=
  .trans (.of_mgmt (t := (s.mergeArrival f a).1) (by simp)) (State.deliver_keepsFrozen ..)

theorem State.takeExpiry_keepsFrozen (s : State) (f : Flow) : s.KeepsFrozen (s.takeExpiry f) := by
  unfold State.takeExpiry
  split
  · exact .trans (.of_mgmt (t := (s.mergeExpiry f).1) (by simp)) (State.deliver_keepsFrozen ..)
  · exact .refl s

/-! ### Link time (R2, R5, R13, R15, R70) -/

theorem State.settle_keepsFrozen (s : State) : s.KeepsFrozen s.settle :=
  .trans (.of_mgmt (by simp)) (.foldl State.takeExpiry_keepsFrozen settleOrder s.takeOwed)

/-- What follows the settling and leaves the window as it is keeps it frozen. -/
theorem State.settled_keepsFrozen {s t : State}
    (same : t.mgmt.farWindow = s.settle.mgmt.farWindow) : s.KeepsFrozen t :=
  s.settle_keepsFrozen.trans (.of_same same)

theorem State.advanceSlot_keepsFrozen (s : State) (pins : Pins) :
    s.KeepsFrozen (s.advanceSlot pins) :=
  s.settled_keepsFrozen (by simp [State.advanceSlot])

theorem State.takeRefEdge_keepsFrozen (s : State) (pins : Pins) :
    s.KeepsFrozen (s.takeRefEdge pins) := by
  unfold State.takeRefEdge
  split
  · exact .refl s
  · split
    · exact .refl s
    · exact s.settled_keepsFrozen (by
        simp only [State.enterSlot_farWindow, State.setTime_mgmt, State.withSkew_mgmt,
          State.nextOccasion_mgmt, State.withPins_mgmt])

theorem State.moveTime_keepsFrozen (s : State) (n : Int) (pins : Pins)
    (held : Option (Bearer × LinkTime)) : s.KeepsFrozen (s.moveTime n pins held) := by
  unfold State.moveTime
  split
  · exact .refl s
  · exact s.settled_keepsFrozen (by simp)

theorem State.stepTime_keepsFrozen (s : State) (a p : LinkTime) (pins : Pins)
    (held : Option (Bearer × LinkTime)) : s.KeepsFrozen (s.stepTime a p pins held) :=
  s.settled_keepsFrozen (by simp [State.stepTime])

/-! ### Markers and received cells (R79, R83, R89) -/

theorem State.judgeMarker_keepsFrozen (s : State) (b : Bearer) (t : Superframe) (a : LinkTime)
    (pins : Pins) (held : Option (Bearer × LinkTime)) :
    s.KeepsFrozen (s.judgeMarker b t a pins held) := by
  have moved (count : Nat) (n : Int) :
      s.KeepsFrozen ((s.withClock { s.clock with disagreements := count }).moveTime n pins held) :=
    .trans (.of_mgmt (by simp)) (State.moveTime_keepsFrozen ..)
  unfold State.judgeMarker
  dsimp only
  split
  · exact moved 0 _
  · split
    · exact s.stepTime_keepsFrozen ..
    · exact moved _ _

theorem State.handOnMarker_keepsFrozen (s : State) (b : Bearer) (m : MarkerRecord) (pins : Pins) :
    s.KeepsFrozen (s.handOnMarker b m pins) := by
  have both (u : State) (skew report : Bool) :
      u.KeepsFrozen ((u.skewIf skew b m.sf m.stamp).reportIf report m.farFibreTimed) :=
    .of_mgmt (by simp)
  unfold State.handOnMarker
  dsimp only
  split
  · exact (both s _ _).trans ((State.judgeMarker_keepsFrozen ..).trans (both _ _ _))
  · exact both s true true

theorem State.acceptedCell_keepsFrozen (s : State) (b : Bearer) (content : HeaderContent)
    (cell : List Byte) (pins : Pins) : s.KeepsFrozen (s.acceptedCell b content cell pins) := by
  cases content with
  | idle => exact .refl s
  | data flow sequence len => exact s.takeArrival_keepsFrozen ..
  | marker sf fibreTimed radioTimed grade =>
    exact .trans (.of_mgmt (by simp)) (State.handOnMarker_keepsFrozen ..)

theorem State.badHeader_mgmt (s : State) (b : Bearer) : (s.badHeader b).mgmt = s.mgmt := by
  unfold State.badHeader
  dsimp only
  split <;> simp

theorem State.takeCell_keepsFrozen (s : State) (b : Bearer) (cell : List Byte) (pins : Pins) :
    s.KeepsFrozen (s.takeCell b cell pins) := by
  have aligned : s.KeepsFrozen (s.nextOccasion.alignedCell b cell pins) := by
    unfold State.alignedCell
    split
    · exact .of_mgmt (by simp [State.badHeader_mgmt])
    · exact .trans (.of_mgmt (by simp)) (State.acceptedCell_keepsFrozen ..)
  unfold State.takeCell
  split
  · exact .refl s
  · exact .of_mgmt (by simp)
  · exact aligned
  · exact aligned

/-! ### Every command but RESET's (R171) -/

/-- An event that is taken only while RESET is released. -/
theorem whenReleased_keepsFrozen {s u t : State} (h : whenReleased s u = .next t)
    (keeps : s.KeepsFrozen u) : s.KeepsFrozen t := by
  unfold whenReleased at h
  split at h
  · cases h; exact .refl s
  · cases h; exact keeps

theorem State.takeOwedOf_mgmt (s : State) (p : OwedStart → Bool) :
    (s.takeOwedOf p).mgmt = s.mgmt := by
  unfold State.takeOwedOf
  split <;> simp

/-- A command that RESET does not bring to its power-on values keeps a frozen window. -/
theorem exec_keepsFrozen {c : Instr} {s t : State} (h : exec c s = .next t)
    (notAsserted : c ≠ .resetAssert)
    (notReleased : ∀ (role : Role) (pins : Pins), c = .resetRelease role pins → s.inReset = false) :
    s.KeepsFrozen t := by
  cases c with
  | resetAssert => exact absurd rfl notAsserted
  | resetRelease role pins =>
    simp only [exec, execResetRelease, notReleased role pins rfl] at h
    cases h
    exact .refl s
  | egressReadyChange trib ready => cases h; exact .of_mgmt rfl
  | slotEntry pins => exact whenReleased_keepsFrozen h (s.advanceSlot_keepsFrozen pins)
  | refEdge pins => exact whenReleased_keepsFrozen h (s.takeRefEdge_keepsFrozen pins)
  | farMarkerAbsence =>
    refine whenReleased_keepsFrozen h ?_
    unfold State.takeFarAbsence
    split
    · exact s.advanceSlot_keepsFrozen _
    · exact .refl s
  | markerAbsenceExpiry | stormEnd | tallyLoss =>
    exact whenReleased_keepsFrozen h (.of_mgmt (s.takeOwedOf_mgmt _))
  | tributaryCellArrival trib payload len =>
    exact whenReleased_keepsFrozen h (.of_mgmt (by simp))
  | egressTake trib => exact whenReleased_keepsFrozen h (.of_mgmt rfl)
  | mgmtPortTake => exact whenReleased_keepsFrozen h (.of_same rfl)
  | mgmtPortCell payload len => exact whenReleased_keepsFrozen h (s.portCell_keepsFrozen _)
  | huntCandidateFound bearer position header =>
    exact whenReleased_keepsFrozen h (.of_mgmt (by simp))
  | receivedCell bearer cell pins =>
    exact whenReleased_keepsFrozen h (s.takeCell_keepsFrozen bearer cell pins)
  | holdExpiry flow => exact whenReleased_keepsFrozen h (s.takeExpiry_keepsFrozen flow)
  | identify | readEntry | writeEntry | clearEntry | copyEntries | checkShadow | swapAt | cancelSwap
  | readFlowCounts | readBearer | readLink | setSetting | readSettings | setWindow | freezeWindow
  | setBar | clearBar | setTallySource | setTallyOverride | clearTallyOverride | readEvents
  | ackEvents | flushTributary | resetDatapath =>
    exact whenReleased_keepsFrozen h (s.carryOut_keepsFrozen ..)

/-- Settles O60: every operation outside RESET keeps the bounds of a window that is frozen, and
keeps it frozen. -/
theorem frozenWindowStands : Obligations.FrozenWindowStands := by
  intro c rest s t front stepped frozen notAsserted notReleased
  rw [step, front] at stepped
  have stands : t.mgmt.farWindow = s.mgmt.farWindow :=
    (exec_keepsFrozen (s := s.withPending rest) stepped notAsserted notReleased).stands frozen
  simpa [ManagementUnit.farWindow, frozen] using stands

end Sys2Proof.Machine
end

section
/-! SUPPORT. What a management cell does by its kind and its target (R156, R158, R160, R185), the
refusals that a response tells, and the far write protections (R161, R163, R169 to R171); and the
proofs about the management port, flow 0, IDENTIFY and the protections. -/

namespace Sys2Proof.Machine

/-! ### The kind of a management record (R185) -/

theorem recordKind_command {record : List Byte} (kind : byteAt record 0 = 1) :
    recordKind record = some .command := by
  simp [recordKind, kind]

theorem recordKind_response {record : List Byte} (kind : byteAt record 0 = 2) :
    recordKind record = some .response := by
  simp [recordKind, kind]

theorem recordKind_notice {record : List Byte} (kind : byteAt record 0 = 3) :
    recordKind record = some .notice := by
  simp [recordKind, kind]

theorem recordKind_unused {record : List Byte}
    (unused : byteAt record 0 = 0 ∨ 4 ≤ (byteAt record 0).toNat) : recordKind record = none := by
  unfold recordKind
  obtain zero | above := unused
  · rw [zero]; rfl
  · split
    case h_4 => rfl
    all_goals omega

theorem recordKind_command_iff (record : List Byte) :
    recordKind record = some .command ↔ byteAt record 0 = 1 := by
  refine ⟨fun kind => ?_, recordKind_command⟩
  unfold recordKind at kind
  split at kind
  · next one => exact BitVec.eq_of_toNat_eq one
  all_goals cases kind

/-! ### Responses from the near end (R162, R186) -/

/-- A near command that is answered with no detail and no results. -/
theorem State.answer_near_bare (s : State) (tag number : Byte) (status : Status) :
    Answered s (s.answer .near tag number (Reply.bare status)) .near
      (plainRecord tag number status.number 0 []) :=
  s.answer_answered .near tag number (Reply.bare status) (Nat.zero_le _)

/-- A near command that is refused, naming one of some record bytes. -/
theorem State.answer_near_refusedAt (s : State) (tag number : Byte) (status : Status)
    (candidates : List Nat) :
    Answered s (s.answer .near tag number (Reply.refusedAt status candidates)) .near
      [2, tag, number, status.number, 0, BitVec.ofNat 8 (blame candidates), 0, 0, 0, 0] :=
  s.answer_answered .near tag number (Reply.refusedAt status candidates) (Nat.zero_le _)

/-- Of two candidates one is named (log entry 6). -/
theorem blame_pair (a b : Nat) : blame [a, b] = a ∨ blame [a, b] = b := by
  have half := Nat.mod_lt (Config.blamedIndex [a, b]) (Nat.succ_pos 1)
  unfold blame
  obtain zero | one : Config.blamedIndex [a, b] % 2 = 0 ∨ Config.blamedIndex [a, b] % 2 = 1 := by
    omega
  · exact .inl (by simp [zero])
  · exact .inr (by simp [one])

/-! ### Cells at the management port (R156, R158) -/

section PortCommand

variable {s : State} {cell : CellData} (whole : 4 ≤ cell.len) (fits : cell.len ≤ 180)
  (kind : byteAt cell.record 0 = 1)
include whole fits kind

/-- A COMMAND for the near end is carried out (R156). -/
theorem State.portCell_near (target : byteAt cell.record 2 = 1) :
    s.portCell cell = s.carryOutRecord .near cell.record := by
  have proper : ¬ (cell.len < 1 ∨ 180 < cell.len) := by omega
  simp only [State.portCell, if_neg proper, recordKind_command kind,
    if_neg (Nat.not_lt.mpr whole), target]
  rfl

/-- A COMMAND for the far end is sent on or refused (R158). -/
theorem State.portCell_far (target : byteAt cell.record 2 = 2) :
    s.portCell cell = s.forwardCommand cell := by
  have proper : ¬ (cell.len < 1 ∨ 180 < cell.len) := by omega
  simp only [State.portCell, if_neg proper, recordKind_command kind,
    if_neg (Nat.not_lt.mpr whole), target]
  rfl

/-- A COMMAND whose target is undefined is refused, naming byte 2 (R161, R186). -/
theorem State.portCell_undefined
    (target : byteAt cell.record 2 = 0 ∨ 3 ≤ (byteAt cell.record 2).toNat) :
    s.portCell cell = s.answer .near (byteAt cell.record 1) (byteAt cell.record 3)
      (Reply.refusedAt .field [2]) := by
  have proper : ¬ (cell.len < 1 ∨ 180 < cell.len) := by omega
  simp only [State.portCell, if_neg proper, recordKind_command kind,
    if_neg (Nat.not_lt.mpr whole)]
  split
  · next near => simp [target.resolve_right (by omega)] at near
  · next far => simp [target.resolve_right (by omega)] at far
  · rfl

end PortCommand

/-- A cell of no proper length, a COMMAND without a command number, and a cell that is no COMMAND
are malformed (R156). -/
theorem State.portCell_malformed (s : State) {cell : CellData}
    (bad : cell.len = 0 ∨ 180 < cell.len ∨ (byteAt cell.record 0 = 1 ∧ cell.len < 4) ∨
      byteAt cell.record 0 ≠ 1) : s.portCell cell = s.malformedCell := by
  unfold State.portCell
  split
  · rfl
  · next proper =>
    split
    · next command =>
      have kind := (recordKind_command_iff _).mp command
      have short : cell.len < 4 := by
        obtain empty | long | ⟨-, short⟩ | other := bad
        · omega
        · omega
        · exact short
        · exact absurd kind other
      rw [if_pos short]
    all_goals rfl

theorem exec_mgmtPortCell {s : State} (released : s.inReset = false) (payload : List Byte)
    (len : Nat) : exec (.mgmtPortCell payload len) s = .next (s.portCell ⟨payload, len⟩) :=
  whenReleased_next released _

/-! ### Commands for the far end (R158) -/

/-- With neither receiver TIMED there is no path (R158). -/
theorem State.forwardCommand_noPath {s : State} (fibre : s.timed .fibre = false)
    (radio : s.timed .radio = false) (cell : CellData) :
    s.forwardCommand cell =
      s.answer .near (byteAt cell.record 1) (byteAt cell.record 3) (Reply.bare .noPath) := by
  simp [State.forwardCommand, fibre, radio]

/-- With a receiver TIMED the command joins flow 0's queue, or finds it full (R158). -/
theorem State.forwardCommand_path {s : State} (path : s.timed .fibre = true ∨ s.timed .radio = true)
    (cell : CellData) :
    s.forwardCommand cell =
      if s.mgmt.flow0Queue.length < 16 then
        s.withMgmt { s.mgmt with flow0Queue := s.mgmt.flow0Queue ++ [cell] }
      else s.answer .near (byteAt cell.record 1) (byteAt cell.record 3) (Reply.bare .full) := by
  have timed : (!s.timed .fibre && !s.timed .radio) = false := by
    obtain fibre | radio := path
    · simp [fibre]
    · simp [radio]
  unfold State.forwardCommand joinQueue Config.queueCells
  rw [timed]
  by_cases room : s.mgmt.flow0Queue.length < 16 <;> simp [room]

/-- Settles O20: the two steps of R158 are the two tests of `State.forwardCommand`. -/
theorem mgmtPortForwardsFarCommand : Obligations.MgmtPortForwardsFarCommand := by
  intro payload len s released whole fits kind target
  have sent : exec (.mgmtPortCell payload len) s = .next (s.forwardCommand ⟨payload, len⟩) := by
    rw [exec_mgmtPortCell released]
    exact congrArg _ (State.portCell_far whole fits kind target)
  refine ⟨fun path room => ?_, fun fibre radio => ⟨_, sent, ?_⟩, fun path full => ⟨_, sent, ?_⟩⟩
  · rw [sent, State.forwardCommand_path path, if_pos room]
    rfl
  · rw [State.forwardCommand_noPath fibre radio]
    exact s.answer_near_bare ..
  · rw [State.forwardCommand_path path, if_neg (Nat.not_lt.mpr full)]
    exact s.answer_near_bare ..

/-! ### Commands for the near end (R161, R185) -/

/-- The row of a management command takes that command when RESET is released, and nothing
otherwise. -/
theorem exec_row_eq_whenReleased (s : State) {o : Origin} {tag : Byte} {c : Command} {i : Instr}
    (row : c.row o tag = some i) : exec i s = whenReleased s (s.carryOut o tag c) := by
  cases c with
  | setTally object mask lamps =>
    simp only [Command.row] at row
    split at row
    · next source =>
      obtain rfl : object = 0 := BitVec.eq_of_toNat_eq source
      cases row; rfl
    · next override =>
      obtain rfl : object = 1 := BitVec.eq_of_toNat_eq override
      cases row; rfl
    · cases row
  | _ => cases row; rfl

theorem operandWidths_eq_none {number : Byte} (undefined : number = 0 ∨ 24 ≤ number.toNat) :
    operandWidths number = none := by
  unfold operandWidths
  obtain zero | above := undefined
  · rw [zero]; rfl
  · split
    case h_24 => rfl
    all_goals omega

/-- A number that names no command is UNKNOWN (R161). -/
theorem readCommandRecord_unknown {record : List Byte}
    (undefined : byteAt record 3 = 0 ∨ 24 ≤ (byteAt record 3).toNat) :
    readCommandRecord record = .unknown := by
  simp [readCommandRecord, operandWidths_eq_none undefined]

/-- Settles O21: the port's cell by its length, kind and target, and the command by its number. -/
theorem mgmtPortRunsNearCommand : Obligations.MgmtPortRunsNearCommand := by
  refine ⟨fun payload len c row s whole fits kind target read isRow => ?_,
    fun payload len s released whole fits kind target undefined => ?_,
    fun payload len s released whole fits kind undefined => ?_,
    fun payload len s released bad => ?_⟩
  · have carried : s.portCell ⟨payload, len⟩ =
        s.carryOut .near (byteAt (payload.take len) 1) c := by
      rw [State.portCell_near (cell := ⟨payload, len⟩) whole fits kind target, State.carryOutRecord]
      simp only [CellData.record, read]
    rw [exec_row_eq_whenReleased s isRow, ← carried]
    rfl
  · refine ⟨_, exec_mgmtPortCell released .., ?_⟩
    rw [State.portCell_near (cell := ⟨payload, len⟩) whole fits kind target, State.carryOutRecord]
    simp only [CellData.record, readCommandRecord_unknown undefined]
    exact s.answer_near_bare ..
  · refine ⟨_, exec_mgmtPortCell released .., ?_⟩
    rw [State.portCell_undefined (cell := ⟨payload, len⟩) whole fits kind undefined]
    exact s.answer_near_refusedAt _ _ .field [2]
  · rw [exec_mgmtPortCell released, State.portCell_malformed s bad]
    rfl

/-! ### Cells released on flow 0 (R157, R160) -/

/-- Settles O22: by the kind of the record. -/
theorem flowZeroCellByItsKind : Obligations.FlowZeroCellByItsKind := by
  refine fun s cell => ⟨fun kind whole => ?_, fun kind short => ?_, fun kind room => ?_,
    fun kind full => ?_, fun kind full => ?_, fun unused => ?_⟩
  · simp [State.flow0Cell, recordKind_command kind, Nat.not_lt.mpr whole]
  · simp only [State.flow0Cell, recordKind_command kind, if_pos short]
    rfl
  · obtain response | notice := kind
    · simp only [State.flow0Cell, recordKind_response response]
      exact s.placePort_room .response cell room
    · simp only [State.flow0Cell, recordKind_notice notice]
      exact s.placePort_room .notice cell room
  · simp only [State.flow0Cell, recordKind_response kind]
    exact s.placePort_full .response cell (Nat.not_lt.mpr full)
  · simp only [State.flow0Cell, recordKind_notice kind]
    exact s.placePort_full .notice cell (Nat.not_lt.mpr full)
  · simp only [State.flow0Cell, recordKind_unused unused]
    rfl

/-! ### IDENTIFY (R164) -/

/-- The bytes of the identity record. -/
theorem State.identity_eq (s : State) :
    s.identity = [16, 24, 1, if s.role = .mast then 0 else 1, 64, 8, 64, 0, 6, 0, 15] := by
  unfold State.identity
  cases s.role <;> rfl

/-- Settles O38: IDENTIFY passes every test of origin and only reads. -/
theorem identifyReturnsTheIdentity : Obligations.IdentifyReturnsTheIdentity := by
  intro o tag s released
  rw [← s.identity_eq]
  exact exec_reads (c := .identify) released rfl (s.mgmt.refusal_of_reading o rfl rfl rfl) rfl
    (by simp [s.identity_eq])

/-! ### The bar, the window and the freeze (R169 to R171) -/

/-- A bound is brought into 1..63, which CLAMPED tells (R170). -/
theorem clampNumber_bound (v : Nat) :
    clampNumber 1 63 v = (max 1 (min 63 v), decide (max 1 (min 63 v) ≠ v)) := by
  rw [clampNumber_eq v (by omega)]
  exact congrArg _ (decide_eq_decide.mpr (by omega))

section SetWindow

variable {m : ManagementUnit} {low high : Byte}

theorem ManagementUnit.setWindow_frozen (frozen : m.frozen = true) :
    m.setWindow low high = (Reply.bare .frozen, m) := by
  simp [ManagementUnit.setWindow, frozen]

theorem ManagementUnit.setWindow_crossed (open_ : m.frozen = false)
    (crossed : max 1 (min 63 high.toNat) < max 1 (min 63 low.toNat)) :
    m.setWindow low high = (Reply.refusedAt .range [4, 5], m) := by
  simp only [ManagementUnit.setWindow, open_, clampNumber_bound, if_pos crossed]
  rfl

theorem ManagementUnit.setWindow_stores (open_ : m.frozen = false)
    (ordered : max 1 (min 63 low.toNat) ≤ max 1 (min 63 high.toNat)) :
    m.setWindow low high =
      (Reply.okClamped
        (decide (max 1 (min 63 low.toNat) ≠ low.toNat) ||
          decide (max 1 (min 63 high.toNat) ≠ high.toNat))
        [BitVec.ofNat 8 (max 1 (min 63 low.toNat)), BitVec.ofNat 8 (max 1 (min 63 high.toNat))],
        { m with
          windowLow := max 1 (min 63 low.toNat), windowHigh := max 1 (min 63 high.toNat) }) := by
  simp only [ManagementUnit.setWindow, open_, clampNumber_bound, if_neg (Nat.not_lt.mpr ordered)]
  rfl

end SetWindow

/-- A near command whose block refuses it and changes nothing. -/
theorem exec_near_refused {s : State} {tag : Byte} {c : Command} {i : Instr} {r : Reply}
    (released : s.inReset = false) (row : c.row .near tag = some i) (ran : s.run c = (r, s)) :
    exec i s = .next (s.answer .near tag c.number r) := by
  rw [exec_row released row, State.carryOut_passed _ _ _ _ (ManagementUnit.refusal_near _ c), ran]

/-- Settles O47: SET-BAR may come from either end, the others from the near end; SET-WINDOW by the
freeze and the order of its bounds. -/
theorem barWindowAndFreeze : Obligations.BarWindowAndFreeze := by
  intro tag s released
  refine ⟨fun o => ?_, ?_, ?_, fun low high => ⟨fun open_ ordered => ?_, fun frozen => ?_,
    fun open_ crossed => ?_⟩⟩
  · exact exec_answered_freely (c := .setBar) released rfl rfl rfl rfl rfl (Nat.zero_le _)
  · exact exec_answered_ok (c := .clearBar) released rfl rfl rfl (Nat.zero_le _)
  · exact exec_answered_ok (c := .freezeWindow) released rfl rfl rfl (Nat.zero_le _)
  · refine exec_answered_ok (c := .setWindow low high) released rfl rfl ?_ (by simp)
    rw [State.run, State.runSetWindow, ManagementUnit.setWindow_stores open_ ordered]
  · refine ⟨_, exec_near_refused (c := .setWindow low high) released rfl ?_,
      s.answer_near_bare tag 14 .frozen⟩
    rw [State.run, State.runSetWindow, ManagementUnit.setWindow_frozen frozen]
    rfl
  · refine ⟨_, BitVec.ofNat 8 (blame [4, 5]),
      exec_near_refused (c := .setWindow low high) released rfl ?_, ?_,
      s.answer_near_refusedAt tag 14 .range [4, 5]⟩
    · rw [State.run, State.runSetWindow, ManagementUnit.setWindow_crossed open_ crossed]
      rfl
    · obtain low | high := blame_pair 4 5
      · exact .inl (by rw [low]; rfl)
      · exact .inr (by rw [high]; rfl)

/-! ### Far commands turned away (R161, R163) -/

theorem Command.not_nearOnly_of_barred {c : Command} (barred : c.barred = true) :
    c.nearOnly = false := by
  cases c with
  | writeEntry | clearEntry | copyEntries | swapAt | cancelSwap | setSetting => rfl
  | _ => cases barred

theorem Command.not_nearOnly_of_outside {c : Command} {low high : Nat}
    (outside : c.windowPasses low high = false) : c.nearOnly = false := by
  cases c with
  | writeEntry | clearEntry | copyEntries => rfl
  | _ => cases outside

/-- The first of the tests of origin that fails gives the refusal of a far command (R161). -/
theorem ManagementUnit.refusal_far {m : ManagementUnit} {c : Command} {status : Status}
    (turned : (c.nearOnly = true ∧ status = .nearOnly) ∨
      (c.barred = true ∧ m.bar = true ∧ status = .barred) ∨
      (m.bar = false ∧ status = .window ∧ c.windowPasses m.windowLow m.windowHigh = false)) :
    m.refusal .far c = some status := by
  obtain ⟨nearOnly, rfl⟩ | ⟨barred, bar, rfl⟩ | ⟨noBar, rfl, outside⟩ := turned
  · simp [ManagementUnit.refusal, ManagementUnit.farRefusal, nearOnly]
  · simp [ManagementUnit.refusal, ManagementUnit.farRefusal, barred, bar,
      Command.not_nearOnly_of_barred barred]
  · simp [ManagementUnit.refusal, ManagementUnit.farRefusal, noBar, outside,
      Command.not_nearOnly_of_outside outside]

/-- Settles O48: a command that a test of origin turns away is answered with that test's status,
which FAR-REFUSED tells. -/
theorem farRefusalChangesNothingElse : Obligations.FarRefusalChangesNothingElse := by
  intro tag c row status s released isRow turned
  have refused : status.isRefusal = true := by
    obtain ⟨-, rfl⟩ | ⟨-, -, rfl⟩ | ⟨-, rfl, -⟩ := turned <;> rfl
  refine ⟨_, exec_row released isRow, ?_⟩
  rw [State.carryOut_refused _ _ _ _ _ (ManagementUnit.refusal_far turned),
    ← State.noteRefusal_far s c.number status refused]
  exact s.answer_answered .far tag c.number (Reply.bare status) (Nat.zero_le _)

end Sys2Proof.Machine
end

section
/-! SUPPORT. What the report of a superframe start lists, in which order, and what it marks and
builds (R157, R179, R180); and the proof about the judging. -/

namespace Sys2Proof.Machine

/-! ### What is listed, and in which order (R179, R180) -/

/-- What is reportable to a destination is listed to it, whatever its level (R180). -/
theorem EventUnit.mem_listing (u : EventUnit) (st : Settings) (q : MgmtQueue) (e : Fin 20) :
    e ∈ u.listing st q ↔ u.reportable st q e = true := by
  unfold EventUnit.listing
  cases level : st.eventLevel.read e <;> simp [level]

theorem EventUnit.ownDrop_iff (u : EventUnit) (q : MgmtQueue) (e : Fin 20) :
    u.ownDrop q e = true ↔ e = EventId.mgmtDrop.num ∧
      ∃ kind : RecordKind, (u.event.read e).detail = some (.dropped q kind) := by
  unfold EventUnit.ownDrop
  rw [Bool.and_eq_true, beq_iff_eq]
  refine and_congr_right fun _ => ?_
  split
  · next q' kind detail => simp [detail]
  · next other => simpa using fun kind detail => other q kind detail

/-- The URGENT events come first, and those of one level in ascending number (R180). -/
theorem EventUnit.listing_pairwise (u : EventUnit) (st : Settings) (q : MgmtQueue) :
    (u.listing st q).Pairwise fun e e' =>
      (st.eventLevel.read e = .urgent ∧ st.eventLevel.read e' = .routine) ∨
      (st.eventLevel.read e = st.eventLevel.read e' ∧ e < e') := by
  have rising (level : EventLevel) :
      (((List.finRange 20).filter (u.reportable st q)).filter
        fun e => st.eventLevel.read e == level).Pairwise fun e e' =>
        st.eventLevel.read e = st.eventLevel.read e' ∧ e < e' := by
    refine List.Pairwise.imp_of_mem (fun a b order => ?_)
      (((List.pairwise_lt_finRange 20).filter _).filter _)
    have first := (List.mem_filter.mp a).2
    have second := (List.mem_filter.mp b).2
    exact ⟨(beq_iff_eq.mp first).trans (beq_iff_eq.mp second).symm, order⟩
  refine List.pairwise_append.mpr ⟨(rising .urgent).imp .inr, (rising .routine).imp .inr,
    fun e first e' second => .inl ⟨?_, ?_⟩⟩
  · exact beq_iff_eq.mp (List.mem_filter.mp first).2
  · exact beq_iff_eq.mp (List.mem_filter.mp second).2

/-- Each event is listed once at most. -/
theorem EventUnit.listing_length_le (u : EventUnit) (st : Settings) (q : MgmtQueue) :
    (u.listing st q).length ≤ 20 := by
  have once : (u.listing st q).Nodup := by
    refine (u.listing_pairwise st q).imp fun {e e'} order same => ?_
    subst same
    obtain ⟨urgent, routine⟩ | ⟨-, below⟩ := order
    · rw [urgent] at routine; cases routine
    · exact lt_irrefl e below
  simpa using once.length_le_card

theorem EventUnit.callsForReport_iff (u : EventUnit) (st : Settings) (e : Fin 20) :
    u.callsForReport st e = true ↔
      st.eventLevel.read e = .urgent ∨ st.routineInterval ≤ u.routineCount := by
  unfold EventUnit.callsForReport
  cases st.eventLevel.read e <;> simp

/-! ### Marks (R180) -/

/-- What the judging lists, to either destination. -/
def EventUnit.allListed (u : EventUnit) (st : Settings) : List (Fin 20) :=
  u.listing st .port ++ u.listing st .flow0

theorem EventUnit.reports_iff (u : EventUnit) (st : Settings) :
    u.reports st = true ↔ st.reportEnable = true ∧
      ∃ e ∈ u.allListed st, u.callsForReport st e = true := by
  rw [EventUnit.reports, Bool.and_eq_true, List.any_eq_true, EventUnit.allListed]

theorem EventUnit.listed_read (u : EventUnit) (st : Settings) (es : List (Fin 20)) (e : Fin 20) :
    (u.listed st es).event.read e = { u.event.read e with
      unreported := (u.event.read e).unreported && !es.contains e } := by
  simp only [EventUnit.listed, Tab.read_build]
  cases es.contains e <;> simp

theorem EventUnit.listed_routineCount (u : EventUnit) (st : Settings) (es : List (Fin 20)) :
    (u.listed st es).routineCount =
      if ∃ e ∈ es, st.eventLevel.read e = .routine then 0 else u.routineCount := by
  simp [EventUnit.listed]

/-! ### Notices (R157, R180, R185, R186) -/

/-- A cell is the notice of superframe `n` that lists some events. -/
def EventUnit.IsNotice (u : EventUnit) (n : Superframe) (es : List (Fin 20)) (c : CellData) :
    Prop :=
  c.len = c.record.length ∧ c.payload.length = 180 ∧ c.record = u.noticeRecord n es

theorem EventUnit.noticeRecord_length (u : EventUnit) (n : Superframe) (es : List (Fin 20)) :
    (u.noticeRecord n es).length = 5 + 5 * es.length := by
  simp [EventUnit.noticeRecord, List.length_flatMap, Nat.mul_comm]
  omega

/-- A destination with something reportable has a notice, which lists all of it (R180). -/
theorem State.buildNotice_lists {s : State} {q : MgmtQueue}
    (something : s.events.listing s.mgmt.settings q ≠ []) (n : Superframe) :
    ∃ c, s.buildNotice n q = some c ∧
      s.events.IsNotice n (s.events.listing s.mgmt.settings q) c := by
  have short := s.events.listing_length_le s.mgmt.settings q
  have built : s.buildNotice n q = some (paddedCell s.occasion
      (s.events.noticeRecord n (s.events.listing s.mgmt.settings q))) := by
    unfold State.buildNotice
    split
    · next nothing => exact absurd nothing something
    · rfl
  refine ⟨_, built, ?_, paddedCell_payload_length _ _ ?_, paddedCell_record _ _⟩
  · rw [paddedCell_record, paddedCell_len]
  · rw [EventUnit.noticeRecord_length]
    omega

theorem State.buildNotice_eq_none_iff (s : State) (n : Superframe) (q : MgmtQueue) :
    s.buildNotice n q = none ↔ s.events.listing s.mgmt.settings q = [] := by
  refine ⟨fun none => ?_, fun nothing => State.buildNotice_none nothing n⟩
  by_contra something
  obtain ⟨c, built, -⟩ := State.buildNotice_lists something n
  rw [built] at none
  cases none

/-- A notice that finds the port's queue full is told by MGMT-DROP (R157). -/
theorem State.placeNear_events (s : State) (notice : Option CellData) :
    (s.placeNear notice).events =
      if notice ≠ none ∧ 16 ≤ s.mgmt.portQueue.length then
        s.events.raise .mgmtDrop (.dropped .port .notice)
      else s.events := by
  cases notice with
  | none => rfl
  | some c =>
    by_cases room : s.mgmt.portQueue.length < 16
    · simp only [State.placeNear, State.placePort_room _ _ _ room, Nat.not_le.mpr room]
      rfl
    · simp only [State.placeNear, State.placePort_full _ _ _ room, Nat.not_lt.mp room]
      rfl

/-- Placing the near notice concerns the Management Unit and the Event Unit alone. -/
theorem State.placeNear_frame (s : State) (notice : Option CellData) :
    s.placeNear notice = { s with
      mgmt := (s.placeNear notice).mgmt, events := (s.placeNear notice).events } := by
  cases notice with
  | none => rfl
  | some c =>
    by_cases room : s.mgmt.portQueue.length < 16
    · simp only [State.placeNear, State.placePort_room _ _ _ room]
    · simp only [State.placeNear, State.placePort_full _ _ _ room]

/-! ### The judging (R179, R180) -/

/-- The part with the events of a report marked, its notices built and not yet placed. -/
def State.marked (s : State) : State :=
  ((s.withEvents (s.events.listed s.mgmt.settings
    (s.events.allListed s.mgmt.settings))).nextOccasion).nextOccasion

/-- A report marks what it lists, and places the near notice. -/
theorem State.judge_reporting {s : State} (reports : s.events.reports s.mgmt.settings = true)
    (n : Superframe) :
    s.judge n = (s.marked.placeNear (s.buildNotice n .port),
      s.nextOccasion.buildNotice n .flow0) := by
  simp only [State.judge, reports, if_true]
  rfl

section Report

variable {s : State} (reports : s.events.reports s.mgmt.settings = true) (n : Superframe)
include reports

/-- The marks, and the MGMT-DROP of a near notice that is dropped. -/
theorem State.judge_events_read (e : Fin 20) :
    (s.judge n).1.events.event.read e =
      if e = EventId.mgmtDrop.num ∧
          (s.events.listing s.mgmt.settings .port ≠ [] ∧ 16 ≤ s.mgmt.portQueue.length) then
        EventState.raised (.dropped .port .notice)
      else { s.events.event.read e with
        unreported := (s.events.event.read e).unreported &&
          !(s.events.allListed s.mgmt.settings).contains e } := by
  have told : (s.buildNotice n .port ≠ none ∧ 16 ≤ s.marked.mgmt.portQueue.length) ↔
      (s.events.listing s.mgmt.settings .port ≠ [] ∧ 16 ≤ s.mgmt.portQueue.length) :=
    and_congr_left' (not_congr (s.buildNotice_eq_none_iff n .port))
  rw [State.judge_reporting reports, State.placeNear_events, ← EventUnit.listed_read]
  by_cases dropped :
      s.events.listing s.mgmt.settings .port ≠ [] ∧ 16 ≤ s.mgmt.portQueue.length
  · rw [if_pos (told.mpr dropped), EventUnit.raise_read]
    by_cases drop : e = EventId.mgmtDrop.num
    · rw [if_pos drop, if_pos ⟨drop, dropped⟩]
    · rw [if_neg drop, if_neg fun both => drop both.1]
      rfl
  · rw [if_neg (told.not.mpr dropped), if_neg fun both => dropped both.2]
    rfl

theorem State.judge_routineCount :
    (s.judge n).1.events.routineCount =
      if ∃ e ∈ s.events.allListed s.mgmt.settings, s.mgmt.settings.eventLevel.read e = .routine
      then 0 else s.events.routineCount := by
  rw [State.judge_reporting reports, State.placeNear_events, ← EventUnit.listed_routineCount]
  split <;> rfl

/-- With nothing reportable to the near end there is no near notice (R180). -/
theorem State.judge_mgmt_none (nothing : s.events.listing s.mgmt.settings .port = []) :
    (s.judge n).1.mgmt = s.mgmt := by
  rw [State.judge_reporting reports, State.buildNotice_none nothing]
  rfl

/-- The near notice joins the port's queue when there is room (R157). -/
theorem State.judge_mgmt_room (something : s.events.listing s.mgmt.settings .port ≠ [])
    (room : s.mgmt.portQueue.length < 16) :
    ∃ c, s.events.IsNotice n (s.events.listing s.mgmt.settings .port) c ∧
      (s.judge n).1.mgmt = { s.mgmt with portQueue := s.mgmt.portQueue ++ [c] } := by
  obtain ⟨c, built, notice⟩ := State.buildNotice_lists something n
  refine ⟨c, notice, ?_⟩
  rw [State.judge_reporting reports, built]
  exact congrArg State.mgmt (s.marked.placePort_room .notice c room)

/-- The near notice is counted when the port's queue is full (R157). -/
theorem State.judge_mgmt_full (something : s.events.listing s.mgmt.settings .port ≠ [])
    (full : 16 ≤ s.mgmt.portQueue.length) :
    (s.judge n).1.mgmt = { s.mgmt with portDrops := satInc s.mgmt.portDrops } := by
  obtain ⟨c, built, -⟩ := State.buildNotice_lists something n
  rw [State.judge_reporting reports, built]
  exact congrArg State.mgmt (s.marked.placePort_full .notice c (Nat.not_lt.mpr full))

theorem State.judge_frame :
    (s.judge n).1 = { s with
      mgmt := (s.judge n).1.mgmt, events := (s.judge n).1.events
      occasion := (s.judge n).1.occasion } := by
  have placed := s.marked.placeNear_frame (s.buildNotice n .port)
  rw [← s.marked.placeNear_occasion (s.buildNotice n .port)] at placed
  rw [State.judge_reporting reports]
  exact placed

end Report

/-- Settles O52: without a report nothing changes; a report marks its listing and places its
notices; the listing is what is reportable, in order. -/
theorem judgingMarksWhatItLists : Obligations.JudgingMarksWhatItLists := by
  intro s n st listed notice dropped
  refine ⟨fun quiet => ?_, fun enabled calls => ?_, s.events.callsForReport_iff st,
    fun q => ⟨fun e => ?_, s.events.listing_pairwise st q⟩⟩
  · refine State.judge_of_not_reports (Bool.eq_false_iff.mpr fun reports => ?_) n
    obtain ⟨enabled, e, member, called⟩ := (s.events.reports_iff st).mp reports
    obtain disabled | none := quiet
    · rw [disabled] at enabled; cases enabled
    · rw [none e member] at called; cases called
  · have reports : s.events.reports s.mgmt.settings = true :=
      (s.events.reports_iff st).mpr ⟨enabled, calls⟩
    refine ⟨State.judge_events_read reports n, State.judge_routineCount reports n,
      State.judge_mgmt_none reports n, State.judge_mgmt_room reports n,
      fun full => State.judge_mgmt_full reports n full.1 full.2, fun nothing => ?_,
      fun something => ?_, State.judge_frame reports n⟩
    · rw [State.judge_reporting reports]
      exact State.buildNotice_none (s := s.nextOccasion) nothing n
    · rw [State.judge_reporting reports]
      exact State.buildNotice_lists (s := s.nextOccasion) something n
  · rw [EventUnit.mem_listing, EventUnit.reportable, Bool.and_eq_true, Bool.and_eq_true,
      Bool.and_eq_true, Bool.not_eq_true', ← Bool.not_eq_true, EventUnit.ownDrop_iff, and_assoc,
      and_assoc]

end Sys2Proof.Machine
end

section
/-! SUPPORT. RESET-DATAPATH (R173): what a datapath reset does to the receivers, the source bearer
and the events (R10, R91, R92), and what it leaves in each of the other blocks; and the proof about
it. -/

namespace Sys2Proof.Machine

/-! ### The receivers (R91, R92) -/

/-- A receiver that a datapath reset has set to search from byte `next` of its lane. -/
def Receiver.searching (r : Receiver) (next : Nat) : Receiver :=
  { Receiver.powerOn with badCount := r.badCount, searchFrom := next, arrived := next }

/-- The part with the receiver of bearer `b` set to search from the next byte to arrive. -/
def State.searching (s : State) (b : Bearer) : State :=
  s.withRx b ((s.rx b).searching ((s.rx b).nextByte (s.bytesUntold b)))

theorem State.reached_timed (s : State) (b : Bearer) (n : Nat) :
    (s.withRx b ((s.rx b).reach n)).timed b = s.timed b :=
  State.withRx_timed_same ..

theorem State.resetReceiver_untimed {s : State} {b : Bearer} (untimed : s.timed b = false) :
    s.resetReceiver b = s.searching b := by
  rw [State.resetReceiver, State.enterHunt_untimed (by rw [State.reached_timed, untimed]),
    State.withRx_same, State.withRx_withRx]
  rfl

theorem State.resetReceiver_timed {s : State} {b : Bearer} (timed : s.timed b = true) :
    s.resetReceiver b = (s.searching b).leftTimed b .reset := by
  rw [State.resetReceiver, State.enterHunt_timed (by rw [State.reached_timed, timed]),
    State.withRx_same, State.withRx_withRx]
  rfl

theorem State.resetReceiver_timed_same (s : State) (b : Bearer) :
    (s.resetReceiver b).timed b = false := by
  rw [State.timed, State.resetReceiver_rx_same]
  rfl

theorem State.resetReceiver_timed_other (s : State) (b : Bearer) :
    (s.resetReceiver b).timed (otherBearer b) = s.timed (otherBearer b) := by
  rw [State.timed, State.timed, State.resetReceiver_rx_other]

/-- Only a receiver that was TIMED is told, by its DOWN with RESET (R92). -/
theorem State.resetReceiver_events (s : State) (b : Bearer) :
    (s.resetReceiver b).events =
      if s.timed b = true then s.events.raise (downEvent b) (.wayOut .reset) else s.events := by
  split
  · next timed =>
    rw [State.resetReceiver_timed timed, State.leftTimed_events, State.searching,
      State.withRx_events]
  · next untimed =>
    rw [State.resetReceiver_untimed (Bool.eq_false_iff.mpr untimed), State.searching,
      State.withRx_events]

theorem State.chooseSource_standing (s : State) :
    s.chooseSource.clock.time = s.clock.time ∧
    s.chooseSource.clock.lastStarted = s.clock.lastStarted :=
  ⟨s.chooseSource_time, s.chooseSource_lastStarted⟩

/-- Link time and the last started superframe stand (R3). -/
theorem State.resetReceiver_standing (s : State) (b : Bearer) :
    (s.resetReceiver b).clock.time = s.clock.time ∧
    (s.resetReceiver b).clock.lastStarted = s.clock.lastStarted := by
  have searching : (s.searching b).clock = s.clock := State.withRx_clock ..
  cases timed : s.timed b with
  | true =>
    rw [State.resetReceiver_timed timed, ← searching]
    exact State.chooseSource_standing _
  | false =>
    rw [State.resetReceiver_untimed timed, searching]
    exact ⟨rfl, rfl⟩

/-! ### The source bearer (R10) -/

theorem State.chooseSource_chosen {s : State} (truck : s.role = .truck → s.clock.source = none) :
    s.chooseSource.sourceChosen := by
  have timed (b : Bearer) : s.chooseSource.timed b = s.timed b := by
    cases b <;> simp [State.timed, State.rx]
  unfold State.sourceChosen
  rw [State.chooseSource_role, timed, timed]
  cases role : s.role with
  | mast => exact s.chooseSource_mast role
  | truck => rw [s.chooseSource_truck role]; exact truck role

theorem eq_otherBearer {b c : Bearer} (other : c ≠ b) : c = otherBearer b := by
  revert other
  cases b <;> cases c <;> decide

/-- A source bearer that the receivers' states name is the one they name after the reset of one of
them (R10, R92). -/
theorem State.resetReceiver_chosen {s : State} (chosen : s.sourceChosen) (b : Bearer) :
    (s.resetReceiver b).sourceChosen := by
  cases timed : s.timed b with
  | true =>
    rw [State.resetReceiver_timed timed]
    refine State.chooseSource_chosen fun truck => ?_
    have role : s.role = .truck := (State.withRx_role s b _).symm.trans truck
    have source : s.clock.source = none := by rw [chosen, role]
    exact (congrArg LinkClock.source (State.withRx_clock s b _)).trans source
  | false =>
    have same (c : Bearer) : (s.resetReceiver b).timed c = s.timed c := by
      by_cases other : c = b
      · rw [other, State.resetReceiver_timed_same, timed]
      · rw [eq_otherBearer other]
        exact s.resetReceiver_timed_other b
    unfold State.sourceChosen
    rw [same, same, State.resetReceiver_role, State.resetReceiver_untimed timed, State.searching,
      State.withRx_clock]
    exact chosen

/-! ### Both receivers reset -/

/-- The part with both receivers reset, the first step of a datapath reset. -/
def State.receiversReset (s : State) : State := (s.resetReceiver .fibre).resetReceiver .radio

theorem State.receiversReset_rx (s : State) (b : Bearer) :
    s.receiversReset.rx b = (s.rx b).searching ((s.rx b).nextByte (s.bytesUntold b)) := by
  cases b with
  | fibre =>
    exact ((s.resetReceiver .fibre).resetReceiver_rx_other .radio).trans
      (s.resetReceiver_rx_same .fibre)
  | radio =>
    have reached := (s.resetReceiver .fibre).resetReceiver_rx_same .radio
    have kept : (s.resetReceiver .fibre).rx .radio = s.rx .radio := s.resetReceiver_rx_other .fibre
    rw [kept, State.bytesUntold, State.resetReceiver_occasion] at reached
    exact reached

theorem State.receiversReset_timed (s : State) (b : Bearer) : s.receiversReset.timed b = false := by
  rw [State.timed, State.receiversReset_rx]
  rfl

theorem State.receiversReset_events (s : State) :
    s.receiversReset.events =
      let first :=
        if s.timed .fibre = true then s.events.raise .fibreDown (.wayOut .reset) else s.events
      if s.timed .radio = true then first.raise .radioDown (.wayOut .reset) else first := by
  have radio : (s.resetReceiver .fibre).timed .radio = s.timed .radio :=
    s.resetReceiver_timed_other .fibre
  rw [State.receiversReset, State.resetReceiver_events, radio, State.resetReceiver_events]
  rfl

/-- Each receiver that was TIMED has raised DOWN with RESET (R92). -/
theorem State.receiversReset_down {s : State} {b : Bearer} (timed : s.timed b = true) :
    s.receiversReset.events.event.read (downEvent b).num = EventState.raised (.wayOut .reset) := by
  rw [State.receiversReset_events]
  cases b with
  | fibre =>
    rw [if_pos timed]
    split <;> simp [EventUnit.raise_read, downEvent, EventId.num]
  | radio =>
    rw [if_pos timed]
    simp [EventUnit.raise_read, downEvent]

/-- No other event is touched. -/
theorem State.receiversReset_event_kept {s : State} {e : Fin 20}
    (other : ∀ b : Bearer, s.timed b = true → e ≠ (downEvent b).num) :
    s.receiversReset.events.event.read e = s.events.event.read e := by
  have fibre (timed : s.timed .fibre = true) : e ≠ EventId.fibreDown.num := other .fibre timed
  have radio (timed : s.timed .radio = true) : e ≠ EventId.radioDown.num := other .radio timed
  rw [State.receiversReset_events]
  dsimp only
  split_ifs with first second
  · rw [EventUnit.raise_read, if_neg (radio first), EventUnit.raise_read, if_neg (fibre second)]
  · rw [EventUnit.raise_read, if_neg (radio first)]
  · rw [EventUnit.raise_read, if_neg (fibre ‹_›)]
  · rfl

theorem State.receiversReset_routineCount (s : State) :
    s.receiversReset.events.routineCount = s.events.routineCount := by
  rw [State.receiversReset_events]
  dsimp only
  split_ifs <;> rfl

/-- Link time and the last started superframe stand (R3). -/
theorem State.receiversReset_standing (s : State) :
    s.receiversReset.clock.time = s.clock.time ∧
    s.receiversReset.clock.lastStarted = s.clock.lastStarted := by
  obtain ⟨time, lastStarted⟩ := s.resetReceiver_standing .fibre
  obtain ⟨time', lastStarted'⟩ := (s.resetReceiver .fibre).resetReceiver_standing .radio
  exact ⟨time'.trans time, lastStarted'.trans lastStarted⟩

/-- With no receiver TIMED there is no source bearer (R10). -/
theorem State.receiversReset_source {s : State} (chosen : s.sourceChosen) :
    s.receiversReset.clock.source = none := by
  have after : s.receiversReset.sourceChosen :=
    State.resetReceiver_chosen (State.resetReceiver_chosen chosen .fibre) .radio
  rw [State.sourceChosen, State.receiversReset_timed, State.receiversReset_timed] at after
  rw [after]
  split <;> rfl

/-! ### The datapath reset block by block (R173) -/

theorem State.datapathReset_eq (s : State) :
    s.datapathReset = s.receiversReset.resetBlocks.recomputePlan := rfl

theorem State.datapathReset_clock (s : State) :
    s.datapathReset.clock = s.receiversReset.clock.datapathReset := by
  rw [State.datapathReset_eq, State.recomputePlan_clock]
  rfl

theorem State.datapathReset_time (s : State) : s.datapathReset.clock.time = s.clock.time := by
  rw [State.datapathReset_clock, LinkClock.datapathReset, s.receiversReset_standing.left]

theorem State.datapathReset_lastStarted (s : State) :
    s.datapathReset.clock.lastStarted = s.clock.lastStarted := by
  rw [State.datapathReset_clock, LinkClock.datapathReset, s.receiversReset_standing.right]

theorem State.datapathReset_source {s : State} (chosen : s.sourceChosen) :
    s.datapathReset.clock.source = none := by
  rw [State.datapathReset_clock, LinkClock.datapathReset, State.receiversReset_source chosen]

theorem State.datapathReset_table (s : State) :
    s.datapathReset.table = { s.table with pendingSwap := none } := by
  simp [State.datapathReset, State.resetBlocks, TableControl.datapathReset]

theorem State.datapathReset_ingress (s : State) :
    s.datapathReset.ingress = s.ingress.datapathReset := by
  simp [State.datapathReset, State.resetBlocks]

theorem State.datapathReset_egress (s : State) :
    s.datapathReset.egress = s.egress.datapathReset := by
  simp [State.datapathReset, State.resetBlocks]

theorem State.datapathReset_batch (s : State) : s.datapathReset.batch = s.batch.datapathReset := by
  simp [State.datapathReset, State.resetBlocks]

theorem State.datapathReset_fibreTx (s : State) :
    s.datapathReset.fibreTx = { s.fibreTx with sendList := [] } := by
  simp [State.datapathReset, State.resetBlocks, Transmitter.datapathReset]

theorem State.datapathReset_radioTx (s : State) :
    s.datapathReset.radioTx = { s.radioTx with sendList := [] } := by
  simp [State.datapathReset, State.resetBlocks, Transmitter.datapathReset]

theorem State.datapathReset_skew (s : State) :
    s.datapathReset.skew = s.receiversReset.skew.datapathReset := by
  rw [State.datapathReset_eq, State.recomputePlan_skew]
  rfl

/-- E is INVALID, J is 0 and both Marker Lists are empty (R96, R105). -/
theorem State.datapathReset_skew_cleared (s : State) :
    let u := s.datapathReset.skew
    u.valid = false ∧ u.j = 0 ∧ u.fibreList = [] ∧ u.radioList = [] := by
  rw [State.datapathReset_skew]
  exact ⟨rfl, rfl, rfl, rfl⟩

theorem State.datapathReset_merge (s : State) : s.datapathReset.merge = s.merge.datapathReset := by
  simp [State.datapathReset, State.resetBlocks]

theorem State.datapathReset_expired (s : State) : s.datapathReset.expired = Tab.fill 64 false := by
  simp [State.datapathReset, State.resetBlocks]

theorem State.datapathReset_strike (s : State) : s.datapathReset.strike = s.strike := by
  simp [State.datapathReset, State.resetBlocks]

theorem State.datapathReset_tally (s : State) : s.datapathReset.tally = s.tally := by
  simp [State.datapathReset, State.resetBlocks]

theorem State.datapathReset_pending (s : State) : s.datapathReset.pending = s.pending := by
  simp [State.datapathReset, State.resetBlocks]

theorem State.datapathReset_rx (s : State) (b : Bearer) :
    s.datapathReset.rx b = (s.rx b).searching ((s.rx b).nextByte (s.bytesUntold b)) := by
  rw [← State.receiversReset_rx, State.datapathReset_eq]
  cases b <;> simp [State.rx, State.resetBlocks]

/-- Every window is as R111 gives it, its held cells counted flushed (R130, R131). -/
theorem MergeUnit.datapathReset_read (u : MergeUnit) (f : Flow) :
    u.datapathReset.window.read f = ⟨false, 0, [], 0⟩ ∧
    u.datapathReset.counts.read f = { u.counts.read f with
      flushed := satAdd (u.counts.read f).flushed (u.window.read f).held.length } :=
  ⟨Tab.read_fill .., (u.flushFlows_same (List.nodup_finRange 64) (mem_allFlows f)).2⟩

/-! ### The Radio Plan (R64, R70, R71, R75) -/

theorem State.datapathReset_planner (s : State) :
    s.datapathReset.planner = s.planner.datapathReset.compute s.table.activeBank := by
  have planner : s.receiversReset.planner = s.planner := by simp [State.receiversReset]
  have table : s.receiversReset.table = s.table := by simp [State.receiversReset]
  rw [State.datapathReset_eq, State.recomputePlan_planner, ← planner, ← table]
  rfl

/-- The grade in effect, the awaiting grade with its runs and the far fibre status stand; the
opposing run and the marker absence are 0 (R64). -/
theorem State.datapathReset_planner_kept (s : State) :
    let p := s.datapathReset.planner
    p.grade = s.planner.grade ∧ p.awaiting = s.planner.awaiting ∧
    p.farFibre = s.planner.farFibre ∧ p.opposingRun = 0 ∧ p.markerAbsence = 0 ∧
    p.downRun = s.planner.downRun ∧ p.upRun = s.planner.upRun ∧
    p.upLeast = s.planner.upLeast := by
  rw [State.datapathReset_planner]
  exact ⟨rfl, rfl, rfl, rfl, rfl, rfl, rfl, rfl⟩

theorem State.datapathReset_planFresh (s : State) : s.datapathReset.planFresh :=
  State.recomputePlan_planFresh _

/-- A plan that is the one of its inputs is computed to what it was (R71). -/
theorem State.datapathReset_planner_of_fresh {s : State} (fresh : s.planFresh) :
    s.datapathReset.planner = { s.planner with opposingRun := 0, markerAbsence := 0 } := by
  rw [State.datapathReset_planner]
  exact RadioPlanner.fresh_of_inputs (p := s.planner) rfl fresh

theorem flowsLeaving_self (flows : List Flow) : flowsLeaving flows flows = [] := by
  simp [flowsLeaving]

/-- A computation that leaves the plan raises neither SHED nor RESTORE (R75). -/
theorem State.recomputePlan_events_of_same {s : State}
    (same : (s.planner.compute s.table.activeBank).plan = s.planner.plan) :
    s.recomputePlan.events = s.events := by
  simp only [State.recomputePlan, same, flowsLeaving_self]
  rfl

/-- An event that no DOWN and no change of the plan concerns stands as it was (R173). -/
theorem State.datapathReset_event_kept {s : State} {e : Fin 20}
    (other : ∀ b : Bearer, s.timed b = true → e ≠ (downEvent b).num)
    (quiet : e ≠ EventId.shed.num ∧ e ≠ EventId.restore.num ∨ s.planFresh) :
    s.datapathReset.events.event.read e = s.events.event.read e := by
  rw [← State.receiversReset_event_kept other, State.datapathReset_eq]
  obtain ⟨shed, restore⟩ | fresh := quiet
  · exact State.recomputePlan_read _ e shed restore
  · have planner := State.datapathReset_planner_of_fresh fresh
    rw [State.datapathReset_eq, State.recomputePlan_planner] at planner
    rw [State.recomputePlan_events_of_same]
    · rfl
    · rw [planner]
      simp [State.receiversReset, State.resetBlocks, RadioPlanner.datapathReset]

theorem State.datapathReset_down {s : State} {b : Bearer} (timed : s.timed b = true) :
    s.datapathReset.events.event.read (downEvent b).num = EventState.raised (.wayOut .reset) := by
  rw [← State.receiversReset_down timed, State.datapathReset_eq]
  exact State.recomputePlan_read _ _ (by cases b <;> decide) (by cases b <;> decide)

/-- Each receiver is in HUNT and searches from the first byte that arrives after the reset, and
raised DOWN when it was TIMED (R91, R92). -/
theorem State.datapathReset_receivers (s : State) (b : Bearer) :
    let r := s.datapathReset.rx b
    r.state = .hunt ∧ r.record = none ∧ r.badCount = (s.rx b).badCount ∧
    (s.rx b).arrived ≤ r.searchFrom ∧ r.arrived = r.searchFrom ∧
    ((s.rx b).laneKept → (s.rx b).boundary ≠ none → r.searchFrom < (s.rx b).cellBegin + 192) ∧
    (s.timed b = true → s.datapathReset.events.event.read (downEvent b).num =
      EventState.raised (.wayOut .reset)) := by
  rw [State.datapathReset_rx]
  exact ⟨rfl, rfl, rfl, Receiver.arrived_le_nextByte .., rfl, fun ⟨_, _, within⟩ bounded =>
    Receiver.nextByte_lt _ _ bounded (within bounded), State.datapathReset_down⟩

theorem State.datapathReset_routineCount (s : State) :
    s.datapathReset.events.routineCount = s.events.routineCount := by
  rw [← s.receiversReset_routineCount, State.datapathReset_eq, State.recomputePlan_routineCount]
  rfl

/-! ### The command (R161, R173) -/

/-- RESET-DATAPATH's OK finds the port's queue empty (R173). -/
theorem exec_resetDatapath {s : State} (released : s.inReset = false) (tag : Byte) :
    ∃ (c : CellData) (occasion : Nat), c.record = okRecord tag 23 [] ∧
      exec (.resetDatapath .near tag) s = .next { s.datapathReset with
        mgmt := { s.mgmt with portQueue := [c], flow0Queue := [] }, occasion := occasion } := by
  refine ⟨paddedCell s.datapathReset.occasion (responseRecord tag 23 (Reply.ok [])),
    s.datapathReset.occasion + 1,
    (paddedCell_record ..).trans (responseRecord_plain tag 23 .ok false []), ?_⟩
  rw [exec_row (c := .resetDatapath) released rfl,
    State.carryOut_passed _ _ _ _ (ManagementUnit.refusal_near _ .resetDatapath), State.run,
    State.runResetDatapath, State.answer, State.noteRefusal_near, State.placeResponse,
    State.placePort_room _ _ _ (by simp [State.datapathReset_mgmt]),
    State.datapathReset_mgmt]
  rfl

/-- Settles O51: each block's part of the reset, and the OK placed in the queue it has emptied. -/
theorem resetDatapathInEveryBlock : Obligations.ResetDatapathInEveryBlock := by
  intro tag s released
  obtain ⟨c, occasion, record, ran⟩ := exec_resetDatapath released tag
  have time := s.datapathReset_time
  have lastStarted := s.datapathReset_lastStarted
  have clock := s.datapathReset_clock
  have source := State.datapathReset_source (s := s)
  have table := s.datapathReset_table
  have ingress := s.datapathReset_ingress
  have egress := s.datapathReset_egress
  have batch := s.datapathReset_batch
  have fibreTx := s.datapathReset_fibreTx
  have radioTx := s.datapathReset_radioTx
  obtain ⟨grade, awaiting, farFibre, opposingRun, markerAbsence, downRun, upRun, upLeast⟩ :=
    s.datapathReset_planner_kept
  have fresh := s.datapathReset_planFresh
  have stands := State.datapathReset_planner_of_fresh (s := s)
  have kept := fun e => State.datapathReset_event_kept (s := s) (e := e)
  have routineCount := s.datapathReset_routineCount
  have expired := s.datapathReset_expired
  have receivers := s.datapathReset_receivers
  obtain ⟨valid, jitter, fibreList, radioList⟩ := s.datapathReset_skew_cleared
  have merge := s.datapathReset_merge
  have strike := s.datapathReset_strike
  have tally := s.datapathReset_tally
  have pending := s.datapathReset_pending
  generalize s.datapathReset = u at *
  refine ⟨_, c, ran, record, rfl, time, lastStarted, congrArg LinkClock.radioOffset clock, source,
    table, fun n => ?fifos, (congrArg IngressPorts.dropCount ingress :),
    (congrArg EgressPorts.dropCount egress :), fun f => ?sequences,
    (congrArg BatchUnit.tallySource batch :), fibreTx, radioTx, grade, awaiting, farFibre,
    opposingRun, markerAbsence, fresh, downRun, upRun, upLeast, kept, stands, fun f => ?expired,
    receivers, valid, jitter, fibreList, radioList, fun f => ?windows,
    congrArg MergeUnit.free merge, strike, tally, routineCount, pending⟩
  case fifos => simp [ingress, egress, IngressPorts.datapathReset, EgressPorts.datapathReset]
  case sequences => simp [batch, BatchUnit.datapathReset]
  case expired => simp [expired]
  case windows => simpa only [← merge] using s.merge.datapathReset_read f

end Sys2Proof.Machine
end

section
/-! SUPPORT. The queue of commands (log entry 9): what a step is by the queue it finds. -/

namespace Sys2Proof.Machine

/-- Of two queues put into a state the later one stands. -/
@[simp] theorem State.withPending_withPending (s : State) (v w : List Instr) :
    (s.withPending v).withPending w = s.withPending w := rfl

theorem step_of_pending_nil {s : State} (idle : s.pending = []) : step s = .next s := by
  simp only [step, idle]

theorem step_of_pending_cons {s : State} {c : Instr} {rest : List Instr}
    (waiting : s.pending = c :: rest) : step s = exec c (s.withPending rest) := by
  simp only [step, waiting]

/-- Settles O1, by the two cases of the queue; nothing of the queue that is put in outlasts the
rest that replaces it. -/
theorem stepTakesFrontCommand : Obligations.StepTakesFrontCommand := by
  intro c rest s
  constructor
  · have taken := step_of_pending_cons (s.withPending_pending (c :: rest))
    rwa [State.withPending_withPending] at taken
  · exact step_of_pending_nil (s.withPending_pending [])

end Sys2Proof.Machine
end

section
/-! SUPPORT. How a step is put together, as `StepLaw` says it, for the laws of the link: the role, the
source bearer, the Radio Offset, the receivers and the Skew Unit. Most operations leave all of these
alone, and the others are used only where their conditions hold: a cell is confirmed in CONFIRM alone,
headers are judged in ALIGNED and TIMED alone, and a move of link time that leaves an adjustment to
wait is followed by the marker that uses it (R79 to R83, R98). -/

namespace Sys2Proof.Machine

/-! ### What the laws of the link speak of -/

/-- `t` differs from `s` in nothing that the laws of the link speak of. -/
structure State.SameLink (s t : State) : Prop where
  role : t.role = s.role
  source : t.clock.source = s.clock.source
  radioOffset : t.clock.radioOffset = s.clock.radioOffset
  fibreRx : t.fibreRx = s.fibreRx
  radioRx : t.radioRx = s.radioRx
  skew : t.skew = s.skew

theorem State.SameLink.refl (s : State) : s.SameLink s := ⟨rfl, rfl, rfl, rfl, rfl, rfl⟩

/-- An operation that leaves the role, the Link Clock, the receivers and the Skew Unit alone. -/
theorem State.SameLink.of_frame {s t : State} (frame : t.role = s.role ∧ t.clock = s.clock ∧
    t.fibreRx = s.fibreRx ∧ t.radioRx = s.radioRx ∧ t.skew = s.skew) : s.SameLink t := by
  obtain ⟨role, clock, fibreRx, radioRx, skew⟩ := frame
  exact ⟨role, by rw [clock], by rw [clock], fibreRx, radioRx, skew⟩

theorem State.SameLink.rx {s t : State} (same : s.SameLink t) (b : Bearer) : t.rx b = s.rx b := by
  cases b with
  | fibre => exact same.fibreRx
  | radio => exact same.radioRx

theorem State.SameLink.timed {s t : State} (same : s.SameLink t) (b : Bearer) :
    t.timed b = s.timed b := by
  unfold State.timed
  rw [same.rx]

/-- A receiver that has found the cell boundary for good is ALIGNED or TIMED (R78). -/
def Receiver.locked (r : Receiver) : Prop := r.state = .aligned ∨ r.state = .timed

/-- A relation between a state and a later one that what changes the link meets, of the moves of link
time those whose pending adjustment is one of `helds`. -/
structure LinkLaw (R : State → State → Prop) (helds : Option (Bearer × LinkTime) → Prop) : Prop where
  trans : ∀ {s t u}, R s t → R t u → R s u
  same : ∀ {s t}, s.SameLink t → R s t
  powerOn : ∀ (s : State) r role p o l, R s (State.powerOn r role p s.egress.ready o l)
  followMove : ∀ s n held, helds held → R s (s.withSkew (s.skew.followMove n held))
  badCount : ∀ s b n, R s (s.withRx b { s.rx b with badCount := n })
  resetReceiver : ∀ s b, R s (s.resetReceiver b)
  resetBlocks : ∀ s, R s s.resetBlocks
  receiverStart : ∀ s b, R s (s.receiverStart b)
  examine : ∀ s b position header, R s (s.withRx b ((s.rx b).examine position header))
  confirmCell : ∀ s b cell, (s.rx b).state = .confirm → R s (s.withRx b ((s.rx b).confirmCell cell))
  endBadRun : ∀ s b, (s.rx b).locked → R s (s.withRx b (s.rx b).endBadRun)
  badHeader : ∀ s b, (s.rx b).locked → R s (s.badHeader b)
  receiverMarker : ∀ s b m, (s.rx b).locked → R s (s.receiverMarker b m)
  skewMarker : ∀ s b t stamp, R s (s.skewMarker b t stamp)

namespace LinkLaw

variable {R : State → State → Prop} {helds : Option (Bearer × LinkTime) → Prop}
  (law : LinkLaw R helds)
include law

theorem refl (s : State) : R s s := law.same (.refl s)

/-- An operation that leaves the role, the Link Clock, the receivers and the Skew Unit alone. -/
theorem frame {s t : State} (frame : t.role = s.role ∧ t.clock = s.clock ∧ t.fibreRx = s.fibreRx ∧
    t.radioRx = s.radioRx ∧ t.skew = s.skew) : R s t :=
  law.same (.of_frame frame)

theorem clock (s : State) (c : LinkClock) (source : c.source = s.clock.source)
    (offset : c.radioOffset = s.clock.radioOffset) : R s (s.withClock c) :=
  law.same ⟨rfl, source, offset, rfl, rfl, rfl⟩

theorem pins (s : State) (p : Pins) : R s (s.withPins p) := law.frame ⟨rfl, rfl, rfl, rfl, rfl⟩

theorem pending (s : State) (l : List Instr) : R s (s.withPending l) :=
  law.frame ⟨rfl, rfl, rfl, rfl, rfl⟩

theorem nextOccasion (s : State) : R s s.nextOccasion := law.frame ⟨rfl, rfl, rfl, rfl, rfl⟩

theorem sendSlot (s : State) : R s s.sendSlot := law.frame (by simp)

/-- A fold of operations that meet the relation meets it. -/
theorem foldl {α : Type} {f : State → α → State} (each : ∀ s a, R s (f s a)) (l : List α)
    (s : State) : R s (l.foldl f s) := by
  induction l generalizing s with
  | nil => exact law.refl s
  | cons a l ih => exact law.trans (each s a) (ih (f s a))

/-! ### Commands and deliveries (R127, R156, R160, R161, R173) -/

theorem datapathReset (s : State) : R s s.datapathReset :=
  law.trans (law.trans (law.resetReceiver s .fibre) (law.resetReceiver _ .radio))
    (law.trans (law.resetBlocks _) (law.frame (by simp [State.datapathReset])))

theorem run (s : State) (c : Command) : R s (s.run c).2 := by
  cases c with
  | readFlowCounts flow clear =>
    rw [State.run, State.runReadFlowCounts]
    split <;> exact law.frame ⟨rfl, rfl, rfl, rfl, rfl⟩
  | readBearer bearer clear =>
    rw [State.run, State.runReadBearer]
    split
    · exact law.refl s
    · exact law.refl s
    · exact law.refl s
    · exact law.badCount s _ 0
  | setSetting name index value =>
    exact law.frame (by simp [State.run, State.runSetSetting, State.rejudgeHolds])
  | setTally object mask lamps =>
    rw [State.run, State.runSetTally]
    split
    · exact law.frame ⟨rfl, rfl, rfl, rfl, rfl⟩
    · rw [State.runSetTallyOverride]
      split <;> exact law.frame ⟨rfl, rfl, rfl, rfl, rfl⟩
    · exact law.refl s
  | ackEvents events =>
    rw [State.run, State.runAckEvents]
    split <;> exact law.frame ⟨rfl, rfl, rfl, rfl, rfl⟩
  | flushTributary trib =>
    rw [State.run, State.runFlushTributary]
    split <;> exact law.frame ⟨rfl, rfl, rfl, rfl, rfl⟩
  | resetDatapath => exact law.datapathReset s
  | identify | readEntry | writeEntry | clearEntry | copyEntries | checkShadow | swapAt | cancelSwap
  | readLink | readSettings | setWindow | freezeWindow | setBar | clearBar | clearTallyOverride
  | readEvents => exact law.frame ⟨rfl, rfl, rfl, rfl, rfl⟩

theorem answer (s : State) (o : Origin) (tag number : Byte) (r : Reply) :
    R s (s.answer o tag number r) := law.frame (by simp)

theorem malformedCell (s : State) : R s s.malformedCell := law.frame (by simp)

theorem carryOut (s : State) (o : Origin) (tag : Byte) (c : Command) :
    R s (s.carryOut o tag c) := by
  unfold State.carryOut
  split
  · exact law.answer ..
  · exact law.trans (law.run s c) (law.answer ..)

theorem carryOutRecord (s : State) (o : Origin) (record : List Byte) :
    R s (s.carryOutRecord o record) := by
  unfold State.carryOutRecord
  split
  · exact law.answer ..
  · exact law.answer ..
  · exact law.carryOut ..

theorem forwardCommand (s : State) (cell : CellData) : R s (s.forwardCommand cell) := by
  unfold State.forwardCommand
  dsimp only
  split
  · exact law.answer ..
  · split
    · exact law.answer ..
    · exact law.frame ⟨rfl, rfl, rfl, rfl, rfl⟩

theorem portCell (s : State) (cell : CellData) : R s (s.portCell cell) := by
  unfold State.portCell
  split
  · exact law.malformedCell s
  · split
    · split
      · exact law.malformedCell s
      · split
        · exact law.carryOutRecord ..
        · exact law.forwardCommand ..
        · exact law.answer ..
    all_goals exact law.malformedCell s

theorem flow0Delivery (s : State) (d : Delivery) : R s (s.flow0Delivery d) := by
  cases d with
  | fill => exact law.refl s
  | cell data =>
    show R s (s.flow0Cell data)
    unfold State.flow0Cell
    split
    · split
      · exact law.malformedCell s
      · exact law.carryOutRecord ..
    · exact law.frame (by simp)
    · exact law.frame (by simp)
    · exact law.malformedCell s

theorem deliver (s : State) (f : Flow) (run : List Delivery) : R s (s.deliver f run) := by
  have tally (u : State) (d : Delivery) : R u (u.tallyDelivery d) := by
    cases d <;> exact law.frame ⟨rfl, rfl, rfl, rfl, rfl⟩
  unfold State.deliver
  split
  · exact law.refl s
  · split
    · exact law.frame (by simp)
    · exact law.foldl tally run s
    · exact law.foldl law.flow0Delivery run s

theorem takeArrival (s : State) (f : Flow) (a : Arrival) : R s (s.takeArrival f a) :=
  law.trans (law.frame (by simp)) (law.deliver ..)

theorem takeExpiry (s : State) (f : Flow) : R s (s.takeExpiry f) := by
  unfold State.takeExpiry
  split
  · exact law.trans (law.frame (by simp)) (law.deliver ..)
  · exact law.refl s

/-! ### The superframe start (R2, R90) -/

theorem takeShare (s : State) (o : OwedStart) : R s (s.takeShare o) := by
  cases o with
  | storm => exact law.frame (by simp [State.takeShare])
  | tally sf => exact law.frame (by simp [State.takeShare])
  | receiver b => exact law.receiverStart s b

theorem takeOwed (s : State) : R s s.takeOwed :=
  law.trans (law.frame (t := s.withOwed []) ⟨rfl, rfl, rfl, rfl, rfl⟩)
    (law.foldl law.takeShare s.owed _)

theorem takeOwedOf (s : State) (p : OwedStart → Bool) : R s (s.takeOwedOf p) := by
  unfold State.takeOwedOf
  split
  · exact law.refl s
  · next o rest _ =>
    exact law.trans (law.frame (t := s.withOwed rest) ⟨rfl, rfl, rfl, rfl, rfl⟩) (law.takeShare _ o)

theorem shareOrOwe (s : State) (ending now : Bool) (o : OwedStart) :
    R s (s.shareOrOwe ending now o) := by
  unfold State.shareOrOwe
  split
  · exact law.frame ⟨rfl, rfl, rfl, rfl, rfl⟩
  · exact law.takeShare s o

theorem timersAtStart (s : State) (n : Superframe) : R s (s.timersAtStart n) :=
  law.trans (law.trans (law.trans (law.shareOrOwe ..) (law.shareOrOwe ..)) (law.shareOrOwe ..))
    (law.shareOrOwe ..)

theorem sharesAtStart (s : State) (n : Superframe) : R s (s.sharesAtStart n) :=
  law.trans (law.trans (law.frame (t := s.planAtStart n) (by simp)) (law.timersAtStart _ n))
    (law.frame (by simp [State.sharesAtStart]))

theorem superframeStart (s : State) (n : Superframe) (counted : Bool) :
    R s (s.superframeStart n counted) := by
  have collecting : R s (s.collectingStart n) :=
    law.trans (law.takeOwed s) (law.same ⟨rfl, rfl, rfl, rfl, rfl, rfl⟩)
  obtain ⟨clock, -, -, -, fibreRx, radioRx, skew, -⟩ := s.superframeStart_shares n counted
  have role : (s.superframeStart n counted).role = ((s.collectingStart n).sharesAtStart n).role := by
    simp [State.collectingStart]
  exact law.trans (law.trans collecting (law.sharesAtStart _ n))
    (law.frame ⟨role, clock, fibreRx, radioRx, skew⟩)

/-! ### Link time (R2, R5, R13, R15, R70) -/

theorem settle (s : State) : R s s.settle :=
  law.trans (law.takeOwed s) (law.foldl law.takeExpiry settleOrder _)

theorem enterSlot (s : State) (start : Option Superframe) : R s (s.enterSlot start) := by
  have sampled (u : State) : R u u.sampleStrikes := law.frame (by simp)
  have sent (u : State) : R u u.judgeHolds.sendSlot := law.frame (by simp)
  unfold State.enterSlot
  split
  · exact law.trans (sampled s) (sent _)
  · split
    · exact law.trans (law.trans (sampled s) (law.superframeStart ..)) (sent _)
    · exact law.trans (law.trans (law.superframeStart ..) (sampled _)) (sent _)

/-- Link time stands at `t`, and the slot there is entered. -/
theorem enterSlotAt (s : State) (t : LinkTime) (start : Option Superframe) :
    R s ((s.setTime t).enterSlot start) :=
  law.trans (law.clock s { s.clock with time := t } rfl rfl) (law.enterSlot (s.setTime t) start)

theorem settlePins (s : State) (pins : Pins) : R s (s.settle.withPins pins) :=
  law.trans (law.settle s) (law.pins ..)

theorem advanceSlot (s : State) (pins : Pins) : R s (s.advanceSlot pins) :=
  law.trans (law.settlePins s pins) (law.trans (law.nextOccasion _) (law.enterSlotAt ..))

theorem takeFarAbsence (s : State) : R s s.takeFarAbsence := by
  unfold State.takeFarAbsence
  split
  · exact law.advanceSlot ..
  · exact law.refl s

theorem takeRefEdge (unheld : helds none) (s : State) (pins : Pins) : R s (s.takeRefEdge pins) := by
  unfold State.takeRefEdge
  split
  · exact law.refl s
  · split
    · exact law.refl s
    · exact law.trans (law.settlePins s pins) (law.trans (law.nextOccasion _)
        (law.trans (law.followMove _ _ none unheld) (law.enterSlotAt ..)))

section Held
variable {held : Option (Bearer × LinkTime)} (allowed : helds held)
include allowed

theorem moveTime (s : State) (n : Int) (pins : Pins) : R s (s.moveTime n pins held) := by
  unfold State.moveTime
  split
  · exact law.refl s
  · exact law.trans (law.settlePins s pins)
      (law.trans (law.followMove _ n held allowed) (law.enterSlotAt ..))

theorem stepTime (s : State) (a p : LinkTime) (pins : Pins) : R s (s.stepTime a p pins held) := by
  have stood (u : State) : R u
      (u.withClock { u.clock with time := p, lastStarted := p.sf, disagreements := 0 }) :=
    law.clock u { u.clock with time := p, lastStarted := p.sf, disagreements := 0 } rfl rfl
  have landed (u : State) :
      R u (((u.raise .timeStep (.step a.sf p.sf)).swapAtStep a.sf p.sf).enterSlot none) :=
    law.trans (law.frame (by simp)) (law.enterSlot _ none)
  exact law.trans (law.settlePins s pins) (law.trans (law.followMove _ (difference p a) held allowed)
    (law.trans (stood _) (landed _)))

theorem judgeMarker (s : State) (b : Bearer) (t : Superframe) (a : LinkTime) (pins : Pins) :
    R s (s.judgeMarker b t a pins held) := by
  have moved (count : Nat) (n : Int) :
      R s ((s.withClock { s.clock with disagreements := count }).moveTime n pins held) :=
    law.trans (law.clock s { s.clock with disagreements := count } rfl rfl)
      (law.moveTime allowed _ n pins)
  unfold State.judgeMarker
  dsimp only
  split
  · exact moved 0 _
  · split
    · exact law.stepTime allowed ..
    · exact moved _ _

end Held

/-! ### Markers and received cells (R79, R83, R89) -/

theorem skewIf (s : State) (now : Bool) (b : Bearer) (t : Superframe) (a : LinkTime) :
    R s (s.skewIf now b t a) := by
  cases now with
  | false => exact law.refl s
  | true => exact law.skewMarker ..

theorem reportIf (s : State) (now timed : Bool) : R s (s.reportIf now timed) := law.frame (by simp)

theorem skewAndReport (s : State) (b : Bearer) (m : MarkerRecord) (skew report : Bool) :
    R s ((s.skewIf skew b m.sf m.stamp).reportIf report m.farFibreTimed) :=
  law.trans (law.skewIf ..) (law.reportIf ..)

/-- A marker is handed on where every adjustment that it can leave is allowed. -/
theorem handOnMarker (all : ∀ held, helds held) (s : State) (b : Bearer) (m : MarkerRecord)
    (pins : Pins) : R s (s.handOnMarker b m pins) := by
  unfold State.handOnMarker
  dsimp only
  split
  · exact law.trans (law.skewAndReport s b m _ _)
      (law.trans (law.judgeMarker (all _) ..) (law.skewAndReport _ b m _ _))
  · exact law.skewAndReport s b m true true

section Handed
variable (unheld : helds none)
  (hand : ∀ (s : State) (b : Bearer) (m : MarkerRecord) (pins : Pins), R s (s.handOnMarker b m pins))
include hand

theorem acceptedCell (s : State) (b : Bearer) (locked : (s.rx b).locked) (content : HeaderContent)
    (cell : List Byte) (pins : Pins) : R s (s.acceptedCell b content cell pins) := by
  cases content with
  | idle => exact law.refl s
  | data flow sequence len => exact law.takeArrival ..
  | marker sf fibreTimed radioTimed grade =>
    exact law.trans (law.receiverMarker s b _ locked) (hand ..)

theorem takeCell (s : State) (b : Bearer) (cell : List Byte) (pins : Pins) :
    R s (s.takeCell b cell pins) := by
  have aligned (locked : (s.rx b).locked) : R s (s.nextOccasion.alignedCell b cell pins) := by
    have here : (s.nextOccasion.rx b).locked := by rw [State.nextOccasion_rx]; exact locked
    refine law.trans (law.nextOccasion s) ?_
    unfold State.alignedCell
    split
    · exact law.badHeader _ b here
    · refine law.trans (law.endBadRun _ b here) (law.acceptedCell hand _ b ?_ ..)
      rw [State.withRx_same]
      exact here
  unfold State.takeCell
  split
  · exact law.refl s
  · next confirming => exact law.confirmCell s b cell confirming
  · next state => exact aligned (.inl state)
  · next state => exact aligned (.inr state)

/-! ### Every command and every step -/

omit hand in
/-- An event that is taken only while RESET is released. -/
theorem whenReleased {s u t : State} (h : whenReleased s u = .next t) (taken : R s u) : R s t := by
  unfold Machine.whenReleased at h
  split at h
  · cases h; exact law.refl s
  · cases h; exact taken

include unheld

theorem exec {i : Instr} {s t : State} (h : exec i s = .next t) : R s t := by
  cases i with
  | resetAssert => cases h; exact law.powerOn s ..
  | resetRelease role pins =>
    simp only [Machine.exec, execResetRelease] at h
    split at h
    · rw [← Host.Outcome.next.inj h]
      exact law.trans (law.powerOn s ..) (law.trans (law.superframeStart ..) (law.sendSlot _))
    · cases h; exact law.refl s
  | egressReadyChange trib ready => cases h; exact law.frame ⟨rfl, rfl, rfl, rfl, rfl⟩
  | slotEntry pins => exact law.whenReleased h (law.advanceSlot ..)
  | refEdge pins => exact law.whenReleased h (law.takeRefEdge unheld ..)
  | farMarkerAbsence => exact law.whenReleased h (law.takeFarAbsence s)
  | markerAbsenceExpiry | stormEnd | tallyLoss => exact law.whenReleased h (law.takeOwedOf ..)
  | tributaryCellArrival trib payload len => exact law.whenReleased h (law.frame (by simp))
  | egressTake trib => exact law.whenReleased h (law.frame ⟨rfl, rfl, rfl, rfl, rfl⟩)
  | mgmtPortTake => exact law.whenReleased h (law.frame ⟨rfl, rfl, rfl, rfl, rfl⟩)
  | mgmtPortCell payload len => exact law.whenReleased h (law.portCell ..)
  | huntCandidateFound bearer position header => exact law.whenReleased h (law.examine ..)
  | receivedCell bearer cell pins => exact law.whenReleased h (law.takeCell hand ..)
  | holdExpiry flow => exact law.whenReleased h (law.takeExpiry ..)
  | identify | readEntry | writeEntry | clearEntry | copyEntries | checkShadow | swapAt | cancelSwap
  | readFlowCounts | readBearer | readLink | setSetting | readSettings | setWindow | freezeWindow
  | setBar | clearBar | setTallySource | setTallyOverride | clearTallyOverride | readEvents
  | ackEvents | flushTributary | resetDatapath => exact law.whenReleased h (law.carryOut ..)

theorem step {s t : State} (h : step s = .next t) : R s t := by
  cases queue : s.pending with
  | nil =>
    rw [step_of_pending_nil queue] at h
    cases h; exact law.refl s
  | cons c rest =>
    rw [step_of_pending_cons queue] at h
    exact law.trans (law.pending s rest) (law.exec unheld hand h)

end Handed

end LinkLaw

end Sys2Proof.Machine
end

section
/-! SUPPORT. The laws of the link that every step keeps: the receivers' runs and boundaries (R78, R79,
R81 to R83, R90), the source bearer (R10), the bounds of E, J and the Radio Offset (R11, R102 to R105),
and the adjustment that no step leaves to wait (R98). -/

namespace Sys2Proof.Machine

/-! ### Laws of each receiver (R78 to R92) -/

/-- A law of one receiver that each operation of a receiver keeps. -/
structure ReceiverLaw (P : Receiver → Prop) : Prop where
  powerOn : P Receiver.powerOn
  badCount : ∀ {r} n, P r → P { r with badCount := n }
  searching : ∀ {r} untold, P r → P (r.searching (r.nextByte untold))
  absent : ∀ {r}, r.state = .timed → r.markerAbsence + 1 < 3 → P r →
    P { r with markerAbsence := r.markerAbsence + 1 }
  expired : ∀ {r}, r.state = .timed → P r → P { r with state := .aligned, markerAbsence := 3 }
  examine : ∀ {r} position header, P r → P (r.examine position header)
  confirmCell : ∀ {r} cell, r.state = .confirm → P r → P (r.confirmCell cell)
  endBadRun : ∀ {r}, r.locked → P r → P r.endBadRun
  countBad : ∀ {r}, r.locked → r.badRun + 1 < 8 → P r → P r.countBad
  hunts : ∀ {r}, r.locked → P r → P (r.countBad.enterHunt (r.cellBegin + 192))
  takeMarker : ∀ {r} m, r.locked → P r → P (r.takeMarker m)

/-- Both receivers meet `P`. -/
def State.bothRx (P : Receiver → Prop) (s : State) : Prop := ∀ b : Bearer, P (s.rx b)

theorem State.bothRx_iff (P : Receiver → Prop) (s : State) :
    s.bothRx P ↔ P s.fibreRx ∧ P s.radioRx :=
  ⟨fun both => ⟨both .fibre, both .radio⟩, fun ⟨fibre, radio⟩ b => by cases b <;> assumption⟩

/-- An operation that leaves the other receiver alone keeps a law of both if it keeps it of its own. -/
theorem State.bothRx.of_one {P : Receiver → Prop} {s t : State} (both : s.bothRx P) (b : Bearer)
    (own : P (t.rx b)) (other : t.rx (otherBearer b) = s.rx (otherBearer b)) : t.bothRx P := by
  intro c
  by_cases same : c = b
  · rw [same]; exact own
  · rw [eq_otherBearer same, other]; exact both _

theorem State.bothRx.withRx {P : Receiver → Prop} {s : State} (both : s.bothRx P) (b : Bearer)
    {r : Receiver} (own : P r) : (s.withRx b r).bothRx P :=
  both.of_one b (by rwa [State.withRx_same]) (State.withRx_other ..)

theorem badRunThreshold_le (storm : Bool) : badRunThreshold storm ≤ 8 := by
  cases storm <;> decide

/-- The receivers keep their laws whatever order the Link Clock and the Skew Unit take a marker in. -/
theorem ReceiverLaw.linkLaw {P : Receiver → Prop} (law : ReceiverLaw P) :
    LinkLaw (fun s t => s.bothRx P → t.bothRx P) (fun _ => True) where
  trans h h' := h' ∘ h
  same same both b := by rw [same.rx]; exact both b
  powerOn _ _ _ _ _ _ _ b := by cases b <;> exact law.powerOn
  followMove _ _ _ _ := id
  badCount _ b n both := both.withRx b (law.badCount n (both b))
  resetReceiver s b both :=
    both.of_one b (s.resetReceiver_rx_same b ▸ law.searching _ (both b)) (by simp)
  resetBlocks _ := id
  receiverStart s b both := by
    unfold State.receiverStart
    dsimp only
    split
    · next timed =>
      split
      · exact both.of_one b (by simpa using law.expired timed (both b)) (by simp)
      · next few => exact both.withRx b (law.absent timed (by omega) (both b))
    · exact both
  examine _ b position header both := both.withRx b (law.examine position header (both b))
  confirmCell _ b cell confirming both := both.withRx b (law.confirmCell cell confirming (both b))
  endBadRun _ b locked both := both.withRx b (law.endBadRun locked (both b))
  badHeader s b locked both := by
    unfold State.badHeader
    dsimp only
    split
    · exact both.of_one b (by simpa using law.hunts locked (both b)) (by simp)
    · next below =>
      have few : (s.rx b).badRun + 1 < 8 :=
        lt_of_lt_of_le (not_le.mp below) (badRunThreshold_le s.strike.storm)
      exact both.withRx b (law.countBad locked few (both b))
  receiverMarker s b m locked both := by
    have marked := both.withRx b (law.takeMarker m locked (both b))
    unfold State.receiverMarker
    dsimp only
    split
    · exact marked
    · intro c
      have kept := marked c
      cases c <;> simpa [State.rx] using kept
  skewMarker s b t stamp both c := by
    have kept := both c
    cases c <;> simpa [State.rx] using kept

/-- A law of each receiver that its operations keep is kept by every step. -/
theorem ReceiverLaw.step {P : Receiver → Prop} (law : ReceiverLaw P) {s t : State}
    (h : step s = .next t) (fibre : P s.fibreRx) (radio : P s.radioRx) :
    P t.fibreRx ∧ P t.radioRx := by
  have keeps := law.linkLaw.step trivial (law.linkLaw.handOnMarker fun _ => trivial) h
  rw [State.bothRx_iff, State.bothRx_iff] at keeps
  exact keeps ⟨fibre, radio⟩

/-- The runs and the absence stay in range (R78, R82, R83, R90). -/
theorem receiverLaw_runsKept : ReceiverLaw Receiver.runsKept where
  powerOn := by simp [Receiver.runsKept, Receiver.powerOn]
  badCount _ kept := kept
  searching _ _ := by simp [Receiver.runsKept, Receiver.searching, Receiver.powerOn]
  absent _ few := by
    rintro ⟨bad, confirmed, -, -⟩
    exact ⟨bad, confirmed, by dsimp only; omega, fun _ => by dsimp only; omega⟩
  expired _ := by
    rintro ⟨bad, confirmed, -, -⟩
    exact ⟨bad, confirmed, le_rfl, by simp⟩
  examine position header kept := by
    obtain ⟨bad, confirmed, absence, timed⟩ := kept
    unfold Receiver.examine
    split
    · next hunting =>
      split
      · exact ⟨bad, Nat.zero_le _, absence, by simp⟩
      · exact ⟨bad, confirmed, absence, timed⟩
    · exact ⟨bad, confirmed, absence, timed⟩
  confirmCell cell confirming kept := by
    obtain ⟨bad, -, absence, timed⟩ := kept
    unfold Receiver.confirmCell
    split
    · split
      · exact ⟨Nat.zero_le _, le_rfl, absence, by simp⟩
      · next few => exact ⟨bad, by dsimp only; omega, absence, timed⟩
    · simp [Receiver.runsKept, Receiver.enterHunt, Receiver.powerOn]
  endBadRun _ := by
    rintro ⟨-, confirmed, absence, timed⟩
    exact ⟨Nat.zero_le _, confirmed, absence, timed⟩
  countBad _ few := by
    rintro ⟨-, confirmed, absence, timed⟩
    exact ⟨Nat.le_of_lt_succ few, confirmed, absence, timed⟩
  hunts _ _ := by simp [Receiver.runsKept, Receiver.enterHunt, Receiver.powerOn]
  takeMarker _ _ := by
    rintro ⟨bad, confirmed, -, -⟩
    exact ⟨bad, confirmed, Nat.zero_le _, fun _ => Nat.zero_le _⟩

/-- A receiver past a cell stands at the boundary of the next one, with all its bytes to come. -/
theorem Receiver.laneKept_of_pastCell {r t : Receiver} (state : t.state ≠ .hunt)
    (boundary : t.boundary = r.pastCell.boundary) (found : t.atFoundCell = false)
    (arrived : t.arrived = r.pastCell.arrived) : t.laneKept := by
  refine ⟨fun hunt => absurd hunt state, fun none => ?_, fun _ => ?_⟩
  · rw [boundary] at none; cases none
  · simp [Receiver.cellBegin, boundary, found, arrived, Receiver.pastCell]

theorem Receiver.locked.not_hunt {r : Receiver} (locked : r.locked) : r.state ≠ .hunt := by
  rcases locked with state | state <;> simp [state]

/-- A search begun in HUNT is behind by less than a cell (R82, R91). -/
theorem Receiver.laneKept_of_search {r : Receiver} {k : Nat} (near : r.arrived ≤ k + 191) :
    (r.enterHunt k).laneKept :=
  ⟨fun _ => rfl, fun _ => near, fun some => absurd rfl some⟩

/-- A cell boundary stands outside HUNT alone, and the cell taken next has a byte to come (R79). -/
theorem receiverLaw_laneKept : ReceiverLaw Receiver.laneKept where
  powerOn := ⟨fun _ => rfl, fun _ => Nat.zero_le _, fun some => absurd rfl some⟩
  badCount _ kept := kept
  searching _ _ := ⟨fun _ => rfl, fun _ => Nat.le_add_right .., fun some => absurd rfl some⟩
  absent _ _ kept := kept
  expired timed := by
    rintro ⟨-, unset, set⟩
    exact ⟨by simp, unset, set⟩
  examine position header kept := by
    obtain ⟨hunt, unset, set⟩ := kept
    unfold Receiver.examine
    split
    · next hunting =>
      obtain ⟨state, ahead⟩ := hunting
      have search := unset (hunt state)
      split
      · refine ⟨by simp, by simp, fun _ => ?_⟩
        simp only [Receiver.cellBegin, Option.getD_some, if_true]
        omega
      · refine ⟨hunt, fun _ => ?_, fun some => absurd (hunt state) some⟩
        dsimp only
        omega
    · exact ⟨hunt, unset, set⟩
  confirmCell {r} cell confirming kept := by
    unfold Receiver.confirmCell
    split
    · split
      · exact Receiver.laneKept_of_pastCell (r := r) (by simp) rfl rfl rfl
      · exact Receiver.laneKept_of_pastCell (r := r) (by simp [Receiver.pastCell, confirming])
          rfl rfl rfl
    · exact Receiver.laneKept_of_search (by simp only [Receiver.pastCell]; omega)
  endBadRun {r} locked _ := Receiver.laneKept_of_pastCell (r := r) locked.not_hunt rfl rfl rfl
  countBad {r} locked _ _ := Receiver.laneKept_of_pastCell (r := r) locked.not_hunt rfl rfl rfl
  hunts _ _ := Receiver.laneKept_of_search (Nat.le_add_right ..)
  takeMarker _ locked kept := by
    obtain ⟨-, unset, set⟩ := kept
    exact ⟨by simp [Receiver.takeMarker], unset, set⟩

/-! ### The source bearer (R10) -/

/-- The source bearer stands where the role and what is TIMED stand. -/
theorem State.sourceChosen.of_timed {s t : State} (chosen : s.sourceChosen) (role : t.role = s.role)
    (source : t.clock.source = s.clock.source) (timed : ∀ b, t.timed b = s.timed b) :
    t.sourceChosen := by
  unfold State.sourceChosen
  rw [role, source, timed, timed]
  exact chosen

/-- A receiver that is TIMED as it was leaves the source bearer (R10). -/
theorem State.sourceChosen.withRx {s : State} (chosen : s.sourceChosen) (b : Bearer) {r : Receiver}
    (timed : (r.state == .timed) = s.timed b) : (s.withRx b r).sourceChosen := by
  refine chosen.of_timed (by simp) (by simp) fun c => ?_
  by_cases same : c = b
  · rw [same, State.withRx_timed_same, timed]
  · rw [eq_otherBearer same]
    simp [State.timed]

/-- In the TRUCK role a chosen source bearer is NONE (R4). -/
theorem State.sourceChosen.truck {s : State} (chosen : s.sourceChosen) (truck : s.role = .truck) :
    s.clock.source = none := by
  rw [chosen, truck]

/-- A receiver's leaving TIMED has the source bearer chosen afresh (R10, R92). -/
theorem State.sourceChosen.leftTimed {s : State} (chosen : s.sourceChosen) (b : Bearer)
    (r : Receiver) (way : WayOut) : ((s.withRx b r).leftTimed b way).sourceChosen := by
  refine State.chooseSource_chosen fun truck => ?_
  have role : s.role = .truck := by simpa using truck
  simpa using chosen.truck role

/-- A cell taken in CONFIRM never makes a receiver TIMED (R82). -/
theorem Receiver.confirmCell_untimed {r : Receiver} (confirming : r.state = .confirm)
    (cell : List Byte) : ((r.confirmCell cell).state == .timed) = false := by
  unfold Receiver.confirmCell
  (repeat' split) <;> simp [Receiver.pastCell, Receiver.enterHunt, Receiver.powerOn, confirming]

theorem Receiver.examine_timed (r : Receiver) (position : Nat) (header : List Byte) :
    ((r.examine position header).state == .timed) = (r.state == .timed) := by
  unfold Receiver.examine
  split
  · next hunting => split <;> simp [hunting.1]
  · rfl

/-- The source bearer is chosen afresh wherever a receiver becomes TIMED or leaves TIMED (R10). -/
theorem linkLaw_sourceChosen :
    LinkLaw (fun s t => s.sourceChosen → t.sourceChosen) (fun _ => True) where
  trans h h' := h' ∘ h
  same same chosen := chosen.of_timed same.role same.source same.timed
  powerOn _ _ role _ _ _ _ := by cases role <;> rfl
  followMove _ _ _ _ chosen := chosen.of_timed rfl rfl fun b => by cases b <;> rfl
  badCount _ b _ chosen := chosen.withRx b rfl
  resetReceiver _ b chosen := State.resetReceiver_chosen chosen b
  resetBlocks _ chosen := chosen.of_timed rfl rfl fun b => by cases b <;> rfl
  receiverStart s b chosen := by
    unfold State.receiverStart
    dsimp only
    split
    · next timed =>
      split
      · exact chosen.leftTimed b _ .absence
      · exact chosen.withRx b rfl
    · exact chosen
  examine _ b position header chosen := chosen.withRx b (Receiver.examine_timed ..)
  confirmCell _ b cell confirming chosen := by
    refine chosen.withRx b ?_
    rw [Receiver.confirmCell_untimed confirming, State.timed, confirming]
    rfl
  endBadRun _ b _ chosen := chosen.withRx b rfl
  badHeader s b _ chosen := by
    have counted : (s.withRx b (s.rx b).countBad).sourceChosen := chosen.withRx b rfl
    unfold State.badHeader
    dsimp only
    split
    · cases timed : s.timed b with
      | true =>
        rw [State.enterHunt_timed (by rw [State.withRx_timed_same]; exact timed)]
        exact counted.leftTimed b _ .headers
      | false =>
        have untimed : (s.withRx b (s.rx b).countBad).timed b = false := by
          rw [State.withRx_timed_same]; exact timed
        rw [State.enterHunt_untimed untimed]
        exact counted.withRx b untimed.symm
    · exact counted
  receiverMarker s b m _ chosen := by
    unfold State.receiverMarker
    dsimp only
    split
    · next timed => exact chosen.withRx b (by rw [timed]; rfl)
    · refine State.chooseSource_chosen fun truck => ?_
      have role : s.role = .truck := by simpa using truck
      simpa using chosen.truck role
  skewMarker s b t stamp chosen := by
    refine chosen.of_timed (by simp) ?_ fun c => by cases c <;> simp [State.timed, State.rx]
    unfold State.skewMarker State.skewSample
    dsimp only
    (repeat' split) <;> rfl

/-! ### The bounds of E, J and the Radio Offset (R11, R102 to R105) -/

/-- The bounds hold where what they speak of stands. -/
theorem State.skewBounded.of_eq {s t : State} (bounded : s.skewBounded)
    (valid : t.skew.valid = s.skew.valid) (e : t.skew.e = s.skew.e) (j : t.skew.j = s.skew.j)
    (offset : t.clock.radioOffset = s.clock.radioOffset) : t.skewBounded := by
  unfold State.skewBounded
  rw [valid, e, j, offset]
  exact bounded

/-- An E that is INVALID, with J 0, is within its bounds (R105). -/
theorem State.skewBounded.of_invalid {t : State} (valid : t.skew.valid = false) (j : t.skew.j = 0)
    (offset : ∀ n : Int, t.clock.radioOffset = some n → n.natAbs ≤ 8191) : t.skewBounded :=
  ⟨by simp [valid], by omega, fun _ => j, offset⟩

@[simp] theorem State.chooseSource_radioOffset (s : State) :
    s.chooseSource.clock.radioOffset = s.clock.radioOffset := by
  unfold State.chooseSource LinkClock.choose
  split
  · rfl
  · split <;> rfl

/-- A receiver's leaving TIMED makes E INVALID (R105). -/
theorem State.skewBounded.leftTimed {s : State} (bounded : s.skewBounded) (b : Bearer)
    (r : Receiver) (way : WayOut) : ((s.withRx b r).leftTimed b way).skewBounded := by
  obtain ⟨-, -, -, offset⟩ := bounded
  refine .of_invalid ?_ ?_ ?_
  · rw [State.leftTimed_skew]; rfl
  · rw [State.leftTimed_skew]; rfl
  · simpa [State.leftTimed] using offset

theorem State.skewBounded.enterHunt {s : State} (bounded : s.skewBounded) (b : Bearer) (k : Nat)
    (way : WayOut) : (s.enterHunt b k way).skewBounded := by
  unfold State.enterHunt
  dsimp only
  split
  · exact bounded.leftTimed b _ way
  · exact bounded.of_eq (by simp) (by simp) (by simp) (by simp)

/-- An accepted sample moves E by an eighth of the way at most, and so not beyond the samples; J is
the distance in slots or one less than it was (R102, R103, R104). -/
theorem SkewUnit.accept_bounds {u : SkewUnit} (e : u.valid = true → u.e.natAbs ≤ 131056)
    (j : u.j ≤ 16382) {sample : Int} (range : sample.natAbs ≤ 8191) :
    (u.accept sample).valid = true ∧ (u.accept sample).e.natAbs ≤ 131056 ∧
      (u.accept sample).j ≤ 16382 := by
  unfold SkewUnit.accept
  split
  · next valid =>
    have old := e valid
    refine ⟨valid, ?_, max_le ?_ ?_⟩
    · dsimp only; omega
    · unfold ceilSixteenths; omega
    · omega
  · refine ⟨rfl, ?_, Nat.zero_le _⟩
    dsimp only; omega

theorem roundSixteenths_bound {e : Int} (range : e.natAbs ≤ 131056) :
    (-(roundSixteenths e)).natAbs ≤ 8191 := by
  unfold roundSixteenths
  split <;> omega

theorem State.skewBounded.sample {s : State} (bounded : s.skewBounded) (sample : Int) :
    (s.skewSample sample).skewBounded := by
  unfold State.skewSample
  split
  · exact bounded
  · next range =>
    obtain ⟨e, j, -, -⟩ := bounded
    obtain ⟨valid, newE, newJ⟩ := SkewUnit.accept_bounds e j (not_lt.mp range)
    refine ⟨fun _ => newE, newJ, fun invalid => ?_, fun n set => ?_⟩
    · exact absurd (valid.symm.trans invalid) (by decide)
    · cases set
      exact roundSixteenths_bound newE

theorem State.skewBounded.withSkew {s : State} (bounded : s.skewBounded) {u : SkewUnit}
    (kept : u.valid = s.skew.valid ∧ u.e = s.skew.e ∧ u.j = s.skew.j) :
    (s.withSkew u).skewBounded := by
  obtain ⟨valid, e, j⟩ := kept
  exact bounded.of_eq valid e j rfl

/-- A marker list with another entry, after the adjustment, has the E and the J that stood (R97). -/
theorem SkewUnit.adjusted_withList_kept (u : SkewUnit) (b c : Bearer) (stamp : LinkTime)
    (list : List MarkerEntry) :
    let v := (u.adjusted b stamp).2.withList c list
    v.valid = u.valid ∧ v.e = u.e ∧ v.j = u.j := by
  obtain ⟨valid, e, j⟩ := u.adjusted_kept b stamp
  obtain ⟨valid', e', j'⟩ := (u.adjusted b stamp).2.withList_kept c list
  exact ⟨valid'.trans valid, e'.trans e, j'.trans j⟩

/-- E, J and the Radio Offset change with a sample and a receiver's leaving TIMED alone, and with a
datapath reset (R11, R102, R103, R105). -/
theorem linkLaw_skewBounded :
    LinkLaw (fun s t => s.skewBounded → t.skewBounded) (fun _ => True) where
  trans h h' := h' ∘ h
  same same bounded := bounded.of_eq (by rw [same.skew]) (by rw [same.skew]) (by rw [same.skew])
    same.radioOffset
  powerOn _ _ _ _ _ _ _ := .of_invalid rfl rfl fun _ none => by cases none
  followMove _ _ held _ bounded := bounded.withSkew (by cases held <;> exact ⟨rfl, rfl, rfl⟩)
  badCount _ _ _ bounded := bounded.of_eq (by simp) (by simp) (by simp) (by simp)
  resetReceiver s b bounded :=
    (bounded.of_eq (t := s.withRx b ((s.rx b).reach _)) (by simp) (by simp) (by simp)
      (by simp)).enterHunt b _ .reset
  resetBlocks _ _ := .of_invalid rfl rfl fun _ none => by cases none
  receiverStart s b bounded := by
    unfold State.receiverStart
    dsimp only
    split
    · split
      · exact bounded.leftTimed b _ .absence
      · exact bounded.of_eq (by simp) (by simp) (by simp) (by simp)
    · exact bounded
  examine _ _ _ _ bounded := bounded.of_eq (by simp) (by simp) (by simp) (by simp)
  confirmCell _ _ _ _ bounded := bounded.of_eq (by simp) (by simp) (by simp) (by simp)
  endBadRun _ _ _ bounded := bounded.of_eq (by simp) (by simp) (by simp) (by simp)
  badHeader s b _ bounded := by
    have counted : (s.withRx b (s.rx b).countBad).skewBounded :=
      bounded.of_eq (by simp) (by simp) (by simp) (by simp)
    unfold State.badHeader
    dsimp only
    split
    · exact counted.enterHunt b _ .headers
    · exact counted
  receiverMarker s b m _ bounded := by
    refine bounded.of_eq (by simp) (by simp) (by simp) ?_
    unfold State.receiverMarker
    dsimp only
    split <;> simp
  skewMarker s b t stamp bounded := by
    have listed (c : Bearer) (list : List MarkerEntry) :=
      bounded.withSkew (s.skew.adjusted_withList_kept b c stamp list)
    unfold State.skewMarker
    dsimp only
    split
    · split
      · exact listed _ _
      · exact ((listed _ _).withSkew (SkewUnit.withList_kept _ _ _)).sample _
    · exact listed _ _

/-! ### The pending adjustment (R98) -/

/-- An adjustment that is pending is for the marker that `held` names. -/
def State.adjustmentFor (held : Option (Bearer × LinkTime)) (s : State) : Prop :=
  ∀ a : Adjustment, s.skew.adjustment = some a → some (a.bearer, a.stamp) = held

theorem State.adjustmentFor_none (s : State) : s.adjustmentFor none ↔ s.skew.adjustment = none := by
  constructor
  · intro unheld
    cases pending : s.skew.adjustment with
    | none => rfl
    | some a => cases unheld a pending
  · intro idle a pending
    rw [idle] at pending
    cases pending

/-- Where nothing is pending, nothing is pending for another marker. -/
theorem State.adjustmentFor.of_none {s : State} (idle : s.skew.adjustment = none)
    (held : Option (Bearer × LinkTime)) : s.adjustmentFor held := fun a pending => by
  rw [idle] at pending
  cases pending

theorem State.adjustmentFor.of_eq {held : Option (Bearer × LinkTime)} {s t : State}
    (pending : s.adjustmentFor held) (same : t.skew.adjustment = s.skew.adjustment) :
    t.adjustmentFor held := by
  unfold State.adjustmentFor
  rw [same]
  exact pending

@[simp] theorem SkewUnit.withList_adjustment (u : SkewUnit) (b : Bearer) (list : List MarkerEntry) :
    (u.withList b list).adjustment = u.adjustment := by
  cases b <;> rfl

@[simp] theorem SkewUnit.accept_adjustment (u : SkewUnit) (sample : Int) :
    (u.accept sample).adjustment = u.adjustment := by
  unfold SkewUnit.accept
  split <;> rfl

@[simp] theorem State.skewSample_adjustment (s : State) (sample : Int) :
    (s.skewSample sample).skew.adjustment = s.skew.adjustment := by
  unfold State.skewSample
  split <;> simp

@[simp] theorem State.leftTimed_adjustment (s : State) (b : Bearer) (way : WayOut) :
    (s.leftTimed b way).skew.adjustment = s.skew.adjustment := by
  rw [State.leftTimed_skew]
  exact SkewUnit.withList_adjustment ..

@[simp] theorem State.enterHunt_adjustment (s : State) (b : Bearer) (k : Nat) (way : WayOut) :
    (s.enterHunt b k way).skew.adjustment = s.skew.adjustment := by
  unfold State.enterHunt
  dsimp only
  split <;> simp

theorem State.skewMarker_adjustment (s : State) (b : Bearer) (t : Superframe) (stamp : LinkTime) :
    (s.skewMarker b t stamp).skew.adjustment = (s.skew.adjusted b stamp).2.adjustment := by
  unfold State.skewMarker
  dsimp only
  (repeat' split) <;> simp

/-- A marker uses the adjustment up that waits for it, and leaves any other (R97, step 1). -/
theorem SkewUnit.adjusted_adjustment (u : SkewUnit) (b : Bearer) (stamp : LinkTime) :
    (u.adjusted b stamp).2.adjustment =
      u.adjustment.filter fun a => !decide (a.bearer = b ∧ a.stamp = stamp) := by
  unfold SkewUnit.adjusted
  cases pending : u.adjustment with
  | none => exact pending
  | some a =>
    dsimp only
    split
    · next own => simp [Option.filter, own]
    · next other => simp [Option.filter, other, pending]

/-- The marker that a pending adjustment is for uses it up (R97, R98). -/
theorem State.adjustmentFor.used {s : State} {b : Bearer} {stamp : LinkTime}
    (pending : s.adjustmentFor (some (b, stamp))) (t : Superframe) :
    (s.skewMarker b t stamp).skew.adjustment = none := by
  rw [State.skewMarker_adjustment, SkewUnit.adjusted_adjustment, Option.filter_eq_none_iff]
  intro a waits
  cases pending a waits
  simp

/-- Apart from the moves of link time no operation leaves an adjustment to wait. -/
theorem linkLaw_adjustmentFor (marker : Option (Bearer × LinkTime)) :
    LinkLaw (fun s t => s.adjustmentFor marker → t.adjustmentFor marker)
      (fun held => held = none ∨ held = marker) where
  trans h h' := h' ∘ h
  same same pending := pending.of_eq (by rw [same.skew])
  powerOn _ _ _ _ _ _ _ := .of_none rfl marker
  followMove s n held allowed pending := by
    cases held with
    | none => exact pending.of_eq rfl
    | some h =>
      intro a waits
      cases waits
      exact allowed.resolve_left (by simp)
  badCount _ _ _ pending := pending.of_eq (by simp)
  resetReceiver s b pending := pending.of_eq (by simp [State.resetReceiver])
  resetBlocks _ _ := .of_none rfl marker
  receiverStart s b pending := by
    refine pending.of_eq ?_
    unfold State.receiverStart
    dsimp only
    (repeat' split) <;> simp
  examine _ _ _ _ pending := pending.of_eq (by simp)
  confirmCell _ _ _ _ pending := pending.of_eq (by simp)
  endBadRun _ _ _ pending := pending.of_eq (by simp)
  badHeader s b _ pending := by
    refine pending.of_eq ?_
    unfold State.badHeader
    dsimp only
    split <;> simp
  receiverMarker _ _ _ _ pending := pending.of_eq (by simp)
  skewMarker s b t stamp pending a waits := by
    rw [State.skewMarker_adjustment, SkewUnit.adjusted_adjustment, Option.filter_eq_some_iff] at waits
    exact pending a waits.1

/-- A marker that is handed on uses up the adjustment that its own move of link time leaves for it. -/
theorem State.handOnMarker_adjustmentFor (s : State) (b : Bearer) (m : MarkerRecord) (pins : Pins)
    (unheld : s.adjustmentFor none) : (s.handOnMarker b m pins).adjustmentFor none := by
  have law := linkLaw_adjustmentFor none
  unfold State.handOnMarker
  dsimp only
  split
  · have first := law.skewAndReport s b m (!s.race .clockBeforeSkew) (!s.race .clockBeforePlanner)
      unheld
    cases clockFirst : s.race .clockBeforeSkew with
    | false =>
      rw [clockFirst] at first
      exact law.skewAndReport _ b m _ _ (law.judgeMarker (.inl rfl) _ b m.sf m.stamp pins first)
    | true =>
      rw [clockFirst] at first
      have moved := (linkLaw_adjustmentFor (some (b, m.stamp))).judgeMarker (.inr rfl) _ b m.sf
        m.stamp pins (.of_none ((State.adjustmentFor_none _).mp first) _)
      exact law.reportIf _ _ _ ((State.adjustmentFor_none _).mpr (moved.used m.sf))
  · exact law.skewAndReport s b m true true unheld

/-- No step leaves an adjustment to wait (R98). -/
theorem step_adjustment {s t : State} (h : step s = .next t) (idle : s.skew.adjustment = none) :
    t.skew.adjustment = none := by
  rw [← State.adjustmentFor_none] at idle ⊢
  exact (linkLaw_adjustmentFor none).step (.inl rfl) State.handOnMarker_adjustmentFor h idle

end Sys2Proof.Machine
end

section
/-! SUPPORT. The ranges of the settings, the timers, the routine count and the far write window, and
the bounds of E, J and the Radio Offset (R11, R104, R134, R148, R155, R168, R176): what each operation
of the part does to them. -/

namespace Sys2Proof.Machine

/-! ### The routine count (R176) -/

section RoutineCount
variable (s : State)

@[simp] theorem State.raiseSome_routineCount (e : Option (EventId × EventDetail)) :
    (s.raiseSome e).events.routineCount = s.events.routineCount := by
  unfold State.raiseSome; split <;> rfl

@[simp] theorem State.ingressArrival_routineCount (n : Trib) (cell : CellData) :
    (s.ingressArrival n cell).events.routineCount = s.events.routineCount := by
  unfold State.ingressArrival State.dropIngress
  dsimp only
  (repeat' split) <;> rfl

@[simp] theorem State.handEntry_routineCount (n : Trib) (f : Flow) (e : EgressEntry) :
    (State.handEntry n f s e).events.routineCount = s.events.routineCount := by
  unfold State.handEntry
  split <;> rfl

@[simp] theorem State.handOver_routineCount (n : Trib) (f : Flow) (run : List EgressEntry) :
    (s.handOver n f run).events.routineCount = s.events.routineCount := by
  induction run generalizing s with
  | nil => rfl
  | cons e run ih => rw [State.handOver_cons, ih, State.handEntry_routineCount]

@[simp] theorem State.placePort_routineCount (kind : RecordKind) (cell : CellData) :
    (s.placePort kind cell).events.routineCount = s.events.routineCount := by
  unfold State.placePort; split <;> rfl

@[simp] theorem State.placeFlow0_routineCount (kind : RecordKind) (cell : CellData) :
    (s.placeFlow0 kind cell).events.routineCount = s.events.routineCount := by
  unfold State.placeFlow0; split <;> rfl

@[simp] theorem State.noteRefusal_routineCount (o : Origin) (number : Byte) (status : Status) :
    (s.noteRefusal o number status).events.routineCount = s.events.routineCount := by
  unfold State.noteRefusal
  (repeat' split) <;> rfl

@[simp] theorem State.answer_routineCount (o : Origin) (tag number : Byte) (r : Reply) :
    (s.answer o tag number r).events.routineCount = s.events.routineCount := by
  cases o <;> simp [State.answer, State.placeResponse]

@[simp] theorem State.mergeArrival_routineCount (f : Flow) (a : Arrival) :
    (s.mergeArrival f a).1.events.routineCount = s.events.routineCount := by
  unfold State.mergeArrival; split <;> simp

@[simp] theorem State.leftTimed_routineCount (b : Bearer) (way : WayOut) :
    (s.leftTimed b way).events.routineCount = s.events.routineCount := by
  rw [State.leftTimed_events, EventUnit.raise_routineCount]

@[simp] theorem State.enterHunt_routineCount (b : Bearer) (k : Nat) (way : WayOut) :
    (s.enterHunt b k way).events.routineCount = s.events.routineCount := by
  unfold State.enterHunt
  dsimp only
  split <;> simp

@[simp] theorem State.badHeader_routineCount (b : Bearer) :
    (s.badHeader b).events.routineCount = s.events.routineCount := by
  unfold State.badHeader
  dsimp only
  split <;> simp

@[simp] theorem State.receiverMarker_routineCount (b : Bearer) (m : MarkerRecord) :
    (s.receiverMarker b m).events.routineCount = s.events.routineCount := by
  unfold State.receiverMarker
  dsimp only
  split <;> simp

@[simp] theorem State.skewSample_routineCount (sample : Int) :
    (s.skewSample sample).events.routineCount = s.events.routineCount := by
  unfold State.skewSample; split <;> rfl

@[simp] theorem State.skewMarker_routineCount (b : Bearer) (t : Superframe) (stamp : LinkTime) :
    (s.skewMarker b t stamp).events.routineCount = s.events.routineCount := by
  unfold State.skewMarker
  dsimp only
  (repeat' split) <;> simp

@[simp] theorem State.farReport_routineCount (timed : Bool) :
    (s.farReport timed).events.routineCount = s.events.routineCount := by
  obtain ⟨-, report⟩ | ⟨-, -, report⟩ | ⟨-, -, report⟩ := s.farReport_cases timed <;>
    rw [report] <;> simp

@[simp] theorem State.sampleStrikes_routineCount :
    s.sampleStrikes.events.routineCount = s.events.routineCount := by
  unfold State.sampleStrikes
  dsimp only
  (repeat' split) <;> rfl

@[simp] theorem State.swapAtStep_routineCount (old new : Superframe) :
    (s.swapAtStep old new).events.routineCount = s.events.routineCount := by
  unfold State.swapAtStep
  (repeat' split) <;> simp [State.executeSwap_events]

@[simp] theorem State.takeShare_routineCount (o : OwedStart) :
    (s.takeShare o).events.routineCount = s.events.routineCount := by
  cases o with
  | storm => unfold State.takeShare State.stormStart; dsimp only; (repeat' split) <;> rfl
  | tally sf => unfold State.takeShare State.tallyStart; dsimp only; (repeat' split) <;> rfl
  | receiver b => unfold State.takeShare State.receiverStart; dsimp only; (repeat' split) <;> simp

@[simp] theorem State.takeOwed_routineCount :
    s.takeOwed.events.routineCount = s.events.routineCount := by
  have shares (l : List OwedStart) (u : State) :
      (l.foldl State.takeShare u).events.routineCount = u.events.routineCount := by
    induction l generalizing u with
    | nil => rfl
    | cons o l ih => rw [List.foldl_cons, ih, State.takeShare_routineCount]
  exact shares s.owed _

@[simp] theorem State.drainAndPlace_routineCount (far : Option CellData) (first : Bool) :
    (s.drainAndPlace far first).events.routineCount = s.events.routineCount := by
  unfold State.drainAndPlace
  (repeat' split) <;> simp

end RoutineCount

/-- A report lists ROUTINE events and begins the count anew, or leaves it (R180). -/
theorem State.judge_routineCount_le (s : State) (n : Superframe) :
    (s.judge n).1.events.routineCount ≤ s.events.routineCount := by
  have placed (u : State) (near : Option CellData) :
      (u.placeNear near).events.routineCount = u.events.routineCount := by
    cases near with
    | none => rfl
    | some cell => exact u.placePort_routineCount .notice cell
  unfold State.judge
  dsimp only
  split
  · rw [placed]
    show (s.events.listed _ _).routineCount ≤ _
    rw [EventUnit.listed_routineCount]
    split <;> omega
  · exact le_rfl

/-- The routine count holds at 1024 (R176). -/
theorem State.superframeStart_routineCount_le (s : State) (n : Superframe) (counted : Bool)
    (range : s.events.routineCount ≤ 1024) :
    (s.superframeStart n counted).events.routineCount ≤ 1024 := by
  have begun (u : State) (same : u.events.routineCount = s.events.routineCount) :
      (if counted then u.countRoutine else u).events.routineCount ≤ 1024 := by
    cases counted with
    | false => exact same ▸ range
    | true => exact Nat.min_le_left ..
  unfold State.superframeStart
  dsimp only
  rw [State.withEvents_events, EventUnit.takeRaisings_routineCount, State.drainAndPlace_routineCount]
  exact (State.judge_routineCount_le _ n).trans (begun _ (by simp))

/-! ### Settings and timers (R134, R148, R168) -/

/-- A number brought into a range lies in it (R168). -/
theorem clampNumber_bounds {low high : Nat} (range : low ≤ high) (v : Nat) :
    low ≤ (clampNumber low high v).1 ∧ (clampNumber low high v).1 ≤ high := by
  rw [clampNumber_eq v range]
  exact ⟨le_max_left .., max_le range (min_le_left ..)⟩

/-- A numeric setting is stored within its range (R168). -/
theorem setNumber_inRange {st : Settings} {store : Settings → Nat → Settings} {low high : Nat}
    (range : low ≤ high)
    (stores : ∀ v, low ≤ v → v ≤ high → (store st v).inRange) (name index : Byte)
    (value : BitVec 16) : (setNumber st name index low high value store).2.inRange := by
  obtain ⟨above, below⟩ := clampNumber_bounds range value.toNat
  exact stores _ above below

/-- An enumerated setting has no range (R168). -/
theorem setChoice_inRange {α : Type} {st : Settings} {store : Settings → α → Settings}
    (kept : st.inRange) (stores : ∀ v, (store st v).inRange) (name index : Byte)
    (value : BitVec 16) (read : BitVec 16 → Option α) :
    (setChoice st name index value read store).2.inRange := by
  unfold setChoice
  split
  · exact kept
  · exact stores _

theorem Settings.inRange.set {st : Settings} (kept : st.inRange) (name index : Byte)
    (value : BitVec 16) : (st.set name index value).2.inRange := by
  obtain ⟨watermark, down, up, guard, hold, loss, interval⟩ := id kept
  unfold Settings.set
  split
  · split
    · exact kept
    · next n _ =>
      refine setNumber_inRange (by decide) (fun v above below => ?_) ..
      refine ⟨fun m => ?_, down, up, guard, hold, loss, interval⟩
      rw [Tab.read_write]
      split
      · exact ⟨above, below⟩
      · exact watermark m
  · exact setNumber_inRange (by decide)
      (fun v above below => ⟨watermark, ⟨above, below⟩, up, guard, hold, loss, interval⟩) ..
  · exact setNumber_inRange (by decide)
      (fun v above below => ⟨watermark, down, ⟨above, below⟩, guard, hold, loss, interval⟩) ..
  · exact setNumber_inRange (by decide)
      (fun v _ below => ⟨watermark, down, up, below, hold, loss, interval⟩) ..
  · exact setNumber_inRange (by decide)
      (fun v above below => ⟨watermark, down, up, guard, ⟨above, below⟩, loss, interval⟩) ..
  · exact setNumber_inRange (by decide)
      (fun v above below => ⟨watermark, down, up, guard, hold, ⟨above, below⟩, interval⟩) ..
  · exact setChoice_inRange kept (fun _ => kept) ..
  · exact setNumber_inRange (by decide)
      (fun v above below => ⟨watermark, down, up, guard, hold, loss, ⟨above, below⟩⟩) ..
  · exact setChoice_inRange kept (fun _ => kept) ..
  · exact setChoice_inRange kept (fun _ => kept) ..
  · exact setChoice_inRange kept (fun _ => kept) ..
  · split
    · exact kept
    · exact setChoice_inRange kept (fun _ => kept) ..
  · split
    · exact kept
    · exact setChoice_inRange kept (fun _ => kept) ..
  · exact kept

theorem Settings.powerOn_inRange (role : Role) : (Settings.powerOn role).inRange := by
  simp [Settings.inRange, Settings.powerOn]

/-- The settings, the storm timer and the tally-loss timer are in range (R134, R148, R168). -/
def State.timersInRange (s : State) : Prop :=
  s.mgmt.settings.inRange ∧ s.strike.timer.inRange ∧ s.tally.timer.inRange

/-- A storm that the longest storm hold begins or goes on with is in range (R134, R137). -/
theorem StrikeMonitor.struck_inRange (m : StrikeMonitor) (l : StrikeLine) {hold : Nat}
    (range : 1 ≤ hold ∧ hold ≤ 255) : (m.struck l hold).timer.inRange := by
  show 1 ≤ 1024 * hold ∧ 1024 * hold ≤ 261120
  omega

theorem State.sampleStrikes_timersInRange {s : State} (range : s.timersInRange) :
    s.sampleStrikes.timersInRange := by
  have struck {u : State} (kept : u.timersInRange) (l : StrikeLine) :
      (u.strikeOn l).timersInRange := by
    obtain ⟨settings, -, tally⟩ := kept
    obtain ⟨-, -, -, -, hold, -⟩ := id settings
    exact ⟨settings, u.strike.struck_inRange l hold, tally⟩
  unfold State.sampleStrikes
  dsimp only
  split
  · exact range
  · exact struck range .a
  · exact struck range .b
  · split
    · exact struck (struck range .b) .a
    · exact struck (struck range .a) .b

theorem State.stormStart_timersInRange {s : State} (range : s.timersInRange) :
    s.stormStart.timersInRange := by
  obtain ⟨settings, strike, tally⟩ := id range
  unfold State.stormStart
  split
  · exact range
  · next n runs =>
    rw [runs] at strike
    obtain ⟨-, below⟩ := strike
    split
    · exact ⟨settings, trivial, tally⟩
    · exact ⟨settings, ⟨by omega, by omega⟩, tally⟩

theorem State.tallyStart_timersInRange {s : State} (range : s.timersInRange) (sf : Superframe) :
    (s.tallyStart sf).timersInRange := by
  obtain ⟨settings, strike, tally⟩ := id range
  unfold State.tallyStart
  split
  · next n runs =>
    rw [runs] at tally
    obtain ⟨-, below⟩ := tally
    split
    · exact ⟨settings, strike, trivial⟩
    · exact ⟨settings, strike, by omega, by omega⟩
  · exact range
  · exact range

/-- A tally-loss time within its range starts the timer in range (R148, R149, R150). -/
theorem TallyTimer.running_inRange {loss : Nat} (range : 10 ≤ loss ∧ loss ≤ 1000) :
    (TallyTimer.running loss).inRange := by
  show 1 ≤ loss ∧ loss ≤ 1000
  omega

theorem TallyUnit.atSwap_inRange {u : TallyUnit} (kept : u.timer.inRange) (governed : Bool)
    {loss : Nat} (range : 10 ≤ loss ∧ loss ≤ 1000) : (u.atSwap governed loss).timer.inRange := by
  unfold TallyUnit.atSwap
  split
  · split
    · exact TallyTimer.running_inRange range
    · exact kept
  · exact trivial

theorem Settings.inRange.tallyLoss {st : Settings} (kept : st.inRange) :
    10 ≤ st.tallyLoss ∧ st.tallyLoss ≤ 1000 := by
  obtain ⟨-, -, -, -, -, loss, -⟩ := kept
  exact loss

/-! ### Operations that keep the ranges -/

/-- The far write window is a range of user flows (R170). -/
def ManagementUnit.windowInRange (m : ManagementUnit) : Prop :=
  1 ≤ m.windowLow ∧ m.windowLow ≤ m.windowHigh ∧ m.windowHigh ≤ 63

theorem ManagementUnit.windowInRange.of_farWindow {m m' : ManagementUnit} (kept : m.windowInRange)
    (same : m'.farWindow = m.farWindow) : m'.windowInRange := by
  obtain ⟨-, bounds⟩ := Prod.mk.inj same
  obtain ⟨low, high⟩ := Prod.mk.inj bounds
  unfold ManagementUnit.windowInRange
  rw [low, high]
  exact kept

/-- SET-WINDOW brings its bounds into 1..63 and refuses bounds that cross (R170). -/
theorem ManagementUnit.windowInRange.set {m : ManagementUnit} (kept : m.windowInRange)
    (low high : Byte) : (m.setWindow low high).2.windowInRange := by
  have lowRange := clampNumber_bounds (low := 1) (high := 63) (by decide) low.toNat
  have highRange := clampNumber_bounds (low := 1) (high := 63) (by decide) high.toNat
  unfold ManagementUnit.setWindow
  split
  · exact kept
  · dsimp only
    split
    · exact kept
    · next ordered => exact ⟨lowRange.1, not_lt.mp ordered, highRange.2⟩

/-- From `s` to `t` the settings and the timers, the routine count, and the far write window stay in
range. -/
structure State.KeepsRanges (s t : State) : Prop where
  timers : s.timersInRange → t.timersInRange
  routine : s.events.routineCount ≤ 1024 → t.events.routineCount ≤ 1024
  window : s.mgmt.windowInRange → t.mgmt.windowInRange

theorem State.KeepsRanges.trans {s t u : State} (h : s.KeepsRanges t) (h' : t.KeepsRanges u) :
    s.KeepsRanges u where
  timers := h'.timers ∘ h.timers
  routine := h'.routine ∘ h.routine
  window := h'.window ∘ h.window

/-- An operation that leaves alone what has a range keeps the ranges. -/
theorem State.KeepsRanges.of_frame {s t : State} (frame : t.mgmt.settings = s.mgmt.settings ∧
    t.strike = s.strike ∧ t.tally = s.tally ∧ t.events.routineCount = s.events.routineCount ∧
    t.mgmt.farWindow = s.mgmt.farWindow) : s.KeepsRanges t := by
  obtain ⟨settings, strike, tally, routine, window⟩ := frame
  refine ⟨fun kept => ?_, fun kept => routine ▸ kept, fun kept => kept.of_farWindow window⟩
  unfold State.timersInRange
  rw [settings, strike, tally]
  exact kept

theorem State.run_keepsRanges (s : State) (c : Command) : s.KeepsRanges (s.run c).2 := by
  cases c with
  | readFlowCounts flow clear =>
    rw [State.run, State.runReadFlowCounts]
    split <;> exact .of_frame ⟨rfl, rfl, rfl, rfl, rfl⟩
  | readBearer bearer clear =>
    rw [State.run, State.runReadBearer]
    split <;> exact .of_frame (by simp)
  | setSetting name index value =>
    refine ⟨fun ⟨settings, strike, tally⟩ => ⟨?_, ?_, ?_⟩, fun kept => ?_, fun kept => ?_⟩ <;>
      simp only [State.run, State.runSetSetting, State.rejudgeHolds, State.judgeGuard_mgmt,
        State.judgeGuard_strike, State.judgeGuard_tally, State.judgeGuard_events,
        State.withIngress_mgmt, State.withIngress_strike, State.withIngress_tally,
        State.withIngress_events, State.withMgmt_mgmt, State.withMgmt_strike, State.withMgmt_tally,
        State.withMgmt_events]
    · exact settings.set name index value
    · exact strike
    · exact tally
    · exact kept
    · exact kept
  | setWindow low high =>
    refine ⟨?_, id, fun kept => kept.set low high⟩
    rw [State.run, State.runSetWindow, ManagementUnit.setWindow]
    dsimp only
    (repeat' split) <;> exact id
  | setTally object mask lamps =>
    rw [State.run, State.runSetTally]
    split
    · exact .of_frame ⟨rfl, rfl, rfl, rfl, rfl⟩
    · rw [State.runSetTallyOverride]
      split
      · exact .of_frame ⟨rfl, rfl, rfl, rfl, rfl⟩
      · exact ⟨id, id, id⟩
    · exact ⟨id, id, id⟩
  | clearTallyOverride => exact ⟨id, id, id⟩
  | ackEvents events =>
    rw [State.run, State.runAckEvents]
    split <;> exact .of_frame ⟨rfl, rfl, rfl, rfl, rfl⟩
  | flushTributary trib =>
    rw [State.run, State.runFlushTributary]
    split <;> exact .of_frame ⟨rfl, rfl, rfl, rfl, rfl⟩
  | resetDatapath =>
    refine .of_frame ⟨?_, s.datapathReset_strike, s.datapathReset_tally,
      s.datapathReset_routineCount, ?_⟩ <;>
      rw [State.run, State.runResetDatapath, State.datapathReset_mgmt]
    rfl
  | identify | readEntry | writeEntry | clearEntry | copyEntries | checkShadow | swapAt | cancelSwap
  | readLink | readSettings | freezeWindow | setBar | clearBar | readEvents => exact ⟨id, id, id⟩

theorem State.takeShare_keepsRanges (s : State) (o : OwedStart) : s.KeepsRanges (s.takeShare o) := by
  refine ⟨fun kept => ?_, fun kept => by simpa using kept, fun kept => by simpa using kept⟩
  cases o with
  | storm => exact State.stormStart_timersInRange kept
  | tally sf => exact State.tallyStart_timersInRange kept sf
  | receiver b => simpa [State.takeShare, State.timersInRange] using kept

theorem State.executeSwap_timersInRange {s : State} (range : s.timersInRange) (x : Superframe) :
    (s.executeSwap x).timersInRange := by
  obtain ⟨settings, strike, tally⟩ := range
  unfold State.timersInRange
  rw [State.executeSwap_mgmt, State.executeSwap_strike, State.executeSwap_tally]
  exact ⟨settings, strike, TallyUnit.atSwap_inRange tally _ settings.tallyLoss⟩

theorem State.planAtStart_timersInRange {s : State} (range : s.timersInRange) (n : Superframe) :
    (s.planAtStart n).timersInRange := by
  obtain ⟨settings, strike, tally⟩ := range
  unfold State.timersInRange
  rw [State.planAtStart_mgmt, State.planAtStart_strike, State.planAtStart_tally]
  refine ⟨settings, strike, ?_⟩
  split
  · exact TallyUnit.atSwap_inRange tally _ settings.tallyLoss
  · exact tally

theorem State.superframeStart_timersInRange {s : State} (range : s.timersInRange) (n : Superframe)
    (counted : Bool) : (s.superframeStart n counted).timersInRange := by
  have shared (u : State) (o : OwedStart) (ending now : Bool) (kept : u.timersInRange) :
      (u.shareOrOwe ending now o).timersInRange := by
    unfold State.shareOrOwe
    split
    · exact kept
    · exact (u.takeShare_keepsRanges o).timers kept
  have owed (l : List OwedStart) (u : State) (kept : u.timersInRange) :
      (l.foldl State.takeShare u).timersInRange := by
    induction l generalizing u with
    | nil => exact kept
    | cons o l ih => exact ih _ ((u.takeShare_keepsRanges o).timers kept)
  have begun : (s.collectingStart n).timersInRange := owed s.owed _ range
  have counted' : (((s.collectingStart n).planAtStart n).timersAtStart n).timersInRange :=
    shared _ _ _ _ (shared _ _ _ _ (shared _ _ _ _ (shared _ _ _ _
      (State.planAtStart_timersInRange begun n))))
  obtain ⟨-, -, -, -, -, -, -, -, strike, tally, -, settings, -⟩ :=
    s.superframeStart_shares n counted
  unfold State.timersInRange
  rw [strike, tally, settings]
  simpa [State.timersInRange, State.sharesAtStart] using counted'

theorem State.superframeStart_keepsRanges (s : State) (n : Superframe) (counted : Bool) :
    s.KeepsRanges (s.superframeStart n counted) :=
  ⟨fun kept => State.superframeStart_timersInRange kept n counted,
    s.superframeStart_routineCount_le n counted,
    fun kept => kept.of_farWindow (s.superframeStart_farWindow n counted)⟩

theorem State.swapAtStep_keepsRanges (s : State) (old new : Superframe) :
    s.KeepsRanges (s.swapAtStep old new) := by
  refine ⟨fun kept => ?_, fun kept => by simpa using kept, fun kept => by simpa using kept⟩
  unfold State.swapAtStep
  split
  · next x _ =>
    split
    · simpa [State.timersInRange] using State.executeSwap_timersInRange kept x
    · exact kept
  · exact kept

/-- Every operation keeps what has a range within it. -/
theorem stepLaw_keepsRanges : StepLaw State.KeepsRanges where
  refl _ := ⟨id, id, id⟩
  trans := .trans
  pending _ _ := ⟨id, id, id⟩
  pins _ _ := ⟨id, id, id⟩
  occasion _ := ⟨id, id, id⟩
  owed _ _ := ⟨id, id, id⟩
  powerOn _ _ role _ _ _ := ⟨fun _ => ⟨Settings.powerOn_inRange role, trivial, trivial⟩,
    fun _ => Nat.zero_le _, fun _ => ⟨le_rfl, Nat.le_of_ble_eq_true rfl, le_rfl⟩⟩
  clock _ _ _ _ := ⟨id, id, id⟩
  followMove _ _ _ := ⟨id, id, id⟩
  timeStep _ _ _ := ⟨id, id, id⟩
  ingressArrival _ _ _ := .of_frame (by simp)
  egressTake _ _ := ⟨id, id, id⟩
  egressReady _ _ _ := ⟨id, id, id⟩
  portTake _ := ⟨id, id, id⟩
  run := State.run_keepsRanges
  answer _ _ _ _ _ := .of_frame (by simp)
  malformedCell _ := ⟨id, id, id⟩
  placePort _ _ _ := .of_frame (by simp)
  sendOn _ _ _ _ := ⟨id, id, id⟩
  mergeArrival _ _ _ := .of_frame (by simp)
  mergeExpiry _ _ := .of_frame (by simp)
  handOver _ _ _ _ := .of_frame (by simp)
  tallyDelivery s d := by
    cases d with
    | fill => exact ⟨id, id, id⟩
    | cell data =>
      exact ⟨fun ⟨settings, strike, _⟩ =>
        ⟨settings, strike, TallyTimer.running_inRange settings.tallyLoss⟩, id, id⟩
  takeShare := State.takeShare_keepsRanges
  superframeStart := State.superframeStart_keepsRanges
  swapAtStep := State.swapAtStep_keepsRanges
  sampleStrikes _ := ⟨State.sampleStrikes_timersInRange, fun kept => by simpa using kept,
    fun kept => by simpa using kept⟩
  judgeHolds _ := ⟨id, id, id⟩
  sendSlot _ := .of_frame (by simp)
  examine _ _ _ _ := .of_frame (by simp)
  confirmCell _ _ _ := .of_frame (by simp)
  endBadRun _ _ := .of_frame (by simp)
  badHeader s b := by
    have strike : (s.badHeader b).strike = s.strike ∧ (s.badHeader b).tally = s.tally := by
      unfold State.badHeader
      dsimp only
      split <;> simp
    exact .of_frame (by simp [strike, State.badHeader_mgmt])
  receiverMarker _ _ _ := .of_frame (by simp)
  skewMarker _ _ _ _ := .of_frame (by simp)
  farReport _ _ := .of_frame (by simp)

/-- The ranges of a state, of which the settings and the timers, the routine count and the far write
window are the three parts. -/
theorem State.rangesKept_iff (s : State) : s.rangesKept ↔
    s.timersInRange ∧ s.events.routineCount ≤ 1024 ∧ s.mgmt.windowInRange := by
  unfold State.rangesKept State.timersInRange ManagementUnit.windowInRange
  simp only [and_assoc]

/-- Settles O58: every operation keeps the ranges; the link's laws keep the bounds of E, J and the
Radio Offset, and a marker uses up the adjustment that its own move leaves. -/
theorem stepKeepsRanges : Obligations.StepKeepsRanges := by
  refine ⟨fun s t h => ?_, fun s t h => ?_, fun s t h => step_adjustment h⟩
  · rw [State.rangesKept_iff, State.rangesKept_iff]
    obtain ⟨timers, routine, window⟩ := stepLaw_keepsRanges.step h
    exact fun ⟨timersIn, routineIn, windowIn⟩ =>
      ⟨timers timersIn, routine routineIn, window windowIn⟩
  · exact linkLaw_skewBounded.step trivial (linkLaw_skewBounded.handOnMarker fun _ => trivial) h

end Sys2Proof.Machine
end

section
/-! SUPPORT. The radio slots used of a superframe (R59), and the proof that every step keeps the
receivers' runs and boundaries, the source bearer and the radio within its grade. -/

namespace Sys2Proof.Machine

/-- An operation that leaves the used radio slots and the grade in effect alone. -/
theorem State.radioWithinGrade.of_eq {s t : State} (within : s.radioWithinGrade)
    (used : t.radioTx.usedSlots = s.radioTx.usedSlots) (grade : t.planner.grade = s.planner.grade) :
    t.radioWithinGrade := by
  unfold State.radioWithinGrade
  rw [used, grade]
  exact within

@[simp] theorem Transmitter.sendOne_usedSlots (t : Transmitter) :
    t.sendOne.usedSlots = t.usedSlots := by
  unfold Transmitter.sendOne Transmitter.sendOf
  (repeat' split) <;> rfl

/-- A radio slot is used only while fewer than 32 times the grade are (R59). -/
theorem State.radioWithinGrade.sendSlot {s : State} (within : s.radioWithinGrade) :
    s.sendSlot.radioWithinGrade := by
  obtain ⟨-, radio⟩ := s.sendSlot_tx
  unfold State.radioWithinGrade
  rw [State.sendSlot_planner, radio]
  split
  · next due =>
    simp only [radioSlotDue, Bool.and_eq_true, decide_eq_true_eq] at due
    simpa using due.1
  · exact within

/-- A superframe starts with no radio slot used (R56). -/
theorem State.superframeStart_usedSlots (s : State) (n : Superframe) (counted : Bool) :
    (s.superframeStart n counted).radioTx.usedSlots = 0 := by
  obtain ⟨-, -, -, -, -, -, -, -, -, -, -, -, tx⟩ := s.superframeStart_shares n counted
  obtain ⟨-, -, used⟩ := tx .radio
  obtain ⟨-, -, opened⟩ := ((((s.collectingStart n).planAtStart n).timersAtStart n).sampleGrade
    |>.openTransmitters n).formBatches_tx .radio
  exact used.trans (opened.trans rfl)

theorem State.farReport_grade (s : State) (timed : Bool) :
    (s.farReport timed).planner.grade = s.planner.grade := by
  obtain ⟨-, report⟩ | ⟨-, -, report⟩ | ⟨-, -, report⟩ := s.farReport_cases timed <;> rw [report]
  · rfl
  · rw [State.recomputePlan_planner]; rfl
  · rfl

theorem State.swapAtStep_grade (s : State) (old new : Superframe) :
    (s.swapAtStep old new).planner.grade = s.planner.grade := by
  unfold State.swapAtStep
  split
  · next x _ =>
    split
    · rw [State.recomputePlan_planner, State.executeSwap_planner]; rfl
    · rfl
  · rfl

theorem State.run_radioWithinGrade {s : State} (within : s.radioWithinGrade) (c : Command) :
    (s.run c).2.radioWithinGrade := by
  cases c with
  | readFlowCounts flow clear =>
    rw [State.run, State.runReadFlowCounts]
    split <;> exact within
  | readBearer bearer clear =>
    rw [State.run, State.runReadBearer]
    split <;> exact within.of_eq (by simp) (by simp)
  | setSetting name index value =>
    exact within.of_eq (by simp [State.run, State.runSetSetting, State.rejudgeHolds])
      (by simp [State.run, State.runSetSetting, State.rejudgeHolds])
  | setTally object mask lamps =>
    rw [State.run, State.runSetTally]
    split
    · exact within
    · rw [State.runSetTallyOverride]; split <;> exact within
    · exact within
  | ackEvents events =>
    rw [State.run, State.runAckEvents]
    split <;> exact within
  | flushTributary trib =>
    rw [State.run, State.runFlushTributary]
    split <;> exact within
  | resetDatapath =>
    refine within.of_eq ?_ ?_ <;> rw [State.run, State.runResetDatapath]
    · rw [State.datapathReset_radioTx]
    · rw [State.datapathReset_planner]; rfl
  | identify | readEntry | writeEntry | clearEntry | copyEntries | checkShadow | swapAt | cancelSwap
  | readLink | readSettings | setWindow | freezeWindow | setBar | clearBar | clearTallyOverride
  | readEvents => exact within

/-- Every operation keeps the radio within the slots of its grade. -/
theorem stepLaw_radioWithinGrade :
    StepLaw (fun s t => s.radioWithinGrade → t.radioWithinGrade) where
  refl _ := id
  trans h h' := h' ∘ h
  pending _ _ := id
  pins _ _ := id
  occasion _ := id
  owed _ _ := id
  powerOn _ _ _ _ _ _ _ := Nat.zero_le _
  clock _ _ _ _ := id
  followMove _ _ _ := id
  timeStep _ _ _ := id
  ingressArrival _ _ _ within := within.of_eq (by simp) (by simp)
  egressTake _ _ := id
  egressReady _ _ _ := id
  portTake _ := id
  run _ c within := State.run_radioWithinGrade within c
  answer _ _ _ _ _ within := within.of_eq (by simp) (by simp)
  malformedCell _ := id
  placePort _ _ _ within := within.of_eq (by simp) (by simp)
  sendOn _ _ _ _ := id
  mergeArrival _ _ _ within := within.of_eq (by simp) (by simp)
  mergeExpiry _ _ within := within.of_eq (by simp) (by simp)
  handOver _ _ _ _ within := within.of_eq (by simp) (by simp)
  tallyDelivery _ d := by cases d <;> exact id
  takeShare _ _ within := within.of_eq (by simp) (by simp)
  superframeStart s n counted _ := by
    unfold State.radioWithinGrade
    rw [State.superframeStart_usedSlots]
    exact Nat.zero_le _
  swapAtStep s old new within := within.of_eq (by simp) (s.swapAtStep_grade old new)
  sampleStrikes _ within := within.of_eq (by simp) (by simp)
  judgeHolds _ := id
  sendSlot _ within := within.sendSlot
  examine _ _ _ _ within := within.of_eq (by simp) (by simp)
  confirmCell _ _ _ within := within.of_eq (by simp) (by simp)
  endBadRun _ _ within := within.of_eq (by simp) (by simp)
  badHeader s b within := by
    unfold State.badHeader
    dsimp only
    split <;> exact within.of_eq (by simp) (by simp)
  receiverMarker _ _ _ within := within.of_eq (by simp) (by simp)
  skewMarker _ _ _ _ within := within.of_eq (by simp) (by simp)
  farReport s timed within := within.of_eq (by simp) (s.farReport_grade timed)

/-- Settles O59: the receivers' laws are kept by each operation of a receiver, the source bearer is
chosen afresh with what is TIMED, and the transmitter uses no radio slot beyond its grade. -/
theorem stepKeepsReceiversAndSource : Obligations.StepKeepsReceiversAndSource :=
  ⟨fun _ _ h => receiverLaw_runsKept.step h, fun _ _ h => receiverLaw_laneKept.step h,
    fun _ _ h =>
      linkLaw_sourceChosen.step trivial (linkLaw_sourceChosen.handOnMarker fun _ => trivial) h,
    fun _ _ h => stepLaw_radioWithinGrade.step h⟩

end Sys2Proof.Machine
end

section
/-! SUPPORT. RESET (R3, R4, R45, R57, R65, R135, R146, R153, R157): the power-on values block by block,
and the superframe start of superframe 0 at the release. -/

namespace Sys2Proof.Machine

/-! ### The power-on values -/

/-- A bank at power-on holds the management entry at 0 and nothing else (R17, R20). -/
theorem powerOnBank_read (f : Flow) : powerOnBank.read f =
    if f = 0 then .used .bothWays EntryFields.management else .unused := by
  rw [powerOnBank, Tab.read_write, Tab.read_fill]

theorem powerOnFree_length : powerOnFree.length = 16384 := by simp [powerOnFree]

/-- Buffer 0 is on top of the free stack at power-on (R128). -/
theorem powerOnFree_head : powerOnFree.head? = some 0 := by
  rw [powerOnFree, List.head?_map, List.head?_range']
  rfl

/-- Settles O2: each block's power-on value, read field by field. -/
theorem resetGivesPowerOnValues : Obligations.ResetGivesPowerOnValues := by
  have bank (f : Flow) (user : f ≠ 0) : powerOnBank.read f = .unused := by
    rw [powerOnBank_read, if_neg user]
  refine ⟨⟨rfl, rfl, rfl, rfl, rfl⟩,
    ⟨rfl, rfl, powerOnBank_read 0, powerOnBank_read 0, fun f user => ⟨bank f user, bank f user⟩⟩,
    fun n => ⟨Tab.read_fill .., Tab.read_fill .., Tab.read_fill ..⟩,
    fun f => ⟨Tab.read_fill .., Tab.read_fill .., Tab.read_fill .., Tab.read_fill ..,
      Tab.read_fill ..⟩,
    ⟨rfl, rfl, rfl, rfl, rfl, rfl⟩, fun b => ?_, ⟨rfl, rfl, rfl, rfl⟩, fun f => ⟨?_, ?_, ?_⟩,
    ⟨powerOnFree_head, powerOnFree_length⟩, ⟨rfl, rfl, rfl, rfl⟩,
    ⟨rfl, fun n => ⟨Tab.read_fill .., Tab.read_fill .., Tab.read_fill .., Tab.read_fill ..⟩⟩,
    ⟨rfl, rfl, rfl, rfl, rfl, rfl, rfl⟩,
    ⟨rfl, rfl, rfl, rfl, rfl, rfl, rfl, rfl, rfl, fun n => Tab.read_fill ..⟩, rfl,
    fun e => ⟨Tab.read_fill .., Tab.read_fill .., Tab.read_build ..⟩⟩
  · cases b <;> exact ⟨rfl, rfl, rfl, rfl, rfl, rfl⟩
  · exact congrArg MergeWindow.running (Tab.read_fill MergeWindow.powerOn f)
  · exact congrArg MergeWindow.held (Tab.read_fill MergeWindow.powerOn f)
  · exact Tab.read_fill ..

/-- Settles O3: each law at the power-on value of the block it speaks of. -/
theorem resetMeetsEveryLaw : Obligations.ResetMeetsEveryLaw := by
  have window (f : Flow) : State.reset.merge.window.read f = MergeWindow.powerOn := Tab.read_fill ..
  have queues : State.reset.queuesFit := by
    rw [State.queuesFit_iff]
    refine ⟨fun n => ?_, fun n => ?_, ⟨Nat.zero_le _, Nat.zero_le _⟩, fun b => ?_⟩
    · simp [State.reset, State.powerOn, IngressPorts.powerOn]
    · simp [State.reset, State.powerOn, EgressPorts.powerOn]
    · cases b <;> exact Nat.zero_le _
  have windows : State.reset.windowsLawful := fun f => by
    rw [window]; exact MergeWindow.lawful_of_empty rfl fun _ => rfl
  have holds : State.reset.holdsJudged := fun f => by
    refine ⟨fun due => ?_, fun expired => ?_⟩
    · obtain ⟨_, held⟩ := State.expiryDue_held due
      rw [window] at held
      exact absurd rfl held
    · rw [State.reset, State.powerOn, Tab.read_fill] at expired
      cases expired
  have ranges : State.reset.rangesKept := (State.rangesKept_iff _).mpr
    ⟨⟨Settings.powerOn_inRange .mast, trivial, trivial⟩, Nat.zero_le _,
      ⟨le_rfl, Nat.le_of_ble_eq_true rfl, le_rfl⟩⟩
  obtain ⟨-, -, tally⟩ := powerOnBank_lawful
  exact ⟨⟨queues, poolWf_powerOn⟩, MergeUnit.buffersKept_of_empty rfl rfl, ⟨windows, holds⟩,
    ⟨TableControl.powerOn_lawful, fun _ => tally, fun _ => rfl⟩, State.powerOn_planFresh ..,
    ⟨ranges, .of_invalid rfl rfl (fun _ none => by cases none), rfl⟩,
    ⟨receiverLaw_runsKept.powerOn, receiverLaw_runsKept.powerOn, rfl, Nat.zero_le _⟩,
    receiverLaw_laneKept.powerOn, receiverLaw_laneKept.powerOn⟩

/-- Settles O4: RESET_ASSERT is the power-on state, in which nothing is presented (R146, R153). -/
theorem resetAssertRestoresPowerOn : Obligations.ResetAssertRestoresPowerOn :=
  fun _ => ⟨_, rfl, rfl, rfl, rfl, fun _ => ⟨rfl, Tab.read_fill ..⟩, fun _ => rfl⟩

/-! ### The superframe start of superframe 0 -/

/-- The part as RESET's release leaves it before its superframe start: at power-on, in the role and
with the levels given (R3, R4, R134). -/
def State.releasing (s : State) (role : Role) (pins : Pins) : State :=
  State.powerOn false role pins s.egress.ready s.occasion s.pending

/-- A first sample at grade 0 begins a run upward when it is above it (R65, R66). -/
theorem RadioPlanner.takeSample_first {p : RadioPlanner} (lowest : p.grade = 0) (first : p.upRun = 0)
    {down up : Nat} (more : 2 ≤ up) (g : Grade) :
    (p.takeSample down up false g).upRun = if g = 0 then 0 else 1 := by
  have notBelow : ¬ g < 0 := by simp
  have goesOn : ¬ up ≤ 0 + 1 := by omega
  unfold RadioPlanner.takeSample
  rw [lowest, if_neg notBelow, if_neg Bool.false_ne_true, RadioPlanner.sampleAbove, first,
    if_neg goesOn]
  split <;> rfl

section Released
variable (s : State) (role : Role) (pins : Pins)

/-- The release is the superframe start of superframe 0, with link time at (0, 0). -/
theorem State.released_eq : s.released role pins =
    (((s.releasing role pins).standAt LinkTime.zero pins).superframeStart 0 false).sendSlot := rfl

theorem State.releasing_quietStart : (s.releasing role pins).quietStart pins := by
  have quiet (level : Bool) : ((LineFilter.powerOn level).take level).2 = false :=
    congrArg Prod.snd (LineFilter.powerOn level).take_same
  exact ⟨rfl, rfl, rfl, rfl, Prod.ext (quiet pins.strikeA) (quiet pins.strikeB)⟩

theorem State.releasing_rangesKept : (s.releasing role pins).rangesKept :=
  (State.rangesKept_iff _).mpr ⟨⟨Settings.powerOn_inRange role, trivial, trivial⟩, Nat.zero_le _,
    ⟨le_rfl, Nat.le_of_ble_eq_true rfl, le_rfl⟩⟩

/-- The blocks at the start of superframe 0, its send lists open (R56, R65). -/
abbrev State.releaseOpened : State := (s.releasing role pins).openedAt LinkTime.zero pins

/-- With no entry but the management entry no flow has a batch (R20, R47). -/
theorem State.releaseOpened_formBatches :
    (s.releaseOpened role pins).formBatches = s.releaseOpened role pins := by
  have bank : (s.releaseOpened role pins).table.activeBank = powerOnBank := by
    rw [State.openedAt_activeBank]; rfl
  have none (f : Flow) : (s.releaseOpened role pins).formBatch f = s.releaseOpened role pins := by
    have entry : ((s.releaseOpened role pins).activeEntry f).outbound = none := by
      rw [State.activeEntry, bank, powerOnBank_read]
      split <;> rfl
    rw [State.formBatch, entry]
  unfold State.formBatches
  induction userFlows with
  | nil => rfl
  | cons f fs ih => rw [List.foldl_cons, none, ih]

/-- Nothing is raised by the start of superframe 0. -/
theorem State.releaseOpened_events : (s.releaseOpened role pins).events = EventUnit.powerOn := rfl

/-- With nothing raised before, nothing is reported at the release (R179). -/
theorem EventUnit.powerOn_reports (st : Settings) : EventUnit.powerOn.reports st = false := by
  have none (q : MgmtQueue) : EventUnit.powerOn.listing st q = [] := by
    have idle : EventUnit.powerOn.reportable st q = fun _ => false := by
      funext e
      simp [EventUnit.reportable, EventUnit.powerOn, EventState.powerOn]
    simp [EventUnit.listing, idle]
  simp [EventUnit.reports, none]

theorem EventUnit.takeRaisings_powerOn (u : EventUnit) (taken : Fin 20 → Bool) :
    u.takeRaisings EventUnit.powerOn taken = u := by
  have event : (u.takeRaisings EventUnit.powerOn taken).event = u.event := Tab.ext_read fun e => by
    rw [EventUnit.takeRaisings_read]
    simp [EventUnit.powerOn, EventState.powerOn]
  exact congrArg (fun v => ({ u with event := v } : EventUnit)) event

/-- A superframe start that the routine count does not count is the blocks' shares, with the raisings
that are taken early, and then the report. -/
theorem State.superframeStart_uncounted (s : State) (n : Superframe) :
    ∃ (first : Bool) (late : Fin 20 → Bool),
      let shared := (s.collectingStart n).sharesAtStart n
      s.superframeStart n false =
        (shared.withEvents
          (s.takeOwed.events.takeRaisings shared.events fun e => !late e)).reportOf n
          first shared.events late :=
  ⟨_, _, rfl⟩

/-- The start of superframe 0 forms no batch, raises nothing and reports nothing. -/
theorem State.releaseStarted : ((s.releasing role pins).standAt LinkTime.zero pins).superframeStart 0
    false = (s.releaseOpened role pins).flow0Batch := by
  have shares : (((s.releasing role pins).standAt LinkTime.zero pins).collectingStart
      0).sharesAtStart 0 = s.releaseOpened role pins :=
    (State.sharedAt_eq (s.releasing_rangesKept role pins) (s.releasing_quietStart role pins)).trans
      (s.releaseOpened_formBatches role pins)
  have events := s.releaseOpened_events role pins
  have unraised : (s.releaseOpened role pins).withEvents EventUnit.powerOn =
      s.releaseOpened role pins := by rw [← events]; rfl
  have judged : (s.releaseOpened role pins).judge 0 = (s.releaseOpened role pins, none) :=
    State.judge_of_not_reports (by rw [events]; exact EventUnit.powerOn_reports _) 0
  have drained : (s.releaseOpened role pins).flow0Batch.withEvents EventUnit.powerOn =
      (s.releaseOpened role pins).flow0Batch := by rw [← events]; rfl
  obtain ⟨first, late, started⟩ :=
    ((s.releasing role pins).standAt LinkTime.zero pins).superframeStart_uncounted 0
  rw [started, shares, events, EventUnit.takeRaisings_powerOn, State.takeOwed_nil _ rfl]
  show ((s.releaseOpened role pins).withEvents EventUnit.powerOn).reportOf 0 first
    EventUnit.powerOn late = _
  rw [unraised, State.reportOf, judged]
  dsimp only [State.drainAndPlace]
  rw [EventUnit.takeRaisings_powerOn, State.flow0Batch_events, events, drained]

/-- The grade in effect at the release is 0, with the one sample judged against it (R64, R65, R66). -/
theorem State.releaseOpened_planner : (s.releaseOpened role pins).planner.grade = 0 ∧
    (s.releaseOpened role pins).planner.upRun = if pins.grade = 0 then 0 else 1 := by
  rw [State.openedAt_planner]
  exact ⟨(RadioPlanner.takeSample_kept _ _ _ _ _).1,
    RadioPlanner.takeSample_first rfl rfl (show 2 ≤ 16 by decide) pins.grade⟩

/-- The fibre lane carries superframe 0's marker; at grade 0 the radio lane carries nothing
(R57, R59). -/
theorem State.releaseOpened_lanes : let t := (s.releaseOpened role pins).flow0Batch.sendSlot
    t.fibreTx.lane = some (markerCellBytes ⟨0, false, false, 0⟩) ∧ t.radioTx.lane = none := by
  intro t
  obtain ⟨grade, -⟩ := s.releaseOpened_planner role pins
  obtain ⟨fibre, radio⟩ := (s.releaseOpened role pins).flow0Batch.sendSlot_tx
  obtain ⟨opened, -⟩ := (s.releasing role pins).openedAt_tx LinkTime.zero pins
  obtain ⟨marker, -⟩ := (s.releaseOpened role pins).flow0Batch_tx .fibre
  have marked : (s.releaseOpened role pins).flow0Batch.fibreTx.marker =
      some ⟨0, false, false, 0⟩ := by
    rw [← grade]
    exact marker.trans (congrArg Transmitter.marker opened)
  have unused : radioSlotDue (s.releaseOpened role pins).flow0Batch.planner.grade
      (s.releaseOpened role pins).flow0Batch.radioTx.usedSlots
      (s.releaseOpened role pins).flow0Batch.clock.time.slot = false := by
    rw [State.flow0Batch_planner, grade]; rfl
  refine ⟨?_, ?_⟩
  · rw [show t.fibreTx = _ from fibre, Transmitter.sendOne_marker _ _ marked]
  · rw [show t.radioTx = _ from radio, unused]; rfl

/-- No flow has sent a cell by the release (R46). -/
theorem State.releaseOpened_sequence (f : Flow) :
    ((s.releaseOpened role pins).flow0Batch.batch.flow.read f).sequence = 0 := by
  have none (g : Flow) : ((s.releaseOpened role pins).batch.flow.read g).sequence = 0 := by
    rw [State.openedAt_sequence]
    show (FlowBatchState.sequence (Tab.read (Tab.fill 64 FlowBatchState.powerOn) g)) = 0
    rw [Tab.read_fill]; rfl
  have queue : (s.releaseOpened role pins).mgmt.flow0Queue = [] := rfl
  unfold State.flow0Batch State.batchCells
  dsimp only [State.withRadioTx_batch, State.withFibreTx_batch, State.withBatch_batch,
    State.withMgmt_batch]
  rw [queue, Tab.read_write]
  split
  · exact (BitVec.add_zero _).trans (none 0)
  · exact none f

end Released

/-- Settles O5: the release is a start at which nothing falls in an open order, of a part at
power-on. -/
theorem resetReleaseStartsSuperframeZero : Obligations.ResetReleaseStartsSuperframeZero := by
  intro role pins s asserted
  have start : exec (.resetRelease role pins) s =
      .next (s.releaseOpened role pins).flow0Batch.sendSlot := by
    rw [← s.releaseStarted role pins, ← s.released_eq role pins]
    exact if_pos asserted
  obtain ⟨grade, upRun⟩ := s.releaseOpened_planner role pins
  obtain ⟨fibreLane, radioLane⟩ := s.releaseOpened_lanes role pins
  exact ⟨_, start, (State.sendSlot_inReset _).trans rfl, (State.sendSlot_role _).trans rfl,
    (State.sendSlot_pins _).trans rfl, (State.sendSlot_clock _).trans rfl,
    (State.sendSlot_table _).trans rfl, (State.sendSlot_strike _).trans rfl, fibreLane, radioLane,
    (congrArg RadioPlanner.grade (State.sendSlot_planner _)).trans grade,
    (congrArg RadioPlanner.upRun (State.sendSlot_planner _)).trans upRun,
    fun f => (congrArg (fun u => (u.flow.read f).sequence) (State.sendSlot_batch _)).trans
      (s.releaseOpened_sequence role pins f),
    (State.sendSlot_ingress _).trans rfl, (State.sendSlot_fibreRx _).trans rfl,
    (State.sendSlot_radioRx _).trans rfl, (State.sendSlot_skew _).trans rfl,
    (State.sendSlot_merge _).trans rfl, (State.sendSlot_egress _).trans rfl,
    (State.sendSlot_tally _).trans rfl, (State.sendSlot_mgmt _).trans rfl,
    (State.sendSlot_events _).trans rfl, (State.sendSlot_pending _).trans rfl⟩

end Sys2Proof.Machine
end

section
/-! SUPPORT. Link times as numbers of slots, up to the wrap of the numbering (R7, R8). -/

namespace Sys2Proof.Machine

/-- The slots from (0, 0) to a link time, before the numbering wraps (R1). -/
def LinkTime.index (t : LinkTime) : Int := (t.sf.toNat : Int) * 1536 + t.slot.val

theorem LinkTime.index_range (t : LinkTime) : 0 ≤ t.index ∧ t.index < 6291456 := by
  have sf := t.sf.isLt
  have slot := t.slot.isLt
  unfold LinkTime.index
  omega

/-- A link time is known by its number of slots. -/
theorem LinkTime.eq_of_index {a b : LinkTime} (same : a.index = b.index) : a = b := by
  obtain ⟨sf, slot⟩ := a
  obtain ⟨sf', slot'⟩ := b
  have below := slot.isLt
  have below' := slot'.isLt
  simp only [LinkTime.index] at same
  obtain rfl : sf = sf' := BitVec.eq_of_toNat_eq (by omega)
  obtain rfl : slot = slot' := Fin.ext (by omega)
  rfl

/-- An advance adds its slots, up to the wrap of the numbering (R7). -/
theorem LinkTime.index_advance (t : LinkTime) (n : Int) :
    (t.advance n).index = (t.index + n) % 6291456 := by
  have sf := t.sf.isLt
  have slot := t.slot.isLt
  simp only [LinkTime.index, LinkTime.advance, BitVec.toNat_ofInt, Fin.val_ofNat]
  omega

/-- A difference is the number of slots between two link times up to the wrap, brought into
−3145728..3145727 (R8). -/
theorem difference_spec (a b : LinkTime) : -3145728 ≤ difference a b ∧ difference a b ≤ 3145727 ∧
    (6291456 : Int) ∣ difference a b - (a.index - b.index) := by
  have sfA := a.sf.isLt
  have sfB := b.sf.isLt
  have slotA := a.slot.isLt
  have slotB := b.slot.isLt
  simp only [difference, LinkTime.index, BitVec.toNat_sub, BitVec.toNat_ofNat]
  split <;> split <;> omega

/-- The difference is the one number of slots in its range that leads from `b` to `a` (R8). -/
theorem difference_eq {a b : LinkTime} {n : Int} (low : -3145728 ≤ n) (high : n ≤ 3145727)
    (leads : (6291456 : Int) ∣ n - (a.index - b.index)) : difference a b = n := by
  obtain ⟨above, below, same⟩ := difference_spec a b
  omega

/-- An advance by a difference leads there (R7, R8). -/
theorem LinkTime.advance_difference (a b : LinkTime) : b.advance (difference a b) = a := by
  obtain ⟨-, -, leads⟩ := difference_spec a b
  have range := a.index_range
  refine LinkTime.eq_of_index ?_
  rw [LinkTime.index_advance]
  omega

theorem difference_advance (t : LinkTime) {n : Int} (low : -3145728 ≤ n) (high : n ≤ 3145727) :
    difference (t.advance n) t = n :=
  difference_eq low high (by rw [LinkTime.index_advance]; omega)

/-- Settles O6: a difference is the one number in its range that leads from one link time to the
other. -/
theorem differenceOfLinkTimes : Obligations.DifferenceOfLinkTimes := by
  refine ⟨fun t n low high => difference_advance t low high, fun a b => ?_,
    fun a b half same => ?_⟩
  · obtain ⟨low, high, k, leads⟩ := difference_spec a b
    refine ⟨low, high, k, ?_⟩
    unfold LinkTime.index at leads
    omega
  · have apart : (a.sf.toNat : Int) = (b.sf.toNat + 2048) % 4096 := by
      rw [half, BitVec.toNat_add]; rfl
    have leads : (6291456 : Int) ∣ -3145728 - (a.index - b.index) := by
      unfold LinkTime.index
      rw [apart, same]
      omega
    exact ⟨difference_eq le_rfl (by decide) leads, difference_eq le_rfl (by decide) (by omega)⟩

end Sys2Proof.Machine
end

section
/-! SUPPORT. The skew sample (R11, R102, R103), a receiver's third absence taken as a step of its own
(R90, R92), and the good marker that makes a TRUCK receiver TIMED (R84, R87 to R89). -/

namespace Sys2Proof.Machine

/-! ### The skew sample (R11, R102, R103) -/

theorem SkewUnit.accept_first {u : SkewUnit} (invalid : u.valid = false) (sample : Int) :
    u.accept sample = { u with valid := true, e := 16 * sample, j := 0 } := by
  simp [SkewUnit.accept, invalid]

theorem SkewUnit.accept_later {u : SkewUnit} (valid : u.valid = true) (sample : Int) :
    u.accept sample = { u with
      e := u.e + (16 * sample - u.e).fdiv 8
      j := max (((16 * sample - u.e).natAbs + 15) / 16) (u.j - 1) } := by
  rw [Int.fdiv_eq_ediv_of_nonneg _ (by decide)]
  simp [SkewUnit.accept, valid, ceilSixteenths]

/-- A whole number of slots is not rounded (R11). -/
theorem roundSixteenths_whole (n : Int) : roundSixteenths (16 * n) = n := by
  unfold roundSixteenths
  split <;> omega

theorem roundSixteenths_eq (e : Int) :
    roundSixteenths e = if 0 ≤ e then (e + 8).fdiv 16 else -((8 - e).fdiv 16) := by
  rw [Int.fdiv_eq_ediv_of_nonneg _ (by decide), Int.fdiv_eq_ediv_of_nonneg _ (by decide)]
  rfl

/-- A sample in range gives the new E and J, the Radio Offset of that E, and the holds judged. -/
theorem State.skewSample_accepted (s : State) {sample : Int} (range : sample.natAbs ≤ 8191) :
    s.skewSample sample = ((s.withSkew (s.skew.accept sample)).withClock
      { s.clock with
        radioOffset := some (-(roundSixteenths (s.skew.accept sample).e)) }).judgeHolds :=
  if_neg (not_lt.mpr range)

/-- Settles O32: a first sample is E whole, and a later one moves E an eighth of the way. -/
theorem skewSampleUpdatesEAndJ : Obligations.SkewSampleUpdatesEAndJ := by
  intro s sample low high
  have accepted := s.skewSample_accepted (sample := sample) (by omega)
  refine ⟨fun invalid => ?_, fun valid => ?_⟩
  · rw [SkewUnit.accept_first invalid, roundSixteenths_whole] at accepted
    exact accepted
  · rw [SkewUnit.accept_later valid, roundSixteenths_eq] at accepted
    exact accepted

/-! ### A third absence (R90, R92) -/

/-- The share of a TIMED receiver that waits with the absence at 2 takes it out of TIMED (R90). -/
theorem State.receiverStart_third {s : State} {b : Bearer} (timed : (s.rx b).state = .timed)
    (second : (s.rx b).markerAbsence = 2) :
    s.receiverStart b =
      (s.withRx b { s.rx b with state := .aligned, markerAbsence := 3 }).leftTimed b .absence := by
  simp [State.receiverStart, timed, second]

theorem State.leftTimed_source {s : State} (mast : s.role = .mast) (b : Bearer) (way : WayOut) :
    (s.leftTimed b way).clock.source = sourceOf (s.timed .fibre) (s.timed .radio) :=
  State.chooseSource_mast _ mast

/-- Settles O13: the share that waits is the receiver's leaving TIMED. -/
theorem markerAbsenceExpiryLeavesTimed : Obligations.MarkerAbsenceExpiryLeavesTimed := by
  intro b rest s released waits timed second
  have unowed (c : Bearer) : (s.withOwed rest).rx c = s.rx c := by cases c <;> rfl
  have taken : exec (.markerAbsenceExpiry b) s =
      .next (((s.withOwed rest).withRx b
        { s.rx b with state := .aligned, markerAbsence := 3 }).leftTimed b .absence) := by
    have share := State.receiverStart_third (s := s.withOwed rest) (b := b)
      (by rw [unowed]; exact timed) (by rw [unowed]; exact second)
    rw [unowed] at share
    rw [← share, ← whenReleased_next released]
    show whenReleased s (s.takeOwedOf _) = _
    rw [State.takeOwedOf_some waits]
    rfl
  have lists := SkewUnit.leftTimed_lists s.skew b
  refine ⟨_, taken, by simp, ?_, ?_, ?_, ?_, ?_, by simp, ?_, by simp, by simp [State.leftTimed],
    fun mast => ?_, by simp, by simp, by simp, by simp⟩
  · rw [State.leftTimed_rx, State.withRx_other, unowed]
  · rw [State.leftTimed_skew, State.withRx_skew]; exact lists.1
  · rw [State.leftTimed_skew, State.withRx_skew]; exact lists.2
  · rw [State.leftTimed_skew]; rfl
  · rw [State.leftTimed_skew]; rfl
  · rw [State.leftTimed_events, State.withRx_events]; rfl
  · rw [State.leftTimed_source (by simpa using mast)]
    simp only [State.timed, State.leftTimed_rx]

/-! ### A good marker (R84, R87 to R89) -/

theorem goodHeader_markerCellBytes (m : Marker) : goodHeader (markerCellBytes m) =
    some (.marker m.sf m.fibreTimed m.radioTimed m.grade) := by
  obtain ⟨-, marker, -⟩ := sentCellReadsBack
  exact (marker m).2

/-- The record that a receiver makes of a marker taken at a link time (R87). -/
def Marker.record (m : Marker) (stamp : LinkTime) : MarkerRecord :=
  ⟨m.sf, stamp, m.fibreTimed, m.radioTimed, m.grade⟩

/-- The part once the receiver of bearer `b` has taken the marker `m`, before it is handed on
(R79, R83, R87, R88). -/
def State.tookMarker (s : State) (b : Bearer) (m : Marker) : State :=
  (s.pastGoodHeader b).receiverMarker b (m.record s.clock.time)

/-- A marker taken in ALIGNED or TIMED updates its receiver and is handed on (R84, R89). -/
theorem exec_receivedCell_marker {s : State} {b : Bearer} (m : Marker) (pins : Pins)
    (released : s.inReset = false) (locked : (s.rx b).locked) :
    exec (.receivedCell b (markerCellBytes m) pins) s =
      .next ((s.tookMarker b m).handOnMarker b (m.record s.clock.time) pins) := by
  have stamp : (s.pastGoodHeader b).clock = s.clock := by simp [State.pastGoodHeader]
  rw [exec_receivedCell_good pins released locked (goodHeader_markerCellBytes m)]
  unfold State.acceptedCell State.tookMarker
  dsimp only
  rw [stamp]
  rfl

theorem State.tookMarker_rx_same (s : State) (b : Bearer) (m : Marker) :
    (s.tookMarker b m).rx b = { s.rx b with
    state := .timed, markerAbsence := 0, badRun := 0, atFoundCell := false
    boundary := some ((s.rx b).cellBegin + 192), arrived := (s.rx b).cellBegin + 192
    record := some (m.record s.clock.time) } := by
  unfold State.tookMarker State.receiverMarker State.pastGoodHeader
  dsimp only
  split
  · cases b <;> rfl
  · cases b <;> simp [State.rx] <;> rfl

theorem State.tookMarker_rx_other (s : State) (b : Bearer) (m : Marker) :
    (s.tookMarker b m).rx (otherBearer b) = s.rx (otherBearer b) := by
  unfold State.tookMarker State.receiverMarker State.pastGoodHeader
  dsimp only
  split <;> cases b <;> simp [State.rx, otherBearer, State.withRx]

theorem State.tookMarker_timed_same (s : State) (b : Bearer) (m : Marker) :
    (s.tookMarker b m).timed b = true := by
  rw [State.timed, State.tookMarker_rx_same]; rfl

theorem State.tookMarker_timed_other (s : State) (b : Bearer) (m : Marker) :
    (s.tookMarker b m).timed (otherBearer b) = s.timed (otherBearer b) := by
  rw [State.timed, State.tookMarker_rx_other]; rfl

/-- Unless both receivers are TIMED a marker joins its own list and pairs with none (R97, R100). -/
theorem State.skewMarker_alone {s : State} {b : Bearer} (idle : s.skew.adjustment = none)
    (alone : ¬ (s.timed .fibre = true ∧ s.timed .radio = true)) (t : Superframe) (stamp : LinkTime) :
    s.skewMarker b t stamp =
      s.withSkew (s.skew.withList b (appendEntry (s.skew.list b) ⟨t, stamp, false⟩)) := by
  unfold State.skewMarker SkewUnit.adjusted
  rw [idle]
  dsimp only
  rw [if_neg alone]

/-- Unless the other receiver is TIMED, not both are. -/
theorem State.not_both_timed {s : State} {b : Bearer} (other : s.timed (otherBearer b) = false) :
    ¬ (s.timed .fibre = true ∧ s.timed .radio = true) := by
  rintro ⟨fibre, radio⟩
  cases b with
  | fibre => exact Bool.false_ne_true (other.symm.trans radio)
  | radio => exact Bool.false_ne_true (other.symm.trans fibre)

/-- A marker's report ends the absence of markers (R69, R70). -/
theorem State.farReport_markerAbsence (s : State) (timed : Bool) :
    (s.farReport timed).planner.markerAbsence = 0 := by
  obtain ⟨-, report⟩ | ⟨-, -, report⟩ | ⟨-, -, report⟩ := s.farReport_cases timed <;> rw [report]
  · rfl
  · rw [State.recomputePlan_planner]; rfl
  · rfl

/-- A marker's report raises SHED and RESTORE and no other event (R69, R75). -/
theorem State.farReport_read (s : State) (timed : Bool) {e : Fin 20} (shed : e ≠ EventId.shed.num)
    (restore : e ≠ EventId.restore.num) :
    (s.farReport timed).events.event.read e = s.events.event.read e := by
  obtain ⟨-, report⟩ | ⟨-, -, report⟩ | ⟨-, -, report⟩ := s.farReport_cases timed <;> rw [report]
  · rfl
  · rw [State.recomputePlan_read _ _ shed restore]; rfl
  · rfl

/-- A marker that is no source marker is entered in the Skew Unit and reported to the Radio Planner
(R89). -/
theorem State.handOnMarker_bystander {s : State} {b : Bearer} (elsewhere : s.isSource b = false)
    (m : MarkerRecord) (pins : Pins) :
    s.handOnMarker b m pins = (s.skewMarker b m.sf m.stamp).farReport m.farFibreTimed := by
  simp [State.handOnMarker, elsewhere, State.skewIf, State.reportIf]

@[simp] theorem State.farReport_rx (s : State) (timed : Bool) (b : Bearer) :
    (s.farReport timed).rx b = s.rx b := by cases b <;> simp [State.rx]

@[simp] theorem State.skewMarker_rx (s : State) (b : Bearer) (t : Superframe) (stamp : LinkTime)
    (c : Bearer) : (s.skewMarker b t stamp).rx c = s.rx c := by cases c <;> simp [State.rx]

/-- Settles O27: the receiver is TIMED with its UP event, and the marker joins its list alone. -/
theorem goodMarkerMakesTimed : Obligations.GoodMarkerMakesTimed := by
  intro b m pins s released truck aligned other idle
  have untimed : (s.pastGoodHeader b).timed b = false := by
    cases b <;> simp_all [State.timed, State.pastGoodHeader, Receiver.endBadRun, Receiver.pastCell]
  have marked : s.tookMarker b m = (((s.pastGoodHeader b).withRx b
      (((s.pastGoodHeader b).rx b).takeMarker (m.record s.clock.time))).raise (upEvent b)
        (.superframe m.sf)) := by
    unfold State.tookMarker State.receiverMarker
    dsimp only
    rw [untimed, if_neg Bool.false_ne_true, State.chooseSource_truck]
    · rfl
    · simpa [State.pastGoodHeader] using truck
  have elsewhere : (s.tookMarker b m).isSource b = false := by
    simp [State.isSource, State.tookMarker, State.pastGoodHeader, truck]
  have skew : (s.tookMarker b m).skew = s.skew := by simp [State.tookMarker, State.pastGoodHeader]
  have alone := State.skewMarker_alone (s := s.tookMarker b m) (b := b) (by rw [skew]; exact idle)
    (State.not_both_timed (b := b) (by rw [State.tookMarker_timed_other]; exact other)) m.sf
    s.clock.time
  have taken := exec_receivedCell_marker m pins released (.inl aligned)
  rw [State.handOnMarker_bystander elsewhere] at taken
  refine ⟨_, taken, ?_, ?_, ?_, ?_, State.farReport_markerAbsence .., ?_, ?_, ?_, ?_, ?_⟩
  · rw [State.farReport_rx, State.skewMarker_rx, State.tookMarker_rx_same]; rfl
  · rw [State.farReport_rx, State.skewMarker_rx, State.tookMarker_rx_other]
  · rw [State.farReport_skew]
    show ((s.tookMarker b m).skewMarker b m.sf s.clock.time).skew = _
    rw [alone, skew]; rfl
  · rw [State.farReport_read]
    · show ((s.tookMarker b m).skewMarker b m.sf s.clock.time).events.event.read _ = _
      rw [alone, State.withSkew_events, marked, State.raise_events, EventUnit.raise_read, if_pos rfl]
    · cases b <;> decide
    · cases b <;> decide
  · rw [State.farReport_grade, State.skewMarker_planner, marked]
    simp [State.pastGoodHeader]
  · rw [State.farReport_clock]
    show ((s.tookMarker b m).skewMarker b m.sf s.clock.time).clock = _
    rw [alone, marked]
    simp [State.pastGoodHeader]
  · simp [State.tookMarker, State.pastGoodHeader]
  · simp [State.tookMarker, State.pastGoodHeader]
  · simp [State.tookMarker, State.pastGoodHeader]

end Sys2Proof.Machine
end

section
/-! SUPPORT. What a transmitter sends in a slot (R57, R58, R60, R61), and the slot entry that starts no
superframe (R1, R2, R58, R59, R123, R135). -/

namespace Sys2Proof.Machine

/-! ### The flow served (R58) -/

/-- How far user flow `f` stands from the turn position in the round (R58). -/
def Transmitter.ahead (t : Transmitter) (f : Flow) : Nat := (f.val + 62 - t.turn.val) % 63

theorem hasUnsent_iff (list : List BatchCell) (f : Flow) :
    hasUnsent list f = true ↔ ∃ c ∈ list, c.flow = f ∧ c.sent = false := by
  simp [hasUnsent]

/-- The first user flow that meets a condition is the lowest that does. -/
theorem userFlows_find?_least {p : Flow → Bool} {f : Flow} (found : userFlows.find? p = some f) :
    f ≠ 0 ∧ p f = true ∧ ∀ g : Flow, g ≠ 0 → p g = true → f ≤ g := by
  obtain ⟨holds, before, after, split, none⟩ := List.find?_eq_some_iff_append.mp found
  refine ⟨(mem_userFlows f).mp (List.mem_of_find?_eq_some found), holds, fun g user meets => ?_⟩
  have member := (mem_userFlows g).mpr user
  have ascending := userFlows_ascending
  rw [split] at member ascending
  rw [List.mem_append, List.mem_cons] at member
  rcases member with first | rfl | later
  · exact absurd meets (by simpa using none g first)
  · exact le_rfl
  · exact ((List.pairwise_cons.mp (List.pairwise_append.mp ascending).2.1).1 g later).le

/-- No flow that meets a condition, no user flow found. -/
theorem userFlows_find?_none {p : Flow → Bool} (none : userFlows.find? p = none) {f : Flow}
    (user : f ≠ 0) : p f = false := by
  simpa using List.find?_eq_none.mp none f ((mem_userFlows f).mpr user)

/-- Flow 0 is served first, and then the flow with an unsent cell that stands next in the round from
the turn position (R58). -/
theorem Transmitter.served_spec (t : Transmitter) (waits : ∃ c ∈ t.sendList, c.sent = false) :
    ∃ f : Flow, t.served = some f ∧ hasUnsent t.sendList f = true ∧
      (hasUnsent t.sendList 0 = true → f = 0) ∧
      (f ≠ 0 → ∀ g : Flow, hasUnsent t.sendList g = true → t.ahead f ≤ t.ahead g) := by
  unfold Transmitter.served
  split
  · next first => exact ⟨0, rfl, first, fun _ => rfl, fun user => absurd rfl user⟩
  · next notFirst =>
    have user {g : Flow} (unsent : hasUnsent t.sendList g = true) : g ≠ 0 := by
      rintro rfl; exact notFirst unsent
    split
    · next f found =>
      obtain ⟨-, meets, least⟩ := userFlows_find?_least found
      simp only [Bool.and_eq_true, decide_eq_true_eq] at meets least
      refine ⟨f, rfl, meets.2, fun first => absurd first notFirst, fun _ g unsent => ?_⟩
      have above := meets.1
      have lowest := fun beyond => least g (user unsent) ⟨beyond, unsent⟩
      have turnRange := t.turn.isLt
      have fRange := f.isLt
      have gRange := g.isLt
      have gUser := Fin.val_ne_zero_iff.mpr (user unsent)
      simp only [Fin.lt_def, Fin.le_def] at above lowest
      unfold Transmitter.ahead
      by_cases beyond : t.turn.val < g.val
      · have := lowest beyond
        omega
      · omega
    · next passed =>
      have behind {g : Flow} (unsent : hasUnsent t.sendList g = true) : g.val ≤ t.turn.val := by
        have := userFlows_find?_none passed (user unsent)
        simp only [unsent, Bool.and_true, decide_eq_false_iff_not, Fin.lt_def] at this
        omega
      obtain ⟨c, member, waiting⟩ := waits
      have unsentAt : hasUnsent t.sendList c.flow = true :=
        (hasUnsent_iff _ _).mpr ⟨c, member, rfl, waiting⟩
      cases found : userFlows.find? fun f => hasUnsent t.sendList f with
      | none => exact absurd unsentAt (by simpa using userFlows_find?_none found (user unsentAt))
      | some f =>
        obtain ⟨served, meets, least⟩ := userFlows_find?_least found
        refine ⟨f, rfl, meets, fun first => absurd first notFirst, fun _ g unsent => ?_⟩
        have lowest := least g (user unsent) unsent
        have near := behind unsent
        have turnRange := t.turn.isLt
        have range := Fin.val_ne_zero_iff.mpr served
        simp only [Fin.le_def] at lowest
        unfold Transmitter.ahead
        omega

/-! ### The cell sent (R57, R58, R61) -/

/-- The oldest unsent cell of a flow that has one, found in its list and marked sent (R58). -/
theorem markSent_spec (f : Flow) (list : List BatchCell) (unsent : hasUnsent list f = true) :
    ∃ (pre post : List BatchCell) (c : BatchCell), list = pre ++ c :: post ∧ c.flow = f ∧
      c.sent = false ∧ (∀ d ∈ pre, d.flow = f → d.sent = true) ∧
      markSent f list = (some c, pre ++ { c with sent := true } :: post) := by
  induction list with
  | nil => simp [hasUnsent] at unsent
  | cons c cs ih =>
    by_cases here : c.flow = f ∧ c.sent = false
    · exact ⟨[], cs, c, rfl, here.1, here.2, by simp, by simp [markSent, here]⟩
    · have passed : c.flow = f → c.sent = true := by simpa using here
      have later : hasUnsent cs f = true := by
        obtain ⟨d, member, flow, waiting⟩ := (hasUnsent_iff _ _).mp unsent
        rcases List.mem_cons.mp member with rfl | later
        · exact absurd ⟨flow, waiting⟩ here
        · exact (hasUnsent_iff _ _).mpr ⟨d, later, flow, waiting⟩
      obtain ⟨pre, post, d, split, flow, waiting, oldest, marked⟩ := ih later
      refine ⟨c :: pre, post, d, by rw [split]; rfl, flow, waiting, ?_, ?_⟩
      · rintro e member
        rcases List.mem_cons.mp member with rfl | member
        · exact passed
        · exact oldest e member
      · have skip : (c.flow == f && !c.sent) = false := by
          by_cases same : c.flow = f
          · simp [passed same]
          · simp [same]
        rw [markSent, if_neg (by simp [skip]), marked]
        rfl

/-- With no unsent cell in its list, a transmitter without a marker sends an idle cell (R61). -/
theorem Transmitter.sendOne_allSent (t : Transmitter) (noMarker : t.marker = none)
    (all : ∀ c ∈ t.sendList, c.sent = true) :
    t.sendOne = { t with lane := some idleCellBytes } := by
  have nothing (f : Flow) : hasUnsent t.sendList f = false := by
    rw [Bool.eq_false_iff, ne_eq, hasUnsent_iff]
    rintro ⟨c, member, -, waiting⟩
    rw [all c member] at waiting
    cases waiting
  have noFlow : userFlows.find? (fun _ => false) = none := List.find?_eq_none.mpr (by simp)
  have nobody : t.served = none := by simp [Transmitter.served, nothing, noFlow]
  simp only [Transmitter.sendOne, noMarker, nobody]

/-- A transmitter without a marker sends the oldest unsent cell of the flow served, counted (R58). -/
theorem Transmitter.sendOne_served {t : Transmitter} {f : Flow} (noMarker : t.marker = none)
    (served : t.served = some f) {c : BatchCell} {list : List BatchCell}
    (marked : markSent f t.sendList = (some c, list)) :
    t.sendOne = { t with
      sendList := list
      turn := if f = 0 then t.turn else f
      sentCount := t.sentCount.modify f satInc
      lane := some (dataCellBytes c.flow c.sequence c.data) } := by
  simp only [Transmitter.sendOne, noMarker, served, Transmitter.sendOf, marked]

/-! ### The entry of a slot within a superframe (R1, R58, R59, R123, R135) -/

/-- Between steps no expiry is kept, so that a judging finds those due alone (R123). -/
theorem State.settled.judgeHolds_eq {s t : State} (settled : s.settled)
    (same : t.expired = s.expired) : t.judgeHolds = t.withExpired (Tab.build t.expiryDue) := by
  obtain ⟨-, -, idle⟩ := settled
  have found : t.holdExpired = t.expiryDue := by
    funext f
    have none := Bool.or_eq_false_iff.mp (idle f)
    rw [State.holdExpired, same, none.1, Bool.false_or]
  rw [State.judgeHolds, found]

/-- The slot that the clock's own advance enters (R1, R2). -/
theorem LinkTime.advance_one_eq (t : LinkTime) :
    t.advance 1 = if t.slot = 1535 then ⟨t.sf + 1, 0⟩ else ⟨t.sf, t.slot + 1⟩ := by
  split
  · next last => exact t.advance_one_wrap last
  · next within => exact t.advance_one within

/-- A slot entry that starts no superframe and takes no strike, block by block. -/
theorem State.advanceSlot_quiet {s : State} {pins : Pins} (settled : s.settled)
    (within : s.clock.time.slot ≠ 1535 ∨ s.clock.time.sf + 1 = s.clock.lastStarted)
    (quiet : s.strike.strikesOf pins = (false, false)) :
    s.advanceSlot pins = { s with
      clock := { s.clock with time := s.clock.time.advance 1 }
      pins := pins
      strike := { s.strike with
        lineA := (s.strike.lineA.take pins.strikeA).1
        lineB := (s.strike.lineB.take pins.strikeB).1 }
      fibreTx := s.fibreTx.sendOne
      radioTx :=
        if radioSlotDue s.planner.grade s.radioTx.usedSlots (s.clock.time.advance 1).slot then
          { s.radioTx.sendOne with usedSlots := s.radioTx.usedSlots + 1 }
        else { s.radioTx with lane := none }
      expired :=
        Tab.build (s.withClock { s.clock with time := s.clock.time.advance 1 }).expiryDue
      occasion := s.occasion + 1 } := by
  have due (lines : StrikeMonitor) (storm : lines.storm = s.strike.storm) :
      ((s.standAt (s.clock.time.advance 1) pins).withStrike lines).expiryDue =
        (s.withClock { s.clock with time := s.clock.time.advance 1 }).expiryDue :=
    funext fun f => State.expiryDue_congr f rfl rfl rfl rfl (State.guard_congr storm rfl) rfl
  rw [State.advanceSlot_within settled within, State.sampleStrikes_quiet _ quiet,
    settled.judgeHolds_eq (t := (s.standAt _ pins).withStrike _) rfl, due]
  · unfold State.sendSlot
    dsimp only
    split
    · next used =>
      rw [if_pos (by exact used)]; rfl
    · next passed =>
      rw [if_neg (by exact passed)]; rfl
  · rfl

/-- Settles O8: a slot entry within a superframe has its frame, and a transmitter sends its marker,
else the oldest unsent cell of the flow served, else an idle cell. -/
theorem slotEntryWithinSuperframe : Obligations.SlotEntryWithinSuperframe := by
  refine ⟨fun pins s settled within quiet => ?_, Transmitter.sendOne_marker,
    Transmitter.sendOne_allSent, fun t noMarker waits => ?_⟩
  · dsimp only
    rw [exec_slotEntry settled.1, State.advanceSlot_quiet settled within quiet,
      LinkTime.advance_one_eq]
  · obtain ⟨f, served, unsent, first, next⟩ := t.served_spec waits
    obtain ⟨pre, post, c, split, rfl, waiting, oldest, marked⟩ := markSent_spec f t.sendList unsent
    refine ⟨pre, post, c, split, waiting, oldest,
      fun zero => first ((hasUnsent_iff _ _).mpr zero), fun user d member unsentCell => ?_,
      t.sendOne_served noMarker served marked⟩
    exact next user d.flow ((hasUnsent_iff _ _).mpr ⟨d, member, rfl, unsentCell⟩)

end Sys2Proof.Machine
end

section
/-! SUPPORT. The superframe start block by block, at a slot entry (R2) and at an edge of REF (R5). -/

namespace Sys2Proof.Machine

/-! ### What a superframe start leaves in each block -/

/-- The start computes the plan by the awaiting grade, which is in effect from then on (R65, R67). -/
theorem State.plannerAt_grade (s : State) (n : Superframe) :
    (s.plannerAt n).grade = s.planner.awaiting.getD s.planner.grade := by
  unfold State.plannerAt
  dsimp only
  split <;> rfl

section
variable {s t : State} {time : LinkTime} {pins : Pins} (started : SuperframeStarted s t time pins)
include started

/-- The sample of the start awaits the next one; the grade awaited before is in effect (R65, R67). -/
theorem SuperframeStarted.grade :
    t.planner.grade = s.planner.awaiting.getD s.planner.grade := by
  rw [started.planner, ((s.plannerAt time.sf).takeSample_kept ..).1, State.plannerAt_grade]

/-- The marker stands on the fibre lane (R57). -/
theorem SuperframeStarted.fibreLane :
    t.fibreTx.lane = some (markerCellBytes ⟨time.sf, s.timed .fibre, s.timed .radio,
      s.planner.awaiting.getD s.planner.grade⟩) := by
  rw [started.transmitters.1, started.grade]
  rfl

/-- The cells that were not sent are counted skipped, flow by flow (R56). -/
theorem SuperframeStarted.skipped (f : Flow) :
    t.fibreTx.skippedCount.read f =
      satAdd (s.fibreTx.skippedCount.read f) (unsentOf s.fibreTx.sendList f) ∧
    t.radioTx.skippedCount.read f =
      satAdd (s.radioTx.skippedCount.read f) (unsentOf s.radioTx.sendList f) := by
  obtain ⟨fibre, radio⟩ := started.transmitters
  rw [fibre, radio]
  exact ⟨Tab.read_build .., Tab.read_build ..⟩

theorem SuperframeStarted.settings : t.mgmt.settings = s.mgmt.settings := by
  rw [started.mgmt]

end

/-- Settles O10: the slot entry is a superframe start, whose blocks are read off. -/
theorem slotEntryStartsSuperframe : Obligations.SlotEntryStartsSuperframe := by
  intro pins s settled ranges last unstarted quiet
  have started := State.advanceSlot_superframeStarted settled ranges quiet last unstarted
  obtain ⟨skew, egress, role, level, -, owed, pending, -⟩ := started.others
  exact ⟨s.advanceSlot pins, exec_slotEntry settled.1 pins, started, started.clock, started.table,
    started.grade, started.fibreLane, fun f => (started.skipped f).1,
    fun f => (started.skipped f).2, congrArg StrikeMonitor.timer started.strike,
    started.receivers, skew, egress, role, level, started.settings, owed, pending⟩

/-! ### The edge of REF (R5, R6, R98) -/

/-- An edge of REF off slot 0 moves the Marker Lists by the slots cut short and enters slot 0 of the
next superframe with its start (R5, R98). -/
theorem State.takeRefEdge_starts {s : State} (settled : s.settled) (truck : s.role = .truck)
    (off : s.clock.time.slot ≠ 0) (pins : Pins) :
    s.takeRefEdge pins =
      ((s.withSkew (s.skew.move (1535 - (s.clock.time.slot.val : Int)))).standAt
        ⟨s.clock.time.sf + 1, 0⟩ pins).enterSlot (some (s.clock.time.sf + 1)) := by
  unfold State.takeRefEdge
  rw [truck, State.settle_settled s settled]
  exact if_neg off

/-- An edge of REF in slot 0 or in the MAST role changes nothing (R4, R6). -/
theorem State.takeRefEdge_idle {s : State} (idle : s.role = .mast ∨ s.clock.time.slot = 0)
    (pins : Pins) : s.takeRefEdge pins = s := by
  unfold State.takeRefEdge
  rcases idle with mast | first
  · rw [mast]
  · cases s.role with
    | mast => rfl
    | truck => exact if_pos first

/-- Settles O11: the edge of REF is a superframe start after a move of the Marker Lists. -/
theorem refEdgeStartsNextSuperframe : Obligations.RefEdgeStartsNextSuperframe := by
  refine ⟨fun pins s settled ranges truck off quiet => ?_, fun pins s idle => ?_⟩
  · have starts := State.takeRefEdge_starts settled truck off pins
    have executed : exec (.refEdge pins) s = .next (s.takeRefEdge pins) :=
      whenReleased_next settled.1 _
    obtain ⟨-, noneOwed, noneDue⟩ := settled
    have started : SuperframeStarted
        (s.withSkew (s.skew.move (1535 - (s.clock.time.slot.val : Int)))) (s.takeRefEdge pins)
        ⟨s.clock.time.sf + 1, 0⟩ pins := by
      rw [starts]
      exact State.enterSlot_superframeStarted ⟨s.clock.time.sf + 1, 0⟩ noneOwed
        (fun f => (Bool.or_eq_false_iff.mp (noneDue f)).1) ranges quiet
    obtain ⟨skew, egress, -, -, -, -, pending, -⟩ := started.others
    exact ⟨s.takeRefEdge pins, executed, started, started.clock, skew, started.fibreLane,
      fun f => (started.skipped f).1, egress, started.settings, pending⟩
  · show whenReleased s (s.takeRefEdge pins) = .next s
    cases reset : s.inReset with
    | true => simp [whenReleased, reset]
    | false =>
      rw [reset] at idle
      rw [whenReleased_next reset, State.takeRefEdge_idle (by simpa using idle)]

end Sys2Proof.Machine
end

section
/-! SUPPORT. The Skew Unit's taking of a marker as the unit alone sees it, and why it makes no
difference whether a move of link time comes before the taking or after it (R97, R98, R100). -/

namespace Sys2Proof.Machine

/-! ### Two link times moved together -/

/-- A move of both link times leaves their difference (R8). -/
theorem difference_advance_both (a b : LinkTime) (n : Int) :
    difference (a.advance n) (b.advance n) = difference a b := by
  obtain ⟨low, high, leads⟩ := difference_spec a b
  refine difference_eq low high ?_
  rw [LinkTime.index_advance, LinkTime.index_advance]
  omega

theorem pairSample_advance (b : Bearer) (stamp other : LinkTime) (n : Int) :
    pairSample b (stamp.advance n) (other.advance n) = pairSample b stamp other := by
  cases b <;> exact difference_advance_both ..

/-! ### Lists that have moved -/

theorem SkewUnit.move_list (u : SkewUnit) (n : Int) (b : Bearer) :
    (u.move n).list b = (u.list b).map (MarkerEntry.moved n) := by
  cases b <;> rfl

theorem SkewUnit.withList_move (u : SkewUnit) (b : Bearer) (list : List MarkerEntry) (n : Int) :
    (u.withList b list).move n = (u.move n).withList b (list.map (MarkerEntry.moved n)) := by
  cases b <;> rfl

theorem appendEntry_moved (n : Int) (list : List MarkerEntry) (e : MarkerEntry) :
    appendEntry (list.map (MarkerEntry.moved n)) (e.moved n) =
      (appendEntry list e).map (MarkerEntry.moved n) := by
  unfold appendEntry
  rw [List.length_map]
  split <;> simp

/-- The pairing does not look at the stamps (R100). -/
theorem pairNewest_moved (n : Int) (t : Superframe) (list : List MarkerEntry) :
    pairNewest t (list.map (MarkerEntry.moved n)) =
      (pairNewest t list).map fun r => (r.1.advance n, r.2.map (MarkerEntry.moved n)) := by
  induction list with
  | nil => rfl
  | cons e es ih =>
    rw [List.map_cons, pairNewest, pairNewest, ih]
    by_cases newest : e.sf = t ∧ e.paired = false
    · rw [if_pos newest, if_pos (by exact newest)]
      rfl
    · rw [if_neg newest, if_neg (by exact newest)]
      cases pairNewest t es <;> rfl

theorem SkewUnit.accept_move (u : SkewUnit) (sample n : Int) :
    (u.move n).accept sample = (u.accept sample).move n := by
  unfold SkewUnit.accept
  split
  · next valid => rw [if_pos (by exact valid)]; rfl
  · next invalid => rw [if_neg (by exact invalid)]; rfl

/-! ### A marker entered -/

/-- The Skew Unit after a sample, discarded when it is out of range (R101 to R103). -/
def SkewUnit.sampled (u : SkewUnit) (sample : Int) : SkewUnit :=
  if 8191 < sample.natAbs then u else u.accept sample

theorem State.skewSample_skew (s : State) (sample : Int) :
    (s.skewSample sample).skew = s.skew.sampled sample := by
  unfold State.skewSample SkewUnit.sampled
  split <;> rfl

/-- The Skew Unit once a marker of bearer `b` has joined its list at the stamp `stamp`, paired when it
can be while both receivers are TIMED (R97, R100). -/
def SkewUnit.entered (u : SkewUnit) (both : Bool) (b : Bearer) (t : Superframe) (stamp : LinkTime) :
    SkewUnit :=
  match both, pairNewest t (u.list (otherBearer b)).reverse with
  | true, some (otherStamp, others) =>
    ((u.withList b (appendEntry (u.list b) ⟨t, stamp, true⟩)).withList (otherBearer b)
      others.reverse).sampled (pairSample b stamp otherStamp)
  | _, _ => u.withList b (appendEntry (u.list b) ⟨t, stamp, false⟩)

/-- The Skew Unit enters a marker at its stamp adjusted (R97). -/
theorem State.skewMarker_skew (s : State) (b : Bearer) (t : Superframe) (stamp : LinkTime) :
    (s.skewMarker b t stamp).skew = (s.skew.adjusted b stamp).2.entered
      (s.timed .fibre && s.timed .radio) b t (s.skew.adjusted b stamp).1 := by
  unfold State.skewMarker SkewUnit.entered
  dsimp only
  split
  · next both =>
    rw [both.1, both.2]
    cases pairNewest t ((s.skew.adjusted b stamp).2.list (otherBearer b)).reverse with
    | none => rfl
    | some pair => exact State.skewSample_skew ..
  · next alone =>
    rw [Bool.eq_false_iff.mpr (fun both => alone (Bool.and_eq_true_iff.mp both))]
    rfl

theorem SkewUnit.sampled_move (u : SkewUnit) (sample n : Int) :
    (u.move n).sampled sample = (u.sampled sample).move n := by
  unfold SkewUnit.sampled
  split
  · rfl
  · exact u.accept_move sample n

/-- A marker entered after a move at its moved stamp stands as one entered before the move
(R97, R98). -/
theorem SkewUnit.entered_move (u : SkewUnit) (n : Int) (both : Bool) (b : Bearer) (t : Superframe)
    (stamp : LinkTime) :
    (u.move n).entered both b t (stamp.advance n) = (u.entered both b t stamp).move n := by
  have appended (paired : Bool) : appendEntry ((u.list b).map (MarkerEntry.moved n))
      ⟨t, stamp.advance n, paired⟩ =
      (appendEntry (u.list b) ⟨t, stamp, paired⟩).map (MarkerEntry.moved n) :=
    appendEntry_moved n (u.list b) ⟨t, stamp, paired⟩
  have alone : (u.move n).withList b (appendEntry ((u.list b).map (MarkerEntry.moved n))
      ⟨t, stamp.advance n, false⟩) =
      (u.withList b (appendEntry (u.list b) ⟨t, stamp, false⟩)).move n := by
    rw [appended, SkewUnit.withList_move]
  unfold SkewUnit.entered
  rw [SkewUnit.move_list, SkewUnit.move_list, ← List.map_reverse, pairNewest_moved]
  cases both with
  | false => exact alone
  | true =>
    cases pairNewest t (u.list (otherBearer b)).reverse with
    | none => exact alone
    | some pair =>
      dsimp only [Option.map_some]
      rw [pairSample_advance, appended, ← SkewUnit.withList_move, ← List.map_reverse,
        ← SkewUnit.withList_move, SkewUnit.sampled_move]

/-- The move held for a marker is made up for at the marker: the Skew Unit that follows the move first
ends as the one that takes the marker first (R97, R98). -/
theorem SkewUnit.adjusted_followMove {u : SkewUnit} (idle : u.adjustment = none) (n : Int)
    (b : Bearer) (stamp : LinkTime) :
    (u.followMove n (some (b, stamp))).adjusted b stamp = (stamp.advance n, u.move n) := by
  have moved : ({ u.move n with adjustment := none } : SkewUnit) = u.move n := by
    rw [← idle]; rfl
  unfold SkewUnit.followMove SkewUnit.adjusted
  dsimp only
  rw [if_pos ⟨rfl, rfl⟩, moved]

theorem SkewUnit.adjusted_idle {u : SkewUnit} (idle : u.adjustment = none) (b : Bearer)
    (stamp : LinkTime) : u.adjusted b stamp = (stamp, u) := by
  unfold SkewUnit.adjusted
  rw [idle]

/-- The Skew Unit that takes a marker after the move held for it stands as the one that takes the
marker and then moves (R98). -/
theorem State.skewMarker_after_move {s t : State} {b : Bearer} {n : Int} {stamp : LinkTime}
    (idle : s.skew.adjustment = none) (timed : ∀ c, t.timed c = s.timed c)
    (moved : t.skew = s.skew.followMove n (some (b, stamp))) (sf : Superframe) :
    (t.skewMarker b sf stamp).skew = (s.skewMarker b sf stamp).skew.move n := by
  rw [State.skewMarker_skew, State.skewMarker_skew, moved, SkewUnit.adjusted_followMove idle,
    SkewUnit.adjusted_idle idle, timed, timed, SkewUnit.entered_move]

@[simp] theorem SkewUnit.move_zero (u : SkewUnit) : u.move 0 = u := by
  have still : MarkerEntry.moved 0 = id := by
    funext e
    simp [MarkerEntry.moved]
  simp [SkewUnit.move, still]

end Sys2Proof.Machine
end

section
/-! SUPPORT. What the Skew Unit's and the Radio Planner's shares of a marker change, and what they
leave to the Link Clock (R89, R98). -/

namespace Sys2Proof.Machine

/-! ### What a marker can do to the Skew Unit (R97, R100) -/

/-- A marker joins its list, and at most a sample is taken then, while both receivers are TIMED. -/
theorem State.skewMarker_cases (s : State) (b : Bearer) (t : Superframe) (stamp : LinkTime) :
    (∃ u : SkewUnit, u.valid = s.skew.valid ∧ u.e = s.skew.e ∧ u.j = s.skew.j ∧
      s.skewMarker b t stamp = s.withSkew u) ∨
    ((s.timed .fibre = true ∧ s.timed .radio = true) ∧ ∃ (u : SkewUnit) (sample : Int),
      s.skewMarker b t stamp = (s.withSkew u).skewSample sample) := by
  unfold State.skewMarker
  dsimp only
  split
  · next both =>
    split
    · obtain ⟨valid, e, j⟩ := s.skew.adjusted_withList_kept b b stamp
        (appendEntry ((s.skew.adjusted b stamp).2.list b) ⟨t, (s.skew.adjusted b stamp).1, false⟩)
      exact .inl ⟨_, valid, e, j, rfl⟩
    · exact .inr ⟨both, _, _, rfl⟩
  · obtain ⟨valid, e, j⟩ := s.skew.adjusted_withList_kept b b stamp
      (appendEntry ((s.skew.adjusted b stamp).2.list b) ⟨t, (s.skew.adjusted b stamp).1, false⟩)
    exact .inl ⟨_, valid, e, j, rfl⟩

/-! ### Settled parts (R123) -/

/-- No cell held, no expiry found: judged again, the part is settled as it was. -/
theorem State.settled.of_empty {s t : State} (settled : s.settled) (reset : t.inReset = s.inReset)
    (owed : t.owed = s.owed) (empty : ∀ f : Flow, (t.merge.window.read f).held = [])
    (expired : t.expired = s.expired ∨ ∃ u : State, u.expired = s.expired ∧
      u.merge = t.merge ∧ t.expired = u.judgeHolds.expired) : t.settled := by
  obtain ⟨released, noneOwed, idle⟩ := settled
  have none {u : State} (same : u.merge = t.merge) (f : Flow) : u.expiryDue f = false := by
    rw [Bool.eq_false_iff]
    intro due
    exact (State.expiryDue_held due).2 (by rw [same]; exact empty f)
  have before (f : Flow) : s.expired.read f = false := (Bool.or_eq_false_iff.mp (idle f)).1
  refine ⟨reset.trans released, owed.trans noneOwed, fun f => ?_⟩
  rw [State.holdExpired, none rfl, Bool.or_false]
  obtain same | ⟨u, kept, merge, judged⟩ := expired
  · rw [same]; exact before f
  · rw [judged, State.judgeHolds_read, State.holdExpired, kept, before, none merge]; rfl

/-- A part that differs in nothing that the holds depend on is settled as well. -/
theorem State.settled.of_same {s t : State} (settled : s.settled) (reset : t.inReset = s.inReset)
    (owed : t.owed = s.owed) (expired : t.expired = s.expired)
    (due : ∀ f : Flow, t.expiryDue f = s.expiryDue f) : t.settled := by
  obtain ⟨released, noneOwed, idle⟩ := settled
  refine ⟨reset.trans released, owed.trans noneOwed, fun f => ?_⟩
  rw [State.holdExpired, expired, due]
  exact idle f

/-! ### The shares of a marker other than the Link Clock's -/

/-- Not both receivers are TIMED, or no cell is held: a sample finds no hold expired. -/
def State.sampleQuiet (s : State) : Prop :=
  ¬ (s.timed .fibre = true ∧ s.timed .radio = true) ∨ ∀ f : Flow, (s.merge.window.read f).held = []

/-- `t` is `s` after the Skew Unit's share of a marker, the Radio Planner's, both or none. -/
structure State.MarkerShared (s t : State) : Prop where
  frame : ∃ (offset : Option Int) (planner : RadioPlanner) (skew : SkewUnit) (events : EventUnit)
    (expired : Tab 64 Bool), t = { s with
      clock := { s.clock with radioOffset := offset }, planner := planner, skew := skew
      events := events, expired := expired }
  told : ∀ e : Fin 20, e ≠ EventId.shed.num → e ≠ EventId.restore.num →
    e ≠ EventId.skewRange.num → t.events.event.read e = s.events.event.read e
  routineCount : t.events.routineCount = s.events.routineCount
  offset : ¬ (s.timed .fibre = true ∧ s.timed .radio = true) →
    t.clock.radioOffset = s.clock.radioOffset
  settled : s.sampleQuiet → s.settled → t.settled
  fresh : s.KeepsPlan t

theorem State.MarkerShared.refl (s : State) : s.MarkerShared s where
  frame := ⟨_, _, _, _, _, rfl⟩
  told _ _ _ _ := rfl
  routineCount := rfl
  offset _ := rfl
  settled _ := id
  fresh := id

section
variable {s t : State} (shared : s.MarkerShared t)
include shared

theorem State.MarkerShared.clock :
    t.clock = { s.clock with radioOffset := t.clock.radioOffset } := by
  obtain ⟨_, _, _, _, _, rfl⟩ := shared.frame
  rfl

theorem State.MarkerShared.rx (b : Bearer) : t.rx b = s.rx b := by
  obtain ⟨_, _, _, _, _, rfl⟩ := shared.frame
  cases b <;> rfl

theorem State.MarkerShared.timed (b : Bearer) : t.timed b = s.timed b := by
  rw [State.timed, shared.rx]; rfl

theorem State.MarkerShared.table : t.table = s.table := by
  obtain ⟨_, _, _, _, _, rfl⟩ := shared.frame
  rfl

theorem State.MarkerShared.ingress : t.ingress = s.ingress := by
  obtain ⟨_, _, _, _, _, rfl⟩ := shared.frame
  rfl

theorem State.MarkerShared.batch : t.batch = s.batch := by
  obtain ⟨_, _, _, _, _, rfl⟩ := shared.frame
  rfl

theorem State.MarkerShared.merge : t.merge = s.merge := by
  obtain ⟨_, _, _, _, _, rfl⟩ := shared.frame
  rfl

theorem State.MarkerShared.strike : t.strike = s.strike := by
  obtain ⟨_, _, _, _, _, rfl⟩ := shared.frame
  rfl

theorem State.MarkerShared.egress : t.egress = s.egress := by
  obtain ⟨_, _, _, _, _, rfl⟩ := shared.frame
  rfl

theorem State.MarkerShared.tally : t.tally = s.tally := by
  obtain ⟨_, _, _, _, _, rfl⟩ := shared.frame
  rfl

theorem State.MarkerShared.mgmt : t.mgmt = s.mgmt := by
  obtain ⟨_, _, _, _, _, rfl⟩ := shared.frame
  rfl

theorem State.MarkerShared.occasion : t.occasion = s.occasion := by
  obtain ⟨_, _, _, _, _, rfl⟩ := shared.frame
  rfl

theorem State.MarkerShared.sampleQuiet (quiet : s.sampleQuiet) : t.sampleQuiet := by
  unfold State.sampleQuiet
  rw [shared.timed, shared.timed, shared.merge]
  exact quiet

end

theorem State.MarkerShared.trans {s t u : State} (first : s.MarkerShared t)
    (second : t.MarkerShared u) : s.MarkerShared u where
  frame := by
    obtain ⟨_, _, _, _, _, rfl⟩ := first.frame
    obtain ⟨_, _, _, _, _, rfl⟩ := second.frame
    exact ⟨_, _, _, _, _, rfl⟩
  told e shed restore range :=
    (second.told e shed restore range).trans (first.told e shed restore range)
  routineCount := second.routineCount.trans first.routineCount
  offset alone := (second.offset (by rw [first.timed, first.timed]; exact alone)).trans
    (first.offset alone)
  settled quiet := second.settled (first.sampleQuiet quiet) ∘ first.settled quiet
  fresh := second.fresh ∘ first.fresh

/-- The Skew Unit's share (R97, R100). -/
theorem State.MarkerShared.skewMarker (s : State) (b : Bearer) (t : Superframe) (stamp : LinkTime) :
    s.MarkerShared (s.skewMarker b t stamp) := by
  have noRoutine := s.skewMarker_routineCount b t stamp
  have reset : (s.skewMarker b t stamp).inReset = s.inReset := by simp
  have owed : (s.skewMarker b t stamp).owed = s.owed := by simp
  have merge : (s.skewMarker b t stamp).merge = s.merge := by simp
  have keeps : s.KeepsPlan (s.skewMarker b t stamp) := .of_frame (by simp) (by simp)
  obtain ⟨u, valid, e, j, alone⟩ | ⟨both, u, sample, taken⟩ := s.skewMarker_cases b t stamp
  · have term : u.skewTerm = s.skew.skewTerm := by unfold SkewUnit.skewTerm; rw [valid, e]
    rw [alone] at noRoutine keeps ⊢
    exact ⟨⟨_, _, _, _, _, rfl⟩, fun _ _ _ _ => rfl, noRoutine, fun _ => rfl,
      fun _ settled => settled.of_same rfl rfl rfl fun f =>
        State.expiryDue_congr f rfl rfl term j rfl rfl, keeps⟩
  · rw [taken] at noRoutine reset owed merge keeps ⊢
    refine ⟨?_, fun e shed restore range => ?_, noRoutine, fun alone => absurd both alone,
      fun quiet settled => settled.of_empty reset owed ?_ ?_, keeps⟩
    · unfold State.skewSample
      split <;> exact ⟨_, _, _, _, _, rfl⟩
    · unfold State.skewSample
      split
      · rw [State.raise_events, EventUnit.raise_read, if_neg range]; rfl
      · rfl
    · rw [merge]
      exact quiet.resolve_left (not_not_intro both)
    · unfold State.skewSample
      split
      · exact .inl rfl
      · exact .inr ⟨((s.withSkew u).withSkew (u.accept sample)).withClock { s.clock with
          radioOffset := some (-(roundSixteenths (u.accept sample).e)) }, rfl, rfl, rfl⟩

/-- The Radio Planner's share (R69). -/
theorem State.MarkerShared.farReport (s : State) (timed : Bool) :
    s.MarkerShared (s.farReport timed) where
  frame := by
    refine ⟨s.clock.radioOffset, (s.farReport timed).planner, s.skew, (s.farReport timed).events,
      s.expired, ?_⟩
    apply State.ext <;> simp
  told _ shed restore _ := s.farReport_read timed shed restore
  routineCount := s.farReport_routineCount timed
  offset _ := by simp
  settled _ settled := settled.of_same (by simp) (by simp) (by simp) fun f => by
    refine State.expiryDue_congr f ?_ ?_ ?_ ?_ (State.guard_congr ?_ ?_) ?_
    all_goals simp [State.receiving, State.activeEntry]
  fresh := s.farReport_keepsPlan timed

theorem State.MarkerShared.skewIf (s : State) (now : Bool) (b : Bearer) (t : Superframe)
    (stamp : LinkTime) : s.MarkerShared (s.skewIf now b t stamp) := by
  cases now with
  | true => exact .skewMarker s b t stamp
  | false => exact .refl s

theorem State.MarkerShared.reportIf (s : State) (now timed : Bool) :
    s.MarkerShared (s.reportIf now timed) := by
  cases now with
  | true => exact .farReport s timed
  | false => exact .refl s

theorem State.MarkerShared.skewAndReport (s : State) (skew report : Bool) (b : Bearer)
    (m : MarkerRecord) :
    s.MarkerShared ((s.skewIf skew b m.sf m.stamp).reportIf report m.farFibreTimed) :=
  (State.MarkerShared.skewIf ..).trans (State.MarkerShared.reportIf ..)

/-! ### A source marker handed on (R89, R98) -/

/-- The marker of the source bearer as the Link Clock finds it: `pre` the part once the shares before
the Link Clock's are done, `held` the marker when the Skew Unit has not taken it yet. -/
structure State.SourceMarker (s : State) (b : Bearer) (m : MarkerRecord) (pre : State)
    (held : Option (Bearer × LinkTime)) : Prop where
  shared : s.MarkerShared pre
  skew : held = none ∧ pre.skew = (s.skewMarker b m.sf m.stamp).skew ∨
    held = some (b, m.stamp) ∧ pre.skew = s.skew ∧
      pre.clock.radioOffset = s.clock.radioOffset

/-- The part at the end, `mid` being the part that the Link Clock's share left. -/
structure State.MarkerEnded (mid : State) (b : Bearer) (m : MarkerRecord)
    (held : Option (Bearer × LinkTime)) (t : State) : Prop where
  shared : mid.MarkerShared t
  skew : t.skew = if held = none then mid.skew else (mid.skewMarker b m.sf m.stamp).skew

/-- A source marker goes to the Link Clock among the shares of the other two blocks. -/
theorem State.handOnMarker_source {s : State} {b : Bearer} (source : s.isSource b = true)
    (m : MarkerRecord) (pins : Pins) : ∃ (pre : State) (held : Option (Bearer × LinkTime)),
      s.SourceMarker b m pre held ∧
      (pre.judgeMarker b m.sf m.stamp pins held).MarkerEnded b m held (s.handOnMarker b m pins) := by
  unfold State.handOnMarker
  rw [if_pos source]
  dsimp only
  cases s.race .clockBeforeSkew with
  | false =>
    exact ⟨_, none, ⟨.skewAndReport .., .inl ⟨rfl, State.reportIf_skew ..⟩⟩,
      .skewAndReport .., State.reportIf_skew ..⟩
  | true =>
    refine ⟨_, some (b, m.stamp), ⟨.skewAndReport .., .inr ⟨rfl, State.reportIf_skew .., ?_⟩⟩,
      .skewAndReport .., State.reportIf_skew ..⟩
    cases s.race .clockBeforePlanner with
    | false => exact congrArg LinkClock.radioOffset (s.farReport_clock m.farFibreTimed)
    | true => rfl

end Sys2Proof.Machine
end

section
/-! SUPPORT. The moves of link time that a source marker causes (R12 to R15): one entry of a slot
without a superframe start, a start, or a step. -/

namespace Sys2Proof.Machine

/-! ### One entry of a slot without a superframe start -/

/-- A slot entered with neither a start nor a strike changes the line filters, the lanes and what is
known of the holds alone (R58, R59, R123, R135). -/
theorem State.enterSlot_quiet {s : State} (quiet : s.strike.strikesOf s.pins = (false, false)) :
    ∃ (strike : StrikeMonitor) (fibreTx radioTx : Transmitter) (expired : Tab 64 Bool),
      s.enterSlot none = { s with
        strike := strike, fibreTx := fibreTx, radioTx := radioTx, expired := expired } := by
  unfold State.enterSlot
  dsimp only
  rw [State.sampleStrikes_quiet s quiet]
  unfold State.sendSlot
  dsimp only
  split <;> exact ⟨_, _, _, _, rfl⟩

/-! ### A move of link time (R2, R13, R14) -/

/-- A move of link time by `n` slots starts a superframe: it enters slot 0, going forward, of one that
was not the last started (R2, R13). -/
def State.moveStarts (s : State) (n : Int) : Prop :=
  0 < n ∧ (s.clock.time.advance n).sf ≠ s.clock.time.sf ∧
    (s.clock.time.advance n).sf ≠ s.clock.lastStarted

/-- The Skew Unit after a move of link time, which it follows unless nothing moves (R98). -/
def SkewUnit.afterMove (u : SkewUnit) (n : Int) (held : Option (Bearer × LinkTime)) : SkewUnit :=
  if n = 0 then u else u.followMove n held

section
variable {s : State} {n : Int} {pins : Pins} {held : Option (Bearer × LinkTime)}

/-- A move that starts no superframe, with no strike at its landing. -/
theorem State.moveTime_within (settled : s.settled) (within : ¬ s.moveStarts n)
    (quiet : s.strike.strikesOf pins = (false, false)) :
    ∃ (level : Pins) (strike : StrikeMonitor) (fibreTx radioTx : Transmitter)
      (expired : Tab 64 Bool), s.moveTime n pins held = { s with
        clock := { s.clock with time := s.clock.time.advance n }
        skew := s.skew.afterMove n held, pins := level, strike := strike, fibreTx := fibreTx
        radioTx := radioTx, expired := expired } := by
  by_cases still : n = 0
  · refine ⟨s.pins, s.strike, s.fibreTx, s.radioTx, s.expired, ?_⟩
    unfold State.moveTime SkewUnit.afterMove
    rw [if_pos still, if_pos still, still, LinkTime.advance_zero]
  · unfold State.moveTime SkewUnit.afterMove
    rw [if_neg still, if_neg still, State.settle_settled s settled]
    dsimp only
    rw [if_neg (by exact within)]
    obtain ⟨strike, fibreTx, radioTx, expired, entered⟩ := State.enterSlot_quiet
      (s := ((s.withPins pins).withSkew (s.skew.followMove n held)).setTime
        (s.clock.time.advance n)) quiet
    exact ⟨pins, strike, fibreTx, radioTx, expired, entered⟩

/-- The part that a move finds as the superframe start of its landing begins: the Skew Unit has
followed the move. -/
def State.beforeLanding (s : State) (n : Int) (held : Option (Bearer × LinkTime)) (occasion : Nat) :
    State :=
  { s with skew := s.skew.followMove n held, occasion := occasion }

/-- A move that starts a superframe is one entry of a slot, on the occasion of the marker. -/
theorem State.moveTime_starts {occasion : Nat} (settled : s.settled) (starts : s.moveStarts n)
    (marked : s.occasion = occasion + 1) :
    s.moveTime n pins held = ((s.beforeLanding n held occasion).standAt (s.clock.time.advance n)
      pins).enterSlot (some (s.clock.time.advance n).sf) := by
  have moves : n ≠ 0 := ne_of_gt starts.1
  unfold State.moveTime
  rw [if_neg moves, State.settle_settled s settled]
  dsimp only
  rw [if_pos (by exact starts)]
  congr 1
  cases s
  cases marked
  rfl

end

/-! ### TIME-STEP and a superframe start (R14, R15) -/

/-- The plan's part of a start raises SWAP-DONE, GRADE-CHANGE, SHED and RESTORE alone. -/
theorem State.planAtStart_read (s : State) (n : Superframe) {e : Fin 20} (shed : e ≠ EventId.shed.num)
    (restore : e ≠ EventId.restore.num) (grade : e ≠ EventId.gradeChange.num)
    (swap : e ≠ EventId.swapDone.num) :
    (s.planAtStart n).events.event.read e = s.events.event.read e := by
  unfold State.planAtStart
  dsimp only
  rw [State.recomputeIf_read _ _ shed restore, State.gradeTakesEffect_read _ grade,
    State.absenceAtStart_swapAtStart]
  split
  · rw [State.executeSwap_events, EventUnit.raise_read, if_neg swap]
    rfl
  · rfl

/-- A superframe start at which nothing ends tells of no step of link time. -/
theorem State.enterSlot_timeStep {s : State} {time : LinkTime} {pins : Pins}
    (noneOwed : s.owed = []) (ranges : s.rangesKept) (quiet : s.quietStart pins) :
    s.events.ToldAlike ((s.standAt time pins).enterSlot (some time.sf)).events .timeStep := by
  have unraised : ((((s.standAt time pins).collectingStart time.sf).sharesAtStart
      time.sf).events.event.read EventId.timeStep.num).flag = false := by
    have shared : (s.startAt time pins).sharesAtStart time.sf = _ :=
      State.sharedAt_eq (time := time) ranges quiet
    rw [State.collectingStart_standAt noneOwed, shared,
      (State.formBatches_frame _).events _ (by decide), State.openedAt_events,
      State.planAtStart_read _ _ (by decide) (by decide) (by decide) (by decide)]
    exact congrArg EventState.flag (s.events.collecting_read _)
  have told := State.superframeStart_toldAlike (s := s.standAt time pins) (n := time.sf)
    (e := .timeStep) (by decide) noneOwed unraised
  have events : (s.enteredAt time pins).events = (s.startedAt time pins).events := by
    simp [State.enteredAt, State.filteredAt]
  rw [State.enterSlot_started noneOwed ranges quiet, events]
  exact told

end Sys2Proof.Machine
end

section
/-! SUPPORT. A marker of the MAST's source bearer, from its taking to the end of the Link Clock's move
of link time (R11 to R14, R89, R98). -/

namespace Sys2Proof.Machine

/-! ### The source bearer's receiver (R10, R87) -/

/-- The source bearer's receiver is TIMED, and the radio is the source only without the fibre
(R10). -/
theorem State.sourceChosen.timed {s : State} {b : Bearer} (chosen : s.sourceChosen)
    (mast : s.role = .mast) (source : s.clock.source = some b) :
    s.timed b = true ∧ (b = .radio → s.timed .fibre = false) := by
  unfold State.sourceChosen at chosen
  rw [source, mast] at chosen
  dsimp only at chosen
  unfold sourceOf at chosen
  split at chosen
  · next fibre => cases chosen; exact ⟨fibre, fun radio => by cases radio⟩
  · next noFibre =>
    split at chosen
    · next radio => cases chosen; exact ⟨radio, fun _ => Bool.eq_false_iff.mpr noFibre⟩
    · cases chosen

/-- The source offset is the Radio Offset for the radio alone (R11). -/
theorem LinkClock.expectedPosition_congr {c d : LinkClock} {b : Bearer}
    (offset : b = .radio → d.radioOffset = c.radioOffset) (t : Superframe) :
    d.expectedPosition b t = c.expectedPosition b t := by
  unfold LinkClock.expectedPosition LinkClock.sourceOffset
  cases b with
  | fibre => rfl
  | radio => rw [offset rfl]

/-- A TIMED receiver that takes a marker raises no event and chooses no source (R87, R88). -/
theorem State.tookMarker_timed {s : State} {b : Bearer} (timed : s.timed b = true) (m : Marker) :
    s.tookMarker b m = s.nextOccasion.withRx b
      ((s.rx b).endBadRun.takeMarker (m.record s.clock.time)) := by
  have stays : (s.pastGoodHeader b).timed b = true := by
    cases b <;> exact timed
  unfold State.tookMarker State.receiverMarker
  dsimp only
  rw [if_pos stays]
  cases b <;> rfl

/-! ### The part as the Link Clock judges the marker (R12) -/

/-- `pre` is `s` as the Link Clock judges the marker `m` of the source bearer `b`; `held` is the marker
while the Skew Unit has not taken it. -/
structure State.ToJudge (s : State) (b : Bearer) (m : Marker) (pre : State)
    (held : Option (Bearer × LinkTime)) : Prop where
  settled : pre.settled
  clock : pre.clock = { s.clock with radioOffset := pre.clock.radioOffset }
  position : pre.clock.expectedPosition b m.sf = s.clock.expectedPosition b m.sf
  offset : s.timed (otherBearer b) = false → pre.clock.radioOffset = s.clock.radioOffset
  timed : ∀ c : Bearer, pre.timed c = s.timed c
  record : (pre.rx b).record = some (m.record s.clock.time)
  absence : (pre.rx b).markerAbsence = 0
  other : pre.rx (otherBearer b) = s.rx (otherBearer b)
  kept : pre.table = s.table ∧ pre.ingress = s.ingress ∧ pre.batch = s.batch ∧
    pre.merge = s.merge ∧ pre.strike = s.strike ∧ pre.egress = s.egress ∧ pre.tally = s.tally ∧
    pre.mgmt = s.mgmt
  occasion : pre.occasion = s.occasion + 1
  timeStep : pre.events.event.read EventId.timeStep.num =
    s.events.event.read EventId.timeStep.num
  routineCount : pre.events.routineCount = s.events.routineCount
  skew : held = none ∧ pre.skew = (s.skewMarker b m.sf s.clock.time).skew ∨
    held = some (b, s.clock.time) ∧ pre.skew = s.skew

section
variable {s : State} {b : Bearer} (settled : s.settled) (mast : s.role = .mast)
  (chosen : s.sourceChosen) (source : s.clock.source = some b)
  (calm : s.timed (otherBearer b) = false ∨ ∀ f : Flow, (s.merge.window.read f).held = [])
include settled mast chosen source calm

/-- A marker of the source bearer is taken by its receiver, and the Link Clock judges it once before
or after the other blocks' shares (R87, R89). -/
theorem exec_sourceMarker (m : Marker) (pins : Pins) :
    ∃ (pre : State) (held : Option (Bearer × LinkTime)) (t : State),
      s.ToJudge b m pre held ∧
      exec (.receivedCell b (markerCellBytes m) pins) s = .next t ∧
      (pre.judgeMarker b m.sf s.clock.time pins held).MarkerEnded b (m.record s.clock.time)
        held t := by
  obtain ⟨timed, radioAlone⟩ := chosen.timed mast source
  have locked : (s.rx b).locked := .inr (by simpa [State.timed] using timed)
  have took := State.tookMarker_timed timed m
  have isSource : (s.tookMarker b m).isSource b = true := by
    rw [took]; simp [State.isSource, mast, source]
  have sameTimed (c : Bearer) : (s.tookMarker b m).timed c = s.timed c := by
    obtain same | other : c = b ∨ c = otherBearer b := by cases b <;> cases c <;> simp [otherBearer]
    · rw [same, State.tookMarker_timed_same, timed]
    · rw [other, State.tookMarker_timed_other]
  have notBoth (other : s.timed (otherBearer b) = false) :
      ¬ ((s.tookMarker b m).timed .fibre = true ∧ (s.tookMarker b m).timed .radio = true) := by
    rw [sameTimed, sameTimed]
    exact State.not_both_timed other
  have quiet : (s.tookMarker b m).sampleQuiet := calm.imp notBoth fun empty => by
    rw [took]; simpa using empty
  have taken : (s.tookMarker b m).settled := by
    rw [took]
    refine settled.of_same (by simp) (by simp) (by simp) fun f => ?_
    refine State.expiryDue_congr f ?_ ?_ ?_ ?_ (State.guard_congr ?_ ?_) ?_
    all_goals simp [State.receiving, State.activeEntry]
  obtain ⟨pre, held, ⟨shared, skew⟩, ended⟩ :=
    State.handOnMarker_source isSource (m.record s.clock.time) pins
  have clock : (s.tookMarker b m).clock = s.clock := by rw [took]; simp
  have offset (other : s.timed (otherBearer b) = false) :
      pre.clock.radioOffset = s.clock.radioOffset :=
    (shared.offset (notBoth other)).trans (by rw [clock])
  have marked : ((s.tookMarker b m).skewMarker b m.sf s.clock.time).skew =
      (s.skewMarker b m.sf s.clock.time).skew := by
    rw [State.skewMarker_skew, State.skewMarker_skew, sameTimed, sameTimed, took]
    simp
  refine ⟨pre, held, _, ?_, exec_receivedCell_marker m pins settled.1 locked, ended⟩
  exact
    { settled := shared.settled quiet taken
      clock := shared.clock.trans (by rw [clock])
      position := LinkClock.expectedPosition_congr (fun radio => offset (by
        subst radio; exact radioAlone rfl)) m.sf
      offset := offset
      timed := fun c => (shared.timed c).trans (sameTimed c)
      record := by rw [shared.rx, State.tookMarker_rx_same]
      absence := by rw [shared.rx, State.tookMarker_rx_same]
      other := by rw [shared.rx, State.tookMarker_rx_other]
      kept := by
        rw [shared.table, shared.ingress, shared.batch, shared.merge, shared.strike, shared.egress,
          shared.tally, shared.mgmt, took]
        simp
      occasion := shared.occasion.trans (by rw [took]; simp [State.nextOccasion])
      timeStep := (shared.told _ (by decide) (by decide) (by decide)).trans (by rw [took]; simp)
      routineCount := shared.routineCount.trans (by rw [took]; simp)
      skew := by
        refine skew.imp (fun ⟨first, taken⟩ => ⟨first, taken.trans marked⟩)
          fun ⟨later, same, _⟩ => ⟨later, same.trans ?_⟩
        rw [took]; simp }

end

/-! ### The Skew Unit after the move (R98) -/

/-- Whichever of the Skew Unit and the Link Clock took the marker first, the list has it at its stamp
and has followed the move (R97, R98). -/
theorem State.ToJudge.skew_moved {s pre mid t : State} {b : Bearer} {m : Marker} {n : Int}
    {held : Option (Bearer × LinkTime)} (judges : s.ToJudge b m pre held)
    (idle : s.skew.adjustment = none) (timed : ∀ c, mid.timed c = s.timed c)
    (moved : mid.skew = pre.skew.afterMove n held)
    (ended : mid.MarkerEnded b (m.record s.clock.time) held t) :
    t.skew = (s.skewMarker b m.sf s.clock.time).skew.move n := by
  rw [ended.skew]
  by_cases still : n = 0
  · subst still
    rw [SkewUnit.afterMove, if_pos rfl] at moved
    rw [SkewUnit.move_zero]
    obtain ⟨rfl, first⟩ | ⟨rfl, later⟩ := judges.skew
    · rw [if_pos rfl, moved, first]
    · rw [if_neg (by simp), State.skewMarker_skew, State.skewMarker_skew, moved, later, timed, timed]
      rfl
  · rw [SkewUnit.afterMove, if_neg still] at moved
    obtain ⟨rfl, first⟩ | ⟨rfl, later⟩ := judges.skew
    · rw [if_pos rfl, moved, first]
      rfl
    · rw [if_neg (by simp)]
      exact State.skewMarker_after_move idle timed (by rw [moved, later]; rfl) m.sf

end Sys2Proof.Machine
end

section
/-! SUPPORT. Link time moved by a source marker, to the end of the step (R12 to R14), and the proof
about an agreeing marker. -/

namespace Sys2Proof.Machine

/-! ### The move after the judging -/

/-- The part as link time moves, the disagreement count judged (R13, R14). -/
def State.counting (s : State) (disagreements : Nat) : State :=
  s.withClock { s.clock with disagreements := disagreements }

theorem State.settled.counting {s : State} (settled : s.settled) (d : Nat) :
    (s.counting d).settled :=
  settled.of_same rfl rfl rfl fun f => State.expiryDue_congr f rfl rfl rfl rfl rfl rfl

section
variable {s pre t : State} {b : Bearer} {m : Marker} {n : Int} {d : Nat} {pins : Pins}
  {held : Option (Bearer × LinkTime)} (judges : s.ToJudge b m pre held)
include judges

theorem State.ToJudge.time : pre.clock.time = s.clock.time := by
  rw [judges.clock]

theorem State.ToJudge.advance :
    (pre.counting d).clock.time.advance n = s.clock.time.advance n :=
  congrArg (LinkTime.advance · n) judges.time

theorem State.ToJudge.moveStarts : (pre.counting d).moveStarts n ↔ s.moveStarts n := by
  unfold State.moveStarts State.counting
  rw [State.withClock_clock, judges.clock]

theorem State.ToJudge.strikes (quiet : s.strike.strikesOf pins = (false, false)) :
    (pre.counting d).strike.strikesOf pins = (false, false) := by
  obtain ⟨-, -, -, -, strike, -⟩ := judges.kept
  unfold State.counting
  rw [State.withClock_strike, strike]
  exact quiet

theorem State.ToJudge.ranges (ranges : s.rangesKept) (occasion : Nat) :
    ((pre.counting d).beforeLanding n held occasion).rangesKept := by
  obtain ⟨-, -, -, -, strike, -, tally, mgmt⟩ := judges.kept
  unfold State.rangesKept State.beforeLanding State.counting
  dsimp only [State.withClock]
  rw [strike, tally, mgmt, judges.routineCount]
  exact ranges

/-- A receiver that has just taken a marker ends no absence at the next start (R90). -/
theorem State.ToJudge.quietStart (quiet : s.quietStart pins) (occasion : Nat) :
    ((pre.counting d).beforeLanding n held occasion).quietStart pins := by
  obtain ⟨storm, tallyLoss, fibre, radio, strikes⟩ := quiet
  obtain ⟨-, -, -, -, strike, -, tally, -⟩ := judges.kept
  have taken : (pre.rx b).ending = false := by
    rw [Receiver.ending, judges.absence]; simp
  have receivers (c : Bearer) (still : (s.rx c).ending = false) : (pre.rx c).ending = false := by
    obtain same | other : c = b ∨ c = otherBearer b := by cases b <;> cases c <;> simp [otherBearer]
    · rw [same]; exact taken
    · rw [other, judges.other, ← other]; exact still
  refine ⟨?_, ?_, receivers .fibre fibre, receivers .radio radio, ?_⟩
  · exact (congrArg StrikeMonitor.ending strike).trans storm
  · exact (congrArg TallyUnit.ending tally).trans tallyLoss
  · exact (congrArg (fun u => u.strikesOf pins) strike).trans strikes

/-- What the blocks hold once link time has moved without a superframe start. -/
theorem State.ToJudge.movedWithin (idle : s.skew.adjustment = none)
    (quiet : s.strike.strikesOf pins = (false, false)) (within : ¬ s.moveStarts n)
    (ended : ((pre.counting d).moveTime n pins held).MarkerEnded b (m.record s.clock.time) held t) :
    t.clock = { s.clock with
      time := s.clock.time.advance n, disagreements := d, radioOffset := t.clock.radioOffset } ∧
    (s.timed (otherBearer b) = false → t.clock.radioOffset = s.clock.radioOffset) ∧
    (t.rx b).record = some (m.record s.clock.time) ∧
    t.skew = (s.skewMarker b m.sf s.clock.time).skew.move n ∧
    t.table = s.table ∧ t.batch = s.batch ∧ t.ingress = s.ingress ∧ t.merge = s.merge ∧
    t.egress = s.egress ∧ t.mgmt = s.mgmt ∧
    t.events.event.read EventId.timeStep.num = s.events.event.read EventId.timeStep.num := by
  have settled := judges.settled.counting d
  obtain ⟨level, strike, fibreTx, radioTx, expired, moved⟩ := State.moveTime_within (held := held)
    settled (mt judges.moveStarts.mp within) (judges.strikes quiet)
  have shared := ended.shared
  obtain ⟨table, ingress, batch, merge, -, egress, -, mgmt⟩ := judges.kept
  have timed (c : Bearer) : ((pre.counting d).moveTime n pins held).timed c = s.timed c := by
    rw [moved, ← judges.timed]; cases c <;> rfl
  have record : (((pre.counting d).moveTime n pins held).rx b).record =
      some (m.record s.clock.time) := by
    rw [moved, ← judges.record]; cases b <;> rfl
  have clock : ((pre.counting d).moveTime n pins held).clock = { s.clock with
      time := s.clock.time.advance n, disagreements := d
      radioOffset := pre.clock.radioOffset } := by
    rw [moved]
    dsimp only
    rw [judges.advance]
    unfold State.counting
    rw [State.withClock_clock, judges.clock]
  have offset (alone : s.timed (otherBearer b) = false) :
      t.clock.radioOffset = s.clock.radioOffset := by
    refine (shared.offset ?_).trans ((congrArg LinkClock.radioOffset clock).trans
      (judges.offset alone))
    rw [timed, timed]
    exact State.not_both_timed alone
  refine ⟨shared.clock.trans (by rw [clock]), offset, by rw [shared.rx]; exact record,
    judges.skew_moved idle timed (by rw [moved]; rfl) ended, ?_, ?_, ?_, ?_, ?_, ?_, ?_⟩
  · rw [shared.table, moved]; exact table
  · rw [shared.batch, moved]; exact batch
  · rw [shared.ingress, moved]; exact ingress
  · rw [shared.merge, moved]; exact merge
  · rw [shared.egress, moved]; exact egress
  · rw [shared.mgmt, moved]; exact mgmt
  · rw [shared.told _ (by decide) (by decide) (by decide), moved]; exact judges.timeStep

/-- What the blocks hold once link time has moved into a superframe and started it. -/
theorem State.ToJudge.movedInto (idle : s.skew.adjustment = none) (ranges : s.rangesKept)
    (quiet : s.quietStart pins) (starts : s.moveStarts n)
    (ended : ((pre.counting d).moveTime n pins held).MarkerEnded b (m.record s.clock.time) held t) :
    t.clock = { s.clock with
      time := s.clock.time.advance n, lastStarted := (s.clock.time.advance n).sf
      disagreements := d, radioOffset := t.clock.radioOffset } ∧
    (t.rx b).record = some (m.record s.clock.time) ∧
    t.skew = (s.skewMarker b m.sf s.clock.time).skew.move n ∧
    t.table = (if s.table.pendingSwap = some (s.clock.time.advance n).sf then s.table.swapped
      else s.table) ∧
    t.egress = s.egress ∧ s.events.ToldAlike t.events .timeStep := by
  have settled := judges.settled.counting d
  have moved := State.moveTime_starts (pins := pins) (held := held) (occasion := s.occasion) settled
    (judges.moveStarts.mpr starts) judges.occasion
  rw [judges.advance] at moved
  obtain ⟨-, noneOwed, noneDue⟩ := settled
  have idleHolds (f : Flow) : (pre.counting d).expired.read f = false :=
    (Bool.or_eq_false_iff.mp (noneDue f)).1
  have ranges' := judges.ranges (n := n) (d := d) ranges s.occasion
  have quiet' := judges.quietStart (n := n) (d := d) quiet s.occasion
  have started := State.enterSlot_superframeStarted (s.clock.time.advance n)
    (s := (pre.counting d).beforeLanding n held s.occasion) noneOwed idleHolds ranges' quiet'
  have told := State.enterSlot_timeStep (time := s.clock.time.advance n)
    (s := (pre.counting d).beforeLanding n held s.occasion) noneOwed ranges' quiet'
  rw [← moved] at started told
  have shared := ended.shared
  obtain ⟨table, -, -, -, -, egress, -⟩ := judges.kept
  have rx (c : Bearer) : ((pre.counting d).beforeLanding n held s.occasion).rx c = pre.rx c := by
    cases c <;> rfl
  have timed (c : Bearer) : ((pre.counting d).moveTime n pins held).timed c = s.timed c := by
    rw [← judges.timed, State.timed, started.receivers, rx]; rfl
  have clock : ((pre.counting d).moveTime n pins held).clock = { s.clock with
      time := s.clock.time.advance n, lastStarted := (s.clock.time.advance n).sf
      disagreements := d, radioOffset := pre.clock.radioOffset } := by
    rw [started.clock]
    unfold State.beforeLanding State.counting
    dsimp only [State.withClock]
    rw [judges.clock]
  obtain ⟨skew, sameEgress, -⟩ := started.others
  have followed : ((pre.counting d).moveTime n pins held).skew = pre.skew.afterMove n held := by
    rw [skew, SkewUnit.afterMove, if_neg (ne_of_gt starts.1)]; rfl
  refine ⟨shared.clock.trans (by rw [clock]), ?_, judges.skew_moved idle timed followed ended, ?_,
    ?_, ?_⟩
  · rw [shared.rx, started.receivers, rx]
    exact judges.record
  · rw [shared.table, started.table]
    exact congrArg (fun u : TableControl =>
      if u.pendingSwap = some (s.clock.time.advance n).sf then u.swapped else u) table
  · rw [shared.egress, sameEgress]; exact egress
  · have before : ((pre.counting d).beforeLanding n held s.occasion).events.event.read
        EventId.timeStep.num = s.events.event.read EventId.timeStep.num := judges.timeStep
    unfold EventUnit.ToldAlike at told ⊢
    rw [shared.told _ (by decide) (by decide) (by decide), ← before]
    exact told

/-! ### An agreeing marker (R13) -/

/-- A source marker that agrees moves link time by its difference, the count 0 (R12, R13). -/
theorem State.ToJudge.agreed {p : LinkTime} (position : s.clock.expectedPosition b m.sf = p)
    (low : -768 ≤ difference p s.clock.time) (high : difference p s.clock.time ≤ 767) :
    pre.judgeMarker b m.sf s.clock.time pins held =
      (pre.counting 0).moveTime (difference p s.clock.time) pins held := by
  unfold State.judgeMarker
  dsimp only
  rw [judges.position, position, if_pos (by simp [agrees, low, high])]
  rfl

end

/-- Settles O28: the receiver and the other blocks take the marker, and the Link Clock moves link time
by the difference, with a start or without one. -/
theorem sourceMarkerMovesLinkTime : Obligations.SourceMarkerMovesLinkTime := by
  intro b m pins s settled mast chosen source idle calm offset p δ starts high low
  obtain ⟨pre, held, t, judges, taken, ended⟩ :=
    exec_sourceMarker settled mast chosen source calm m pins
  have position : s.clock.expectedPosition b m.sf = p := by cases b <;> rfl
  have arrives : s.clock.time.advance δ = p := LinkTime.advance_difference p s.clock.time
  have sameStarts : starts ↔ s.moveStarts δ := by
    rw [State.moveStarts, arrives]
  rw [judges.agreed position low high] at ended
  refine ⟨fun within quiet => ?_, fun begins ranges quiet => ?_⟩
  · obtain ⟨clock, radioOffset, record, skew, table, -, -, merge, egress, mgmt, -⟩ :=
      judges.movedWithin idle quiet (mt sameStarts.mpr within) ended
    rw [arrives] at clock
    exact ⟨t, taken, clock, radioOffset, record, skew, table, merge, egress, mgmt⟩
  · obtain ⟨clock, record, skew, table, egress, -⟩ :=
      judges.movedInto idle ranges quiet (sameStarts.mp begins) ended
    rw [arrives] at clock table
    exact ⟨t, taken, clock, record, skew, table, egress⟩

end Sys2Proof.Machine
end

section
/-! SUPPORT. Source markers that disagree with link time: the correction of the first and the step of
the second (R12, R14, R15, R35). -/

namespace Sys2Proof.Machine

/-! ### A first disagreement (R14) -/

/-- r is the one number of slots in its range that leads to P's slot (R12). -/
theorem foldedSlots_unique (p a : LinkTime) {r : Int} (low : -768 ≤ r) (high : r ≤ 767)
    (leads : ∃ k : Int, (p.slot.val : Int) - a.slot.val = r + 1536 * k) : foldedSlots p a = r := by
  obtain ⟨k, leads⟩ := leads
  have slotP := p.slot.isLt
  have slotA := a.slot.isLt
  unfold foldedSlots
  dsimp only
  (repeat' split) <;> omega

/-- A difference outside R12's range disagrees. -/
theorem agrees_eq_false {δ : Int} (far : δ < -768 ∨ 767 < δ) : agrees δ = false := by
  simp only [agrees, Bool.and_eq_false_iff, decide_eq_false_iff_not]
  omega

section
variable {s pre t : State} {b : Bearer} {m : Marker} {p : LinkTime} {pins : Pins}
  {held : Option (Bearer × LinkTime)} (judges : s.ToJudge b m pre held)
  (position : s.clock.expectedPosition b m.sf = p)
  (far : difference p s.clock.time < -768 ∨ 767 < difference p s.clock.time)
include judges position far

/-- A first source marker that disagrees moves link time to P's slot, counted (R14). -/
theorem State.ToJudge.disagreedFirst (first : s.clock.disagreements = 0) :
    pre.judgeMarker b m.sf s.clock.time pins held =
      (pre.counting 1).moveTime (foldedSlots p s.clock.time) pins held := by
  have none : pre.clock.disagreements = 0 := by rw [judges.clock]; exact first
  unfold State.judgeMarker
  dsimp only
  rw [judges.position, position, agrees_eq_false far, none, if_neg Bool.false_ne_true,
    if_neg (by decide)]
  rfl

/-- A second in succession steps link time to P (R14, R15). -/
theorem State.ToJudge.disagreedAgain (second : s.clock.disagreements = 1) :
    pre.judgeMarker b m.sf s.clock.time pins held =
      pre.stepTime s.clock.time p pins held := by
  have one : pre.clock.disagreements = 1 := by rw [judges.clock]; exact second
  unfold State.judgeMarker
  dsimp only
  rw [judges.position, position, agrees_eq_false far, one, if_neg Bool.false_ne_true,
    if_pos (by decide)]

end

/-! ### The step (R15, R35) -/

/-- The part as the step tells of itself, link time at P, before a swap that it passes over (R15). -/
def State.stepped (s : State) (a p : LinkTime) (pins : Pins) (held : Option (Bearer × LinkTime)) :
    State :=
  (((s.withPins pins).withSkew (s.skew.followMove (difference p a) held)).withClock
    { s.clock with time := p, lastStarted := p.sf, disagreements := 0 }).raise .timeStep
      (.step a.sf p.sf)

/-- A step is a swap that it passes over and one entry of a slot without a start (R15, R35). -/
theorem State.stepTime_quiet {s : State} (settled : s.settled) {pins : Pins}
    (quiet : s.strike.strikesOf pins = (false, false)) (a p : LinkTime)
    (held : Option (Bearer × LinkTime)) :
    ∃ (strike : StrikeMonitor) (fibreTx radioTx : Transmitter) (expired : Tab 64 Bool),
      s.stepTime a p pins held = { (s.stepped a p pins held).swapAtStep a.sf p.sf with
        strike := strike, fibreTx := fibreTx, radioTx := radioTx, expired := expired } := by
  unfold State.stepTime
  rw [State.settle_settled s settled]
  exact State.enterSlot_quiet (s := (s.stepped a p pins held).swapAtStep a.sf p.sf)
    (by rw [State.swapAtStep_strike, State.swapAtStep_pins]; exact quiet)

theorem steppedOver_iff (old new x : Superframe) : steppedOver old new x = true ↔
    1 ≤ (x - old).toNat ∧ (x - old).toNat ≤ (new - old).toNat := by
  rw [steppedOver, Bool.and_eq_true, decide_eq_true_eq, decide_eq_true_eq]

/-- No swap pending that a step passes over, nothing is swapped (R35). -/
theorem State.swapAtStep_none {s : State} {old new : Superframe}
    (none : ∀ x : Superframe, s.table.pendingSwap = some x → steppedOver old new x = false) :
    s.swapAtStep old new = s := by
  unfold State.swapAtStep
  split
  · next x pending => rw [if_neg (by simp [none x pending])]
  · rfl

/-- A pending swap that a step passes over is executed, and the plan is computed (R35, R71). -/
theorem State.swapAtStep_some {s : State} {old new x : Superframe}
    (pending : s.table.pendingSwap = some x) (passed : steppedOver old new x = true) :
    s.swapAtStep old new = (s.executeSwap x).recomputePlan := by
  unfold State.swapAtStep
  rw [pending]
  exact if_pos passed

/-- A swap at a step raises SWAP-DONE, SHED and RESTORE alone. -/
theorem State.swapAtStep_read (s : State) (old new : Superframe) {e : Fin 20}
    (shed : e ≠ EventId.shed.num) (restore : e ≠ EventId.restore.num)
    (swap : e ≠ EventId.swapDone.num) :
    (s.swapAtStep old new).events.event.read e = s.events.event.read e := by
  unfold State.swapAtStep
  split
  · split
    · rw [State.recomputePlan_read _ _ shed restore, State.executeSwap_events,
        EventUnit.raise_read, if_neg swap]
    · rfl
  · rfl

section
variable {s pre t : State} {b : Bearer} {m : Marker} {p : LinkTime} {pins : Pins}
  {held : Option (Bearer × LinkTime)} (judges : s.ToJudge b m pre held)
include judges

/-- The part before the swap of a step has the tables, the windows and the batches that stood, and
TIME-STEP told (R15). -/
theorem State.ToJudge.stepped_kept :
    let u := pre.stepped s.clock.time p pins held
    u.clock = { s.clock with
      time := p, lastStarted := p.sf, disagreements := 0, radioOffset := pre.clock.radioOffset } ∧
    u.table = s.table ∧ u.ingress = s.ingress ∧ u.batch = s.batch ∧ u.merge = s.merge ∧
    u.egress = s.egress ∧ u.mgmt = s.mgmt ∧
    u.events.event.read EventId.timeStep.num = EventState.raised (.step s.clock.time.sf p.sf) ∧
    u.events.routineCount = s.events.routineCount := by
  obtain ⟨table, ingress, batch, merge, -, egress, -, mgmt⟩ := judges.kept
  refine ⟨?_, table, ingress, batch, merge, egress, mgmt, ?_, judges.routineCount⟩
  · unfold State.stepped
    rw [State.raise_clock, State.withClock_clock, judges.clock]
  · exact (EventUnit.raise_read ..).trans (if_pos rfl)

/-- What the blocks hold once link time has stepped, whatever swap the step executes. -/
theorem State.ToJudge.steppedTo (quiet : s.strike.strikesOf pins = (false, false))
    (ended : (pre.stepTime s.clock.time p pins held).MarkerEnded b (m.record s.clock.time) held t) :
    t.clock = { s.clock with
      time := p, lastStarted := p.sf, disagreements := 0, radioOffset := t.clock.radioOffset } ∧
    t.events.event.read EventId.timeStep.num = EventState.raised (.step s.clock.time.sf p.sf) ∧
    t.events.routineCount = s.events.routineCount ∧
    t.egress = s.egress ∧ t.mgmt = s.mgmt ∧ t.ingress = s.ingress ∧
    ((∀ x : Superframe, s.table.pendingSwap = some x →
        steppedOver s.clock.time.sf p.sf x = false) →
      t.table = s.table ∧ t.merge = s.merge ∧ t.batch = s.batch) ∧
    (∀ x : Superframe, s.table.pendingSwap = some x → steppedOver s.clock.time.sf p.sf x = true →
      t.table = s.table.swapped ∧
      t.events.event.read EventId.swapDone.num = EventState.raised (.superframe x) ∧
      t.planFresh) := by
  have noStrike : pre.strike.strikesOf pins = (false, false) := by
    obtain ⟨-, -, -, -, strike, -⟩ := judges.kept
    rw [strike]
    exact quiet
  obtain ⟨strike, fibreTx, radioTx, expired, stepped⟩ :=
    State.stepTime_quiet judges.settled noStrike s.clock.time p held
  obtain ⟨clock, table, ingress, batch, merge, egress, mgmt, timeStep, routineCount⟩ :=
    judges.stepped_kept (p := p) (pins := pins)
  have shared := ended.shared
  have atEnd := (congrArg State.clock stepped).trans ((State.swapAtStep_clock ..).trans clock)
  refine ⟨shared.clock.trans (by rw [atEnd]), ?_, ?_, ?_, ?_, ?_, fun none => ?_,
    fun x pending passed => ?_⟩
  · rw [shared.told _ (by decide) (by decide) (by decide), stepped]
    exact (State.swapAtStep_read _ _ _ (by decide) (by decide) (by decide)).trans timeStep
  · rw [shared.routineCount, stepped]
    exact (State.swapAtStep_routineCount ..).trans routineCount
  · rw [shared.egress, stepped]
    exact (State.swapAtStep_egress ..).trans egress
  · rw [shared.mgmt, stepped]
    exact (State.swapAtStep_mgmt ..).trans mgmt
  · rw [shared.ingress, stepped]
    exact (State.swapAtStep_ingress ..).trans ingress
  · rw [State.swapAtStep_none (by rw [table]; exact none)] at stepped
    rw [shared.table, shared.merge, shared.batch, stepped]
    exact ⟨table, merge, batch⟩
  · rw [State.swapAtStep_some (by rw [table]; exact pending) passed] at stepped
    refine ⟨?_, ?_, shared.fresh ?_⟩
    · rw [shared.table, stepped]
      refine (State.recomputePlan_table _).trans ((State.executeSwap_table ..).trans ?_)
      rw [table]
    · rw [shared.told _ (by decide) (by decide) (by decide), stepped]
      refine (State.recomputePlan_read _ _ (by decide) (by decide)).trans ?_
      rw [State.executeSwap_events, EventUnit.raise_read, if_pos rfl]
    · rw [stepped]
      exact State.recomputePlan_planFresh _

end

/-- Settles O29: the first disagreement is a move to P's slot, the second a step to P. -/
theorem secondDisagreementSteps : Obligations.SecondDisagreementSteps := by
  intro b m pins s settled mast chosen source idle calm offset p far
  obtain ⟨pre, held, t, judges, taken, ended⟩ :=
    exec_sourceMarker settled mast chosen source calm m pins
  have position : s.clock.expectedPosition b m.sf = p := by cases b <;> rfl
  refine ⟨fun r low high leads first => ?_, fun second quiet => ?_⟩
  · rw [judges.disagreedFirst position far first, foldedSlots_unique p s.clock.time low high leads]
      at ended
    refine ⟨fun within quiet => ?_, fun begins ranges quiet => ?_⟩
    · obtain ⟨clock, -, -, -, table, batch, ingress, merge, egress, mgmt, timeStep⟩ :=
        judges.movedWithin idle quiet within ended
      exact ⟨t, taken, clock, table, batch, ingress, merge, egress, mgmt, timeStep⟩
    · obtain ⟨clock, -, -, table, -, flag, detail⟩ :=
        judges.movedInto idle ranges quiet begins ended
      exact ⟨t, taken, clock, table, flag, detail⟩
  · rw [judges.disagreedAgain position far second] at ended
    obtain ⟨clock, timeStep, routineCount, egress, mgmt, ingress, unswapped, swapped⟩ :=
      judges.steppedTo quiet ended
    exact ⟨t, taken, clock, timeStep, routineCount, egress, mgmt, ingress,
      fun none => unswapped fun x pending => Bool.eq_false_iff.mpr
        (mt (steppedOver_iff _ _ _).mp (none x pending)),
      fun x pending through => swapped x pending ((steppedOver_iff _ _ _).mpr through)⟩

end Sys2Proof.Machine
end
